-- ==== Sys2Proof/Word.lean ====
section
/-! DEFINITION. The words the part exchanges: a byte of a port or of a link frame. -/

namespace Sys2Proof

/-- One byte of a partner port or of a station link (12, section 12.1). -/
abbrev Byte := BitVec 8

/-- A list of bytes in the order it is clocked. -/
abbrev Bytes := List Byte

end Sys2Proof
end

