-- ==== Sys2Proof/Syntax.lean ====
section
/-! DEFINITION. The commands the part takes: one constructor per row of spec/opcode_table.json, with the row's operands. -/

namespace Sys2Proof

/-- The three partner ports (10). -/
inductive PortId where
  | print
  | plan
  | console
deriving DecidableEq, Repr

/-- The four station links, numbered FEED 1, LAM 2, SLIT 3, XCUT 4 (12, section 12.2). -/
inductive LinkId where
  | feed
  | lam
  | slit
  | xcut
deriving DecidableEq, Repr

/-- The commands. A port command carries the port it is sent on and its parameter fields, each at the width of the
command code table (12, section 12.1); a field is an unsigned number of its width (R198), so that a value outside a
field's codes can be sent and is refused by the command's own check. -/
inductive Instr where
  -- events of the part's inputs and timers
  | hardwareReset
  | encoderForwardStep
  | encoderReverseStep
  | mark
  | emergencyStopActive
  | emergencyStopInactive
  | framePeriod
  /-- The bytes a station's frame delivers inside its frame period (R155, R201). -/
  | stationFrame (link : LinkId) (bytes : Bytes)
  | wakeTimerExpiry (link : LinkId)
  | armTimerExpiry (link : LinkId)
  | flywheelTimerExpiry (link : LinkId)
  | parkTimerExpiry (link : LinkId)
  | operationTimeout (link : LinkId)
  | rampTimerExpiry
  | syncPulseEnd
  | busyTimerExpiry
  /-- Select is released: `bytes` are the complete bytes clocked since the assembly last grew, `incomplete` says whether
  a byte of fewer than eight bits stood at the end (R176, log 2). -/
  | selectRelease (port : PortId) (bytes : Bytes) (incomplete : Bool)
  -- PRINT and PLAN commands
  | announcePanel (port : PortId) (panel length : BitVec 16) (cls policy plan : Byte) (gap : BitVec 16)
  | withdrawPanel (port : PortId) (panel : BitVec 16)
  | takeReprint (port : PortId)
  /-- `count` is the slit count as sent; `slits` are the positions sent after it (R49, R177). -/
  | planOpen (port : PortId) (plan ratio count : Byte) (slits : List (BitVec 16))
  /-- `count` is the offset count as sent; `offsets` are the offsets sent after it (R50, R177). -/
  | planAppend (port : PortId) (plan count : Byte) (offsets : List (BitVec 16))
  | planClose (port : PortId) (plan : Byte)
  | planDiscard (port : PortId) (plan : Byte)
  | takeOutcome (port : PortId)
  -- CONSOLE commands
  | lineStart (port : PortId)
  | lineStop (port : PortId)
  | speedSet (port : PortId) (speed : BitVec 16)
  | minSpeedSet (port : PortId) (speed : BitVec 16)
  | filmStandby (port : PortId) (length : BitVec 32)
  | filmThread (port : PortId) (length : BitVec 32)
  | spliceRequest (port : PortId)
  | linkAcknowledge (port : PortId) (link : Byte)
  | linkTest (port : PortId) (link : Byte)
  | linkTestEnd (port : PortId) (link : Byte)
  | zoneDefine (port : PortId) (mark nip commit slit knife : BitVec 16)
  | syncSet (port : PortId) (mode : Byte) (lead : BitVec 16)
  | thresholdSet (port : PortId) (high low : Byte)
  | registrationSet (port : PortId) (halfWidth tolerance : Byte)
  | gapSet (port : PortId) (transition splice spacing : BitVec 16)
  | scrapPanel (port : PortId) (panel : BitVec 16)
  | lineReset (port : PortId)
  -- commands of every port
  | hold (port : PortId)
  | release (port : PortId) (number : Byte)
  | readStatus (port : PortId)
  | readMapEntry (port : PortId) (selector : Byte) (key : BitVec 16)
  | readMapEntrySettled (port : PortId) (selector : Byte) (key : BitVec 16)
  | readPlan (port : PortId) (selector key : Byte)
  | readHoldContext (port : PortId) (depth : Byte)
  | readResult (port : PortId)
  | readNotices (port : PortId)
  | clearNotices (port : PortId) (set : BitVec 32)
  | setNoticeMask (port : PortId) (mask : BitVec 32)
  | setLatchMasked (port : PortId) (option : Byte)
  | readErrorCount (port : PortId) (source : Byte)
  | readIdent (port : PortId)
  /-- Select is asserted and a transaction begins (R176). -/
  | selectAssert (port : PortId)
deriving DecidableEq, Repr

end Sys2Proof
end

