-- ==== Sys2Proof/Decode.lean ====
section
/-! DEFINITION. The command a word spells by the bits of spec/opcode_table.json. The table gives no row any bits, so no
word spells a command. How the part reads a port's bytes is in Machine/Transactions.lean. -/

namespace Sys2Proof

/-- No row of the opcode table carries bits: every word is answered with none. -/
def decodeTableWord (_nbits _w : Nat) : Option Instr := none

end Sys2Proof
end

