-- ==== Sys2Proof/Config.lean ====
section
/-! DEFINITION. What the part fixes once (capacities, timer starts, limits) and the free values: the values the spec leaves open, which no proof can see. -/

namespace Sys2Proof.Config

/-- The odometer's top (R1, R3). -/
def odometerTop : Nat := 4294967295
/-- The most reverse debt the tracker accounts for (R2). -/
def debtMax : Nat := 500
/-- Places in the Panel Map (R16). -/
def mapSize : Nat := 48
/-- Places in the Plan Store (R45). -/
def planSize : Nat := 24
/-- Places in the reprint list (R35). -/
def reprintSize : Nat := 16
/-- Places in the outcome list (R37). -/
def outcomeSize : Nat := 32
/-- Places in the XCUT queue (R102). -/
def xcutSize : Nat := 24
/-- Places in the SLIT queue (R102). -/
def slitSize : Nat := 6
/-- Places on the hold stack (R122). -/
def holdSize : Nat := 4
/-- The most offsets a cut list holds (R46). -/
def cutListSize : Nat := 12
/-- The top of an error count (R157, R181). -/
def errorTop : Nat := 127
/-- The top of a repeat count (R126). -/
def repeatTop : Nat := 255
/-- The top of a test count (R167). -/
def testTop : Nat := 65535

/-- Timer starts in milliseconds (R158, R149, R14, R186). -/
def wakeMs : Nat := 250
def armMs : Nat := 250
def flywheelMs : Nat := 20
def parkMs : Nat := 40
def rampMs : Nat := 5
def syncPulseMs : Nat := 1
def busyMs : Nat := 5

/-- FREE VALUE (log 3). Which owner's crossing is taken next when the crossings of two or more owners are due on one
odometer advance: R9 has each owner take its crossings "independently of the others" and gives no order between owners. -/
opaque raceChoice : Nat → Nat

/-- FREE VALUE (log 25). How many of the window crossings due at one odometer value are taken before a mark that falls on
it: R66 calls them separate events and states the outcome for either order. -/
opaque markChoice : Nat → Nat

/-- FREE VALUE (log 4). The four bytes sent for a queue position or deadline above the odometer's top, which R8 allows
and R200 gives no coding; arguments: the counter and the position. -/
opaque beyondTop : Nat → Nat → BitVec 32

/-- FREE VALUE (log 5). The delta byte sent beside a registration result UNREAD, which has no delta (R17, R200). -/
opaque unreadDelta : Nat → Byte

/-- FREE VALUE (log 5). The splice-slot byte of the status record while the splice request is not PLACED (R100, R200). -/
opaque spliceSlotUnplaced : Nat → Byte

end Sys2Proof.Config
end

