-- ==== Sys2Proof/Machine/State.lean ====
section
/-! DEFINITION. The state of the part as plain data, block by block, its value after hardware reset, and the (empty) list of ways a command can stop. -/

namespace Sys2Proof.Machine

/-! ### Names of the spec -/

/-- A timer: stopped (none), or running with its remaining milliseconds (R158). -/
abbrev Timer := Option Nat

/-- Lamination class (R17). `bare` is the spec's NONE. -/
inductive LamClass where
  | bare
  | film
deriving DecidableEq, Repr

/-- Mark policy (R17). `unmarked` is the spec's NONE. -/
inductive MarkPolicy where
  | unmarked
  | optional
  | required
deriving DecidableEq, Repr

/-- Phase of a map entry (R17, section 2.5). -/
inductive Phase where
  | queued
  | onWeb
  | committed
  | atKnife
deriving DecidableEq, Repr

/-- Registration result with its signed delta; UNREAD has none (R17, R67, R68). -/
inductive RegResult where
  | on (delta : Int)
  | ahead (delta : Int)
  | behind (delta : Int)
  | unread
deriving DecidableEq, Repr

/-- Scrap reasons (R17). -/
inductive ScrapReason where
  | planUnderrun
  | planMismatch
  | regUnread
  | lamLate
  | filmOut
  | slitLate
  | cutMissed
  | stationFail
  | queueFull
  | operator
deriving DecidableEq, Repr

/-- Progress of an entry past the nip (R82) or the slitters (R105). `inside` is the spec's IN. -/
inductive Progress where
  | ahead
  | inside
  | past
deriving DecidableEq, Repr

/-- Status of a mark window (R65). -/
inductive WindowStatus where
  | notOpen
  | opened
  | resolved
deriving DecidableEq, Repr

/-- A mark window record (R65); its slot and panel number are those of the entry that holds it. -/
structure Window where
  expected : Nat
  halfWidth : Nat
  status : WindowStatus
deriving DecidableEq, Repr

/-- A slot together with the panel number it was named for (R18). -/
structure Target where
  slot : Nat
  panel : Nat
deriving DecidableEq, Repr

/-- A map entry (R17), with the records the other blocks keep for each entry as long as it lives: the window record
(R65), the nip progress (R82) and the slitter progress (R105). -/
structure MapEntry where
  slot : Nat
  panel : Nat
  head : Nat
  length : Nat
  cls : LamClass
  policy : MarkPolicy
  plan : Nat
  tailBefore : Nat
  phase : Phase
  tailCleared : Bool
  regResult : Option RegResult
  offset : Int
  spliceGap : Bool
  scrap : Option ScrapReason
  cutsMade : Nat
  cutsPending : Nat
  window : Option Window
  nip : Progress
  slitter : Progress
deriving DecidableEq, Repr

/-! ### The blocks -/

/-- The five zone distances (R5). -/
structure Zones where
  mark : Nat
  nip : Nat
  commit : Nat
  slit : Nat
  knife : Nat
deriving DecidableEq, Repr

inductive SyncMode where
  | off
  | head
  | headTail
deriving DecidableEq, Repr

/-- The Web Tracker (chapter 1). The SYNC output is active exactly while `syncPulse` runs (R14). -/
structure Tracker where
  odometer : Nat
  debt : Nat
  zones : Zones
  syncMode : SyncMode
  syncLead : Nat
  syncPulse : Timer
deriving DecidableEq, Repr

/-- A reprint record (R35). -/
structure ReprintRecord where
  panel : Nat
  plan : Nat
  length : Nat
  cls : LamClass
  reason : ScrapReason
deriving DecidableEq, Repr

/-- An outcome record (R37). The verdict is SCRAP exactly when a scrap reason is present (R30), so it is not stored twice. -/
structure OutcomeRecord where
  panel : Nat
  plan : Nat
  reason : Option ScrapReason
  regResult : Option RegResult
  cutsMade : Nat
deriving DecidableEq, Repr

/-- The Panel Map (chapter 2): entries in web order, oldest first (R16). -/
structure PanelMap where
  entries : List MapEntry
  lastTail : Nat
  lastClass : LamClass
  reprints : List ReprintRecord
  outcomes : List OutcomeRecord
  high : Nat
  low : Nat
deriving DecidableEq, Repr

inductive PlanState where
  | opened
  | closed
deriving DecidableEq, Repr

/-- A trim plan (R46). -/
structure Plan where
  number : Nat
  state : PlanState
  ratio : Nat
  slits : List Nat
  cuts : List Nat
  refs : Nat
deriving DecidableEq, Repr

/-- The Plan Store (R45, R47): plans in ascending plan number. -/
structure PlanStore where
  plans : List Plan
  spacing : Nat
deriving DecidableEq, Repr

inductive LockState where
  | seeking
  | locked
  | slipping
  | lost
deriving DecidableEq, Repr

/-- The Registration Checker (R63, R71). Its window records stand in the map entries. -/
structure Registration where
  halfWidth : Nat
  tolerance : Nat
  lock : LockState
  unreadRun : Nat
deriving DecidableEq, Repr

inductive NipState where
  | opened
  | closed
deriving DecidableEq, Repr

/-- Kinds of station operation (R169). -/
inductive OpKind where
  | cut
  | move
  | nipOpen
  | nipClose
  | splice
deriving DecidableEq, Repr

/-- Laminator Control's operation in flight (R81). -/
structure LamOp where
  kind : OpKind
  final : NipState
  target : Option Target
deriving DecidableEq, Repr

/-- The splice request (R81). `idle` is the spec's NONE. -/
inductive SpliceRequest where
  | idle
  | wanted
  | placed (t : Target)
deriving DecidableEq, Repr

/-- Laminator Control (R81). Its nip progress records stand in the map entries. -/
structure Laminator where
  nip : NipState
  op : Option LamOp
  reelLength : Nat
  remaining : Nat
  standby : Option Nat
  request : SpliceRequest
  reservation : Option Nat
  filmLow : Nat
  transitionGap : Nat
  spliceGap : Nat
deriving DecidableEq, Repr

/-- The step of a cut entry: the k-th offset of the plan, or one of the two waste cuts of R56. -/
inductive CutStep where
  | offset (k : Nat)
  | wasteHead
  | wasteTail
deriving DecidableEq, Repr

inductive CutKind where
  | cut
  | waste
deriving DecidableEq, Repr

/-- A cut entry (R102). -/
structure CutEntry where
  position : Nat
  owner : Target
  step : CutStep
  kind : CutKind
deriving DecidableEq, Repr

/-- A slit entry (R102). -/
structure SlitEntry where
  owner : Target
  deadline : Nat
  lanes : List Nat
  issued : Bool
deriving DecidableEq, Repr

/-- The current slitter set (R101). -/
inductive SlitterSet where
  | known (lanes : List Nat)
  | unknown
deriving DecidableEq, Repr

/-- The move in flight (R101). -/
structure Move where
  lanes : List Nat
  owner : Option Target
deriving DecidableEq, Repr

/-- Cut Control (R101). Its slitter progress records stand in the map entries. -/
structure CutControl where
  xcut : List CutEntry
  slit : List SlitEntry
  cutFlight : Option CutEntry
  moveFlight : Option Move
  current : SlitterSet
deriving DecidableEq, Repr

/-- Link states (R158). -/
inductive LinkState where
  | down
  | waking
  | armed
  | active
  | slipped
  | parking
  | unacked
  | test
deriving DecidableEq, Repr

/-- Indication codes (R155). -/
inductive Indication where
  | off
  | ready
  | engaged
  | busy
  | fault
  | parked
deriving DecidableEq, Repr

/-- A link's operation in flight (R158); `remaining` is its timeout timer, which runs as long as the operation stands. -/
structure LinkOp where
  kind : OpKind
  tag : Nat
  params : List Nat
  target : Option Target
  remaining : Nat
deriving DecidableEq, Repr

/-- One station link (R158). `previous` is the valid frame of the frame period before and `heard` says whether a frame
has arrived in the present one (both implied by R155, R156); `sent` is the frame the part sent last (R154). -/
structure Link where
  state : LinkState
  goGiven : Bool
  wakeTimer : Timer
  armTimer : Timer
  flywheel : Timer
  parkTimer : Timer
  faults : Nat
  op : Option LinkOp
  nextTag : Nat
  lastSeen : Option (Indication × Nat)
  faultReport : Nat
  testCount : Nat
  errorCount : Nat
  overflow : Bool
  previous : Option (Indication × Nat)
  heard : Bool
  sent : Bytes
deriving DecidableEq, Repr

/-- One thing of a kind for each link. -/
structure PerLink (α : Type) where
  feed : α
  lam : α
  slit : α
  xcut : α
deriving DecidableEq, Repr

/-- Line states (section 8.1). -/
inductive LineState where
  | stopped
  | arming
  | run
  | halting
  | held
  | stopping
deriving DecidableEq, Repr

/-- Owed orders (R139). `nothing` is the spec's NONE. -/
inductive Owed where
  | nothing
  | wake
  | park
deriving DecidableEq, Repr

/-- Line Control (R139), with the ramp timer (R149) and the emergency-stop input as it stands (R152). -/
structure LineControl where
  state : LineState
  setSpeed : Nat
  minSpeed : Nat
  target : Nat
  commanded : Nat
  ratio : Nat
  atNip : Option Target
  go : Bool
  owed : PerLink Owed
  rampTimer : Timer
  estop : Bool
deriving DecidableEq, Repr

inductive HoldTag where
  | active
  | released
deriving DecidableEq, Repr

/-- Owner of a hold record (R123). -/
inductive HoldOwner where
  | port (p : PortId)
  | line
deriving DecidableEq, Repr

inductive HoldReason where
  | operator
  | filmOut
  | regLost
  | linkLost
  | linkFault
  | stationTimeout
  | estop
  | odometer
  | webReverse
deriving DecidableEq, Repr

/-- Fault detail (R123): each part optional. -/
structure FaultDetail where
  panel : Option Target
  link : Option LinkId
deriving DecidableEq, Repr

/-- A hold record (R123). -/
structure HoldRecord where
  tag : HoldTag
  number : Nat
  owner : HoldOwner
  reason : HoldReason
  odometer : Nat
  lineBefore : LineState
  speedBefore : Nat
  detail : FaultDetail
  repeats : Nat
deriving DecidableEq, Repr

/-- The Hold Unit (R122, R124, R132): the stack from depth 0 down. -/
structure HoldUnit where
  stack : List HoldRecord
  nextNumber : Nat
  overflow : Bool
deriving DecidableEq, Repr

/-- Outcomes of a result record (R182). -/
inductive PortOutcome where
  | ok
  | pending
  | empty
  | full
  | range
  | duplicate
  | unknown
  | gap
  | reserved
  | state
  | notFound
  | inUse
  | condition
  | owner
  | busy
  | role
  | format
deriving DecidableEq, Repr

/-- A port's result record (R182). -/
structure ResultRecord where
  code : Byte
  outcome : PortOutcome
  value : BitVec 32
  slot : Option Nat
deriving DecidableEq, Repr

/-- The items of a map entry as a read gives them: the entry and the gap before it at that moment (R39). -/
structure EntryView where
  entry : MapEntry
  gap : Nat
deriving DecidableEq, Repr

/-- A port's settled-read record (R75). -/
inductive SettledRead where
  | empty
  | waiting (t : Target)
  | ready (copy : EntryView)
deriving DecidableEq, Repr

/-- What the end of a read's transaction still has to do (R157, R181): nothing; clear the port's own count; clear a link's
count and then count the `late` invalid frames that came while the reply was being sent. -/
inductive ReadEnd where
  | keep
  | clearPort
  | clearLink (l : LinkId) (late : Nat)
deriving DecidableEq, Repr

/-- Where a port stands in a transaction (R176, R178, R188): select inactive; select asserted and receiving; a read taken,
select still asserted; select asserted since before a hardware reset, so that everything is ignored. -/
inductive Transaction where
  | inactive
  | receiving
  | readTaken (ending : ReadEnd)
  | ignored
deriving DecidableEq, Repr

/-- One partner port (chapter 10). `reply` is what its last transaction sends on data-out from the moment its read is taken:
the dummy byte and then the record (R178); empty where it takes no read, for it then sends 0 throughout (R176, R178, R179). -/
structure Port where
  transaction : Transaction
  assembly : Bytes
  reply : Bytes
  result : ResultRecord
  errorCount : Nat
  overflow : Bool
  settled : SettledRead
deriving DecidableEq, Repr

/-- One thing of a kind for each port. -/
structure PerPort (α : Type) where
  print : α
  plan : α
  console : α
deriving DecidableEq, Repr

/-- One copy of the Notice Unit (R191, R193). In `mask` a set bit means masked (R197). -/
structure NoticeCopy where
  latched : BitVec 25
  mask : BitVec 25
  latchMasked : Bool
  attn : Bool
deriving DecidableEq, Repr

/-- The Notice Unit: the ten held raw levels, shared, and one copy a port (R189, R191). -/
structure NoticeUnit where
  levels : BitVec 10
  copies : PerPort NoticeCopy
deriving DecidableEq, Repr

/-- The state of the part. `busy` is the busy timer of LINE RESET, whose running is the busy flag (R186, R187).
`freeTick` and `pending` are the model's own: the counter the free values are read with (log 3) and the queue of commands
waiting, first in first out. -/
structure State where
  tracker : Tracker
  map : PanelMap
  plans : PlanStore
  reg : Registration
  lam : Laminator
  cut : CutControl
  links : PerLink Link
  line : LineControl
  hold : HoldUnit
  ports : PerPort Port
  busy : Timer
  notices : NoticeUnit
  freeTick : Nat
  pending : List Instr
deriving DecidableEq, Repr

/-! ### The ways a command can stop: none -/

/-- Faults of the model. The spec gives no behaviour that stops the part (INVENTORY, Faults; log 21), so there is none. -/
inductive Fault where
deriving DecidableEq, Repr

/-- Refusals of the model. -/
inductive Refusal where
  /-- A command without a meaning yet, raised by exec's arm alone; safe. No arm raises it: every command has a meaning. -/
  | notModelled (mnemonic : String)
deriving DecidableEq, Repr

/-! ### Hardware reset -/

/-- The zone distances after hardware reset (R5). -/
def Zones.default : Zones := { mark := 2500, nip := 6000, commit := 7000, slit := 8000, knife := 9500 }

/-- R4, R5, R11. -/
def Tracker.reset : Tracker :=
  { odometer := 0, debt := 0, zones := Zones.default, syncMode := .off, syncLead := 0, syncPulse := none }

/-- R16, R19, R35, R37, R41, R42, R44. -/
def PanelMap.reset : PanelMap :=
  { entries := [], lastTail := 0, lastClass := .bare, reprints := [], outcomes := [], high := 40, low := 4 }

/-- R45, R47, R62. -/
def PlanStore.reset : PlanStore := { plans := [], spacing := 100 }

/-- R63, R71, R80. -/
def Registration.reset : Registration := { halfWidth := 40, tolerance := 2, lock := .seeking, unreadRun := 0 }

/-- R81. -/
def Laminator.reset : Laminator :=
  { nip := .opened, op := none, reelLength := 0, remaining := 0, standby := none, request := .idle,
    reservation := none, filmLow := 20000, transitionGap := 300, spliceGap := 500 }

/-- R101, R119. -/
def CutControl.reset : CutControl :=
  { xcut := [], slit := [], cutFlight := none, moveFlight := none, current := .known [] }

/-- R158; no frame has been received or sent (log 15). -/
def Link.reset : Link :=
  { state := .down, goGiven := false, wakeTimer := none, armTimer := none, flywheel := none, parkTimer := none,
    faults := 0, op := none, nextTag := 1, lastSeen := none, faultReport := 0, testCount := 0, errorCount := 0,
    overflow := false, previous := none, heard := false, sent := [] }

/-- R139. The emergency-stop input is an external pin; the model's choice for it is inactive (log 8). -/
def LineControl.reset : LineControl :=
  { state := .stopped, setSpeed := 0, minSpeed := 150, target := 0, commanded := 0, ratio := 100, atNip := none,
    go := false, owed := { feed := .nothing, lam := .nothing, slit := .nothing, xcut := .nothing },
    rampTimer := none, estop := false }

/-- R122, R124, R132, R137. -/
def HoldUnit.reset : HoldUnit := { stack := [], nextNumber := 1, overflow := false }

/-- R181, R182, R188, R75. The select input is an external pin; the model's choice for it is inactive (log 8). -/
def Port.reset : Port :=
  { transaction := .inactive, assembly := [], reply := [],
    result := { code := 0, outcome := .ok, value := 0, slot := none },
    errorCount := 0, overflow := false, settled := .empty }

/-- R191, R196: nothing latched, every notice masked, the option off, ATTN inactive. -/
def NoticeCopy.reset : NoticeCopy := { latched := 0, mask := BitVec.allOnes 25, latchMasked := false, attn := false }

/-- R189: FILM_LOW (3) and QUEUE_LOW (5) true, the other eight levels false. -/
def NoticeUnit.reset : NoticeUnit :=
  { levels := 0b0000101000#10,
    copies := { print := NoticeCopy.reset, plan := NoticeCopy.reset, console := NoticeCopy.reset } }

/-- The part right after hardware reset. -/
def State.reset : State :=
  { tracker := Tracker.reset, map := PanelMap.reset, plans := PlanStore.reset, reg := Registration.reset,
    lam := Laminator.reset, cut := CutControl.reset,
    links := { feed := Link.reset, lam := Link.reset, slit := Link.reset, xcut := Link.reset },
    line := LineControl.reset, hold := HoldUnit.reset,
    ports := { print := Port.reset, plan := Port.reset, console := Port.reset },
    busy := none, notices := NoticeUnit.reset, freeTick := 0, pending := [] }

end Sys2Proof.Machine
end

