-- ==== Sys2Proof/Machine/Ops.lean ====
section
/-! DEFINITION. The named operations over State: one setter a block, the links and ports by name, the Panel Map's entries, the plans, byte order. -/

namespace Sys2Proof.Machine

/-! ### One setter a block -/

def State.setTracker (s : State) (x : Tracker) : State := { s with tracker := x }
def State.setMap (s : State) (x : PanelMap) : State := { s with map := x }
def State.setPlans (s : State) (x : PlanStore) : State := { s with plans := x }
def State.setReg (s : State) (x : Registration) : State := { s with reg := x }
def State.setLam (s : State) (x : Laminator) : State := { s with lam := x }
def State.setCut (s : State) (x : CutControl) : State := { s with cut := x }
def State.setLinks (s : State) (x : PerLink Link) : State := { s with links := x }
def State.setLine (s : State) (x : LineControl) : State := { s with line := x }
def State.setHold (s : State) (x : HoldUnit) : State := { s with hold := x }
def State.setPorts (s : State) (x : PerPort Port) : State := { s with ports := x }
def State.setBusy (s : State) (x : Timer) : State := { s with busy := x }
def State.setNotices (s : State) (x : NoticeUnit) : State := { s with notices := x }
def State.setFreeTick (s : State) (x : Nat) : State := { s with freeTick := x }
def State.setPending (s : State) (x : List Instr) : State := { s with pending := x }

/-! ### Links and ports by name -/

def PerLink.get {α : Type} (x : PerLink α) : LinkId → α
  | .feed => x.feed
  | .lam => x.lam
  | .slit => x.slit
  | .xcut => x.xcut

def PerLink.set {α : Type} (x : PerLink α) (l : LinkId) (v : α) : PerLink α :=
  match l with
  | .feed => { x with feed := v }
  | .lam => { x with lam := v }
  | .slit => { x with slit := v }
  | .xcut => { x with xcut := v }

def PerLink.map {α β : Type} (f : α → β) (x : PerLink α) : PerLink β :=
  { feed := f x.feed, lam := f x.lam, slit := f x.slit, xcut := f x.xcut }

/-- The four links in the order FEED, LAM, SLIT, XCUT. -/
def allLinks : List LinkId := [.feed, .lam, .slit, .xcut]

/-- Link numbers (12, section 12.2). -/
def linkNumber : LinkId → Nat
  | .feed => 1
  | .lam => 2
  | .slit => 3
  | .xcut => 4

/-- The link a number names: FEED 1, LAM 2, SLIT 3, XCUT 4. -/
def linkOfNumber (n : Nat) : Option LinkId := allLinks.find? (fun l => linkNumber l == n)

def PerPort.get {α : Type} (x : PerPort α) : PortId → α
  | .print => x.print
  | .plan => x.plan
  | .console => x.console

def PerPort.set {α : Type} (x : PerPort α) (p : PortId) (v : α) : PerPort α :=
  match p with
  | .print => { x with print := v }
  | .plan => { x with plan := v }
  | .console => { x with console := v }

def PerPort.map {α β : Type} (f : α → β) (x : PerPort α) : PerPort β :=
  { print := f x.print, plan := f x.plan, console := f x.console }

def allPorts : List PortId := [.print, .plan, .console]

def State.link (s : State) (l : LinkId) : Link := s.links.get l
def State.setLink (s : State) (l : LinkId) (x : Link) : State := s.setLinks (s.links.set l x)
def State.port (s : State) (p : PortId) : Port := s.ports.get p
def State.setPort (s : State) (p : PortId) (x : Port) : State := s.setPorts (s.ports.set p x)

/-- Change only Line Control's owed order of one link. -/
def State.setOwed (s : State) (l : LinkId) (o : Owed) : State :=
  s.setLine { s.line with owed := s.line.owed.set l o }

/-! ### The Panel Map's entries -/

/-- An entry is the one a claim names when slot and panel number both agree (R18). -/
def MapEntry.named (t : Target) (e : MapEntry) : Bool := e.slot == t.slot && e.panel == t.panel

/-- The name by which the blocks refer to an entry (R18). -/
def MapEntry.target (e : MapEntry) : Target := { slot := e.slot, panel := e.panel }

/-- Nominal tail (R17). -/
def MapEntry.tail (e : MapEntry) : Nat := e.head + e.length

/-- A nominal position moved by a registration offset (R17). -/
def shift (n : Nat) (offset : Int) : Nat := ((n : Int) + offset).toNat

/-- Crossing value of the effective head at a station at distance d (R7). -/
def MapEntry.headAt (e : MapEntry) (d : Nat) : Nat := shift (e.head + d) e.offset

/-- Crossing value of the effective tail at a station at distance d (R7). -/
def MapEntry.tailAt (e : MapEntry) (d : Nat) : Nat := shift (e.tail + d) e.offset

def State.entry (s : State) (t : Target) : Option MapEntry := s.map.entries.find? (MapEntry.named t)

/-- Change the entry a claim names; nothing where no entry carries the name (R29, R33). -/
def updateEntry (t : Target) (f : MapEntry → MapEntry) (es : List MapEntry) : List MapEntry :=
  es.map (fun e => if e.named t then f e else e)

def State.modifyEntry (s : State) (t : Target) (f : MapEntry → MapEntry) : State :=
  s.setMap { s.map with entries := updateEntry t f s.map.entries }

/-- Remove the entry named; the entries behind it close up (R16). -/
def removeEntry (t : Target) (es : List MapEntry) : List MapEntry := es.eraseP (MapEntry.named t)

/-- The entries older than the one named, oldest first. -/
def olderThan (t : Target) (es : List MapEntry) : List MapEntry := es.takeWhile (fun e => !e.named t)

/-- The entries younger than the one named, in web order; none where no entry carries the name. -/
def youngerThan (t : Target) (es : List MapEntry) : List MapEntry := (es.dropWhile (fun e => !e.named t)).drop 1

/-- Each entry with the gap before it (R32): reckoned from the tail of the entry before it in web order, and for the
entry at index 0 from its tail before. -/
def withGaps : Option Nat → List MapEntry → List (MapEntry × Nat)
  | _, [] => []
  | prev, e :: es => (e, e.head - prev.getD e.tailBefore) :: withGaps (some e.tail) es

/-- A read's view of the entries, in web order (R39). -/
def State.views (s : State) : List EntryView :=
  (withGaps none s.map.entries).map (fun p => { entry := p.1, gap := p.2 })

/-- The view of the entry named, if it is in the map. -/
def State.view (s : State) (t : Target) : Option EntryView := s.views.find? (fun v => v.entry.named t)

/-- The lowest slot no entry holds (R18). -/
def freeSlot (es : List MapEntry) : Nat :=
  ((List.range Config.mapSize).find? (fun n => es.all (fun e => e.slot != n))).getD Config.mapSize

/-- Number of entries in phase QUEUED (R40, R42). -/
def queuedCount (es : List MapEntry) : Nat := es.countP (fun e => e.phase == .queued)

/-- The oldest entry whose nip progress is IN: the entry at the nip (R82). -/
def entryAtNip (es : List MapEntry) : Option MapEntry := es.find? (fun e => e.nip == .inside)

/-- The entry whose gap is open at the nip (R82): its own record AHEAD, and the entry before it PAST or none before it.
`clear` says that of the entry before. -/
def gapOpenFrom : Bool → List MapEntry → Option MapEntry
  | _, [] => none
  | clear, e :: es => if clear && e.nip == .ahead then some e else gapOpenFrom (e.nip == .past) es

def gapOpen (es : List MapEntry) : Option MapEntry := gapOpenFrom true es

/-! ### The plans -/

def State.plan (s : State) (n : Nat) : Option Plan := s.plans.plans.find? (fun q => q.number == n)

def updatePlan (n : Nat) (f : Plan → Plan) (qs : List Plan) : List Plan :=
  qs.map (fun q => if q.number == n then f q else q)

def State.modifyPlan (s : State) (n : Nat) (f : Plan → Plan) : State :=
  s.setPlans { s.plans with plans := updatePlan n f s.plans.plans }

/-- Put a new plan in its place, ascending plan number (R45). -/
def insertPlan (x : Plan) : List Plan → List Plan
  | [] => [x]
  | q :: qs => if x.number < q.number then x :: q :: qs else q :: insertPlan x qs

/-- One more, and one fewer, map entry names the plan (R48). -/
def State.addRef (s : State) (n : Nat) : State := s.modifyPlan n (fun q => { q with refs := q.refs + 1 })
def State.dropRef (s : State) (n : Nat) : State := s.modifyPlan n (fun q => { q with refs := q.refs - 1 })

/-! ### Timers -/

/-- A millisecond passes on a timer; a timer at 0 waits for its expiry to be taken (log 7). -/
def Timer.tick (t : Timer) : Timer := t.map (fun n => n - 1)

/-! ### Bytes: most significant byte first (R197, chapter 12) -/

def byteOf (n : Nat) : Byte := BitVec.ofNat 8 n
def flag (b : Bool) : Byte := if b then 1#8 else 0#8
def be16 (n : Nat) : Bytes := [byteOf (n / 256), byteOf n]
def be32 (n : Nat) : Bytes := [byteOf (n / 16777216), byteOf (n / 65536), byteOf (n / 256), byteOf n]
/-- A signed field of one byte, in two's complement (R200). -/
def signedByte (i : Int) : Byte := BitVec.ofInt 8 i
def u16 (a b : Byte) : Nat := a.toNat * 256 + b.toNat
def u32 (a b c d : Byte) : Nat := ((a.toNat * 256 + b.toNat) * 256 + c.toNat) * 256 + d.toNat

/-- The value of a list of n, places beyond its end sent as 0 (R200). -/
def padTo (n : Nat) (xs : List Nat) : List Nat := (xs ++ List.replicate n 0).take n

/-- A list of n two-byte items. -/
def words (xs : List Nat) : Bytes := xs.flatMap be16

/-- A word with one bit made v. -/
def setBit {n : Nat} (w : BitVec n) (i : Nat) (v : Bool) : BitVec n :=
  if v then w ||| BitVec.twoPow n i else w &&& ~~~ (BitVec.twoPow n i)

end Sys2Proof.Machine
end

