-- ==== Sys2Proof/Machine/Flags.lean ====
section
/-! DEFINITION. The Notice Unit (chapter 11): the 25 notices, validity groups, raw levels, latching and ATTN. -/

namespace Sys2Proof.Machine

/-- The notices of R190. The LINK_UP levels and LINK_WAKE_FAILED carry the link concerned, which R192 needs. -/
inductive Notice where
  | lineState
  | holdActive
  | regLock
  | filmLow
  | nearFull
  | queueLow
  | linkUp (l : LinkId)
  | panelRetired
  | panelScrapped
  | reprintWanted
  | reprintLost
  | outcomeLost
  | gapWanted
  | orphanMark
  | faultHold
  | linkWakeFailed (l : LinkId)
  | lineStartFailed
  | speedReached
  | cutMissed
  | refused
  | portError
  | lineResetDone
deriving DecidableEq, Repr

/-- Notice numbers (R190). -/
def Notice.number : Notice → Nat
  | .lineState => 0
  | .holdActive => 1
  | .regLock => 2
  | .filmLow => 3
  | .nearFull => 4
  | .queueLow => 5
  | .linkUp l => 5 + linkNumber l
  | .panelRetired => 10
  | .panelScrapped => 11
  | .reprintWanted => 12
  | .reprintLost => 13
  | .outcomeLost => 14
  | .gapWanted => 15
  | .orphanMark => 16
  | .faultHold => 17
  | .linkWakeFailed _ => 18
  | .lineStartFailed => 19
  | .speedReached => 20
  | .cutMissed => 21
  | .refused => 22
  | .portError => 23
  | .lineResetDone => 24

/-- The line is in RUN, HALTING or HELD. -/
def LineState.running : LineState → Bool
  | .run | .halting | .held => true
  | .stopped | .arming | .stopping => false

/-- The validity groups of R192, checked when the raise is made. -/
def State.inGroup (s : State) : Notice → Bool
  | .linkUp l | .linkWakeFailed l => (s.link l).state != .down
  | .regLock | .orphanMark => s.line.state.running
  | _ => true

/-- A port's ATTN is active exactly when a notice is both latched and unmasked (R193). -/
def NoticeCopy.reckon (c : NoticeCopy) : NoticeCopy := { c with attn := (c.latched &&& ~~~ c.mask) != 0 }

/-- A raise reaches one copy (R191). -/
def NoticeCopy.latch (n : Nat) (c : NoticeCopy) : NoticeCopy :=
  if !c.mask.getLsbD n || c.latchMasked then ({ c with latched := setBit c.latched n true } : NoticeCopy).reckon else c

/-- A raise into all three copies (R190, R191, R192). -/
def raiseNotice (n : Notice) (s : State) : State :=
  if s.inGroup n then s.setNotices { s.notices with copies := s.notices.copies.map (NoticeCopy.latch n.number) } else s

/-- The raw level held for a level notice (R189). -/
def State.level (s : State) (n : Notice) : Bool := s.notices.levels.getLsbD n.number

/-- A block passes a raw level (R189): nothing happens where it equals the one held; otherwise the held value changes and
the level notice is raised. -/
def passLevel (n : Notice) (v : Bool) (s : State) : State :=
  if s.level n = v then s
  else raiseNotice n (s.setNotices { s.notices with levels := setBit s.notices.levels n.number v })

/-- Empty the latched set of every copy (R196). -/
def clearLatched (s : State) : State :=
  s.setNotices { s.notices with copies := s.notices.copies.map (fun c => ({ c with latched := 0 } : NoticeCopy).reckon) }

/-! ### The raw levels as the owning blocks compute them -/

def State.nearFull (s : State) : Bool := decide (s.map.high ≤ s.map.entries.length)
def State.queueLow (s : State) : Bool := decide (queuedCount s.map.entries ≤ s.map.low)
def State.filmLow (s : State) : Bool := decide (s.lam.remaining ≤ s.lam.filmLow)
def State.linkUp (s : State) (l : LinkId) : Bool := (s.link l).state == .active
def State.holdActive (s : State) : Bool := !s.hold.stack.isEmpty
def State.regLocked (s : State) : Bool := s.reg.lock == .locked
def State.lineUp (s : State) : Bool := s.line.state != .stopped

/-- The Panel Map evaluates NEAR_FULL and QUEUE_LOW (R41, R42). -/
def evalMapLevels (s : State) : State := passLevel .queueLow s.queueLow (passLevel .nearFull s.nearFull s)

end Sys2Proof.Machine
end

