-- ==== Sys2Proof/WellFormed.lean ====
section
/-! DEFINITION. Which commands are well formed. The fields' widths are in their types; what is left is that the two
commands with a counted list carry as many items as their count calls for (R177). An ill-formed one is still taken: it is
the short or the long transaction R177 describes. -/

namespace Sys2Proof

/-- The number of items a count field calls for: the count as received, at most the largest the command allows (R177). -/
def countedItems (most : Nat) (count : Byte) : Nat := min count.toNat most

/-- A command whose item list has the length its count calls for (R177); every other command is well formed. -/
def Instr.WellFormed : Instr → Bool
  | .planOpen _ _ _ count slits => slits.length == countedItems 5 count
  | .planAppend _ _ count offsets => offsets.length == countedItems 4 count
  | _ => true

end Sys2Proof
end

