-- ==== Sys2Proof/Machine/Operands.lean ====
section
/-! DEFINITION. Operand forms: the field codes of section 12.2 in both directions, selectors and keys (R199), and the command code table with the ports and line states of R180. -/

namespace Sys2Proof.Machine

/-! ### Field codes read from a command (R198): a byte with no code gives none -/

def lamClassOf : Nat → Option LamClass
  | 0 => some .bare
  | 1 => some .film
  | _ => none

def markPolicyOf : Nat → Option MarkPolicy
  | 0 => some .unmarked
  | 1 => some .optional
  | 2 => some .required
  | _ => none

def syncModeOf : Nat → Option SyncMode
  | 0 => some .off
  | 1 => some .head
  | 2 => some .headTail
  | _ => none

def indicationOf : Nat → Option Indication
  | 0 => some .off
  | 1 => some .ready
  | 2 => some .engaged
  | 3 => some .busy
  | 4 => some .fault
  | 5 => some .parked
  | _ => none

/-! ### Field codes sent in a record (section 12.2) -/

def LamClass.code : LamClass → Nat
  | .bare => 0
  | .film => 1

def MarkPolicy.code : MarkPolicy → Nat
  | .unmarked => 0
  | .optional => 1
  | .required => 2

def Phase.code : Phase → Nat
  | .queued => 0
  | .onWeb => 1
  | .committed => 2
  | .atKnife => 3

def RegResult.code : RegResult → Nat
  | .on _ => 0
  | .ahead _ => 1
  | .behind _ => 2
  | .unread => 3

def ScrapReason.code : ScrapReason → Nat
  | .planUnderrun => 1
  | .planMismatch => 2
  | .regUnread => 3
  | .lamLate => 4
  | .filmOut => 5
  | .slitLate => 6
  | .cutMissed => 7
  | .stationFail => 8
  | .queueFull => 9
  | .operator => 10

def PlanState.code : PlanState → Nat
  | .opened => 0
  | .closed => 1

def CutStep.code : CutStep → Nat
  | .offset k => k
  | .wasteHead => 13
  | .wasteTail => 14

def CutKind.code : CutKind → Nat
  | .cut => 0
  | .waste => 1

def NipState.code : NipState → Nat
  | .opened => 0
  | .closed => 1

def OpKind.code : OpKind → Nat
  | .cut => 1
  | .move => 2
  | .nipOpen => 3
  | .nipClose => 4
  | .splice => 5

def SpliceRequest.code : SpliceRequest → Nat
  | .idle => 0
  | .wanted => 1
  | .placed _ => 2

def SyncMode.code : SyncMode → Nat
  | .off => 0
  | .head => 1
  | .headTail => 2

def LockState.code : LockState → Nat
  | .seeking => 0
  | .locked => 1
  | .slipping => 2
  | .lost => 3

def LineState.code : LineState → Nat
  | .stopped => 0
  | .arming => 1
  | .run => 2
  | .halting => 3
  | .held => 4
  | .stopping => 5

def Owed.code : Owed → Nat
  | .nothing => 0
  | .wake => 1
  | .park => 2

def LinkState.code : LinkState → Nat
  | .down => 0
  | .waking => 1
  | .armed => 2
  | .active => 3
  | .slipped => 4
  | .parking => 5
  | .unacked => 6
  | .test => 7

def HoldTag.code : HoldTag → Nat
  | .active => 1
  | .released => 2

def HoldOwner.code : HoldOwner → Nat
  | .port .print => 1
  | .port .plan => 2
  | .port .console => 3
  | .line => 4

def HoldReason.code : HoldReason → Nat
  | .operator => 1
  | .filmOut => 2
  | .regLost => 3
  | .linkLost => 4
  | .linkFault => 5
  | .stationTimeout => 6
  | .estop => 7
  | .odometer => 8
  | .webReverse => 9

def PortOutcome.code : PortOutcome → Nat
  | .ok => 0
  | .pending => 1
  | .empty => 2
  | .full => 3
  | .range => 4
  | .duplicate => 5
  | .unknown => 6
  | .gap => 7
  | .reserved => 8
  | .state => 9
  | .notFound => 10
  | .inUse => 11
  | .condition => 12
  | .owner => 13
  | .busy => 14
  | .role => 15
  | .format => 16

def Indication.code : Indication → Nat
  | .off => 0
  | .ready => 1
  | .engaged => 2
  | .busy => 3
  | .fault => 4
  | .parked => 5

/-! ### Selectors and keys (R199) -/

/-- The entry a selector and key choose: by panel number, or by map index (R39, R199). -/
def selectEntry (selector key : Nat) (s : State) : Option EntryView :=
  match selector with
  | 0 => if key = 0 then none else s.views.find? (fun v => v.entry.panel == key)
  | 1 => s.views[key]?
  | _ => none

/-- The plan a selector and key choose: by plan number, or by store index (R53, R199). -/
def selectPlan (selector key : Nat) (s : State) : Option Plan :=
  match selector with
  | 0 => s.plan key
  | 1 => s.plans.plans[key]?
  | _ => none

/-! ### The command code table (section 12.1) with the roles and line states of R180 -/

/-- The line states in which a command is accepted (R180). -/
inductive LineRule where
  | all
  | stopped
  | stoppedOrHeld
  | notStopped
deriving DecidableEq, Repr

def LineRule.accepts : LineRule → LineState → Bool
  | .all, _ => true
  | .stopped, st => st == .stopped
  | .stoppedOrHeld, st => st == .stopped || st == .held
  | .notStopped, st => st != .stopped

/-- How many parameter bytes a command has (R177): a fixed number, or a fixed head whose last byte counts items of two
bytes, of which the command allows at most `most`. -/
inductive ParamForm where
  | fixed (n : Nat)
  | counted (head most : Nat)
deriving DecidableEq, Repr

/-- A row of the command code table. `only` is the one port the command is permitted to, or none for all three; `reply`
is the length of a read's record, none for a write command. -/
structure CommandRow where
  code : Byte
  params : ParamForm
  only : Option PortId
  lines : LineRule
  reply : Option Nat
deriving DecidableEq, Repr

def CommandRow.permits (r : CommandRow) (p : PortId) : Bool :=
  match r.only with
  | none => true
  | some q => q == p

def CommandRow.write (code : Byte) (n : Nat) (only : Option PortId) (lines : LineRule) : CommandRow :=
  { code := code, params := .fixed n, only := only, lines := lines, reply := none }

def CommandRow.read (code : Byte) (n : Nat) (only : Option PortId) (reply : Nat) : CommandRow :=
  { code := code, params := .fixed n, only := only, lines := .all, reply := some reply }

def rowAnnouncePanel : CommandRow := .write 0x10 9 (some .print) .all
def rowWithdrawPanel : CommandRow := .write 0x11 2 (some .print) .all
def rowTakeReprint : CommandRow := .read 0x12 0 (some .print) 8
def rowPlanOpen : CommandRow :=
  { code := 0x20, params := .counted 3 5, only := some .plan, lines := .all, reply := none }
def rowPlanAppend : CommandRow :=
  { code := 0x21, params := .counted 2 4, only := some .plan, lines := .all, reply := none }
def rowPlanClose : CommandRow := .write 0x22 1 (some .plan) .all
def rowPlanDiscard : CommandRow := .write 0x23 1 (some .plan) .all
def rowTakeOutcome : CommandRow := .read 0x24 0 (some .plan) 11
def rowLineStart : CommandRow := .write 0x30 0 (some .console) .stopped
def rowLineStop : CommandRow := .write 0x31 0 (some .console) .notStopped
def rowSpeedSet : CommandRow := .write 0x32 2 (some .console) .all
def rowMinSpeedSet : CommandRow := .write 0x33 2 (some .console) .all
def rowFilmStandby : CommandRow := .write 0x34 4 (some .console) .all
def rowFilmThread : CommandRow := .write 0x35 4 (some .console) .stoppedOrHeld
def rowSpliceRequest : CommandRow := .write 0x36 0 (some .console) .all
def rowLinkAcknowledge : CommandRow := .write 0x37 1 (some .console) .all
def rowLinkTest : CommandRow := .write 0x38 1 (some .console) .stopped
def rowLinkTestEnd : CommandRow := .write 0x39 1 (some .console) .all
def rowZoneDefine : CommandRow := .write 0x3A 10 (some .console) .stopped
def rowSyncSet : CommandRow := .write 0x3B 3 (some .console) .all
def rowThresholdSet : CommandRow := .write 0x3C 2 (some .console) .all
def rowRegistrationSet : CommandRow := .write 0x3D 2 (some .console) .all
def rowGapSet : CommandRow := .write 0x3E 6 (some .console) .all
def rowScrapPanel : CommandRow := .write 0x3F 2 (some .console) .all
def rowLineReset : CommandRow := .write 0x40 0 (some .console) .stopped
def rowHold : CommandRow := .write 0x50 0 none .notStopped
def rowRelease : CommandRow := .write 0x51 1 none .all
def rowReadStatus : CommandRow := .read 0x52 0 none 208
def rowReadMapEntry : CommandRow := .read 0x53 3 none 28
def rowReadMapEntrySettled : CommandRow := .read 0x54 3 none 28
def rowReadPlan : CommandRow := .read 0x55 2 none 41
def rowReadHoldContext : CommandRow := .read 0x56 1 none 18
def rowReadResult : CommandRow := .read 0x57 0 none 8
def rowReadNotices : CommandRow := .read 0x58 0 none 11
def rowClearNotices : CommandRow := .write 0x59 4 none .all
def rowSetNoticeMask : CommandRow := .write 0x5A 4 none .all
def rowSetLatchMasked : CommandRow := .write 0x5B 1 none .all
def rowReadErrorCount : CommandRow := .read 0x5C 1 none 2
def rowReadIdent : CommandRow := .read 0x5D 0 none 3

/-- The command code table, against which the first check of R179 is made. -/
def commandTable : List CommandRow :=
  [rowAnnouncePanel, rowWithdrawPanel, rowTakeReprint, rowPlanOpen, rowPlanAppend, rowPlanClose, rowPlanDiscard,
    rowTakeOutcome] ++
  [rowLineStart, rowLineStop, rowSpeedSet, rowMinSpeedSet, rowFilmStandby, rowFilmThread, rowSpliceRequest,
    rowLinkAcknowledge, rowLinkTest, rowLinkTestEnd, rowZoneDefine, rowSyncSet, rowThresholdSet, rowRegistrationSet,
    rowGapSet, rowScrapPanel, rowLineReset] ++
  [rowHold, rowRelease, rowReadStatus, rowReadMapEntry, rowReadMapEntrySettled, rowReadPlan, rowReadHoldContext,
    rowReadResult, rowReadNotices, rowClearNotices, rowSetNoticeMask, rowSetLatchMasked, rowReadErrorCount, rowReadIdent]

def commandRow (code : Byte) : Option CommandRow := commandTable.find? (fun r => r.code == code)

/-- The commands the busy period of LINE RESET does not refuse: READ STATUS and READ IDENT (R179, R187). -/
def CommandRow.duringBusy (r : CommandRow) : Bool := r.code == 0x52 || r.code == 0x5D

/-- The length of a command, reckoned from the parameter bytes received so far (R177). Where the count byte itself has
not been received, it is the head's length, which those bytes do not reach. -/
def CommandRow.length (r : CommandRow) (params : Bytes) : Nat :=
  match r.params with
  | .fixed n => n
  | .counted head most =>
    match params[head - 1]? with
    | some count => head + 2 * countedItems most count
    | none => head

end Sys2Proof.Machine
end

