-- ==== Sys2Proof/Machine/Links.lean ====
section
/-! DEFINITION. What one station link does by itself (chapter 9): its state changes, orders, operation requests, error count and the frames it sends. Reports to Line Control are in LineControl.lean. -/

namespace Sys2Proof.Machine

/-- The LINK_UP level of a link is passed on every change (R168). -/
def passLinkUp (l : LinkId) (s : State) : State := passLevel (.linkUp l) (s.linkUp l) s

/-- A link enters a state and its LINK_UP level is passed (R168). -/
def enterLink (l : LinkId) (st : LinkState) (s : State) : State :=
  passLinkUp l (s.setLink l { s.link l with state := st })

/-- The link is up for an operation: ACTIVE or SLIPPED (R158). -/
def LinkState.carries : LinkState → Bool
  | .active | .slipped => true
  | _ => false

/-- The link has armed: ARMED, ACTIVE or SLIPPED (R142). -/
def LinkState.armedUp : LinkState → Bool
  | .armed | .active | .slipped => true
  | _ => false

/-- A wake order (R159). A link entering WAKING moves nothing at Line Control (R142 to R144). -/
def wakeLink (l : LinkId) (s : State) : State :=
  enterLink l .waking (s.setLink l { s.link l with goGiven := false, faults := 0, wakeTimer := some Config.wakeMs })

/-- The go (R160), which only a link in ARMED takes. -/
def giveGo (l : LinkId) (s : State) : State :=
  if (s.link l).state = .armed then s.setLink l { s.link l with goGiven := true, armTimer := some Config.armMs } else s

/-- A link enters PARKING (R165). -/
def parkLink (l : LinkId) (s : State) : State :=
  enterLink l .parking
    (s.setLink l { s.link l with armTimer := none, flywheel := none, parkTimer := some Config.parkMs })

/-! ### Operation requests (R169) -/

/-- The timeout of an operation in milliseconds (R169). -/
def OpKind.timeout : OpKind → Nat
  | .cut => 150
  | .move => 1500
  | .nipOpen => 400
  | .nipClose => 400
  | .splice => 4000

/-- The tag after a tag: 15 is followed by 1 (R169). -/
def tagAfter (t : Nat) : Nat := if t < 15 then t + 1 else 1

/-- The parameter words of an operation: the given ones, 0 in the places beyond (R169). -/
def opParams (ws : List Nat) : List Nat := padTo 6 ws

/-- The link takes a request if it is ACTIVE with no operation in flight (R169); none is a refusal, which changes nothing. -/
def requestOp (l : LinkId) (kind : OpKind) (params : List Nat) (target : Option Target) (s : State) : Option State :=
  let k := s.link l
  if k.state = .active ∧ k.op = none then
    some (s.setLink l { k with
      op := some { kind := kind, tag := k.nextTag, params := opParams params, target := target, remaining := kind.timeout },
      nextTag := tagAfter k.nextTag })
  else none

/-! ### Counts -/

/-- One more invalid frame (R157). -/
def Link.countError (k : Link) : Link :=
  if k.errorCount < Config.errorTop then { k with errorCount := k.errorCount + 1 } else { k with overflow := true }

/-! ### Frames (R154, R201) -/

/-- The check of a frame (R201). -/
def frameCheck (bytes : Bytes) : Nat := (65535 + 65536 * bytes.length - (bytes.map (fun b => b.toNat)).sum) % 65536

/-- Station command codes (section 12.2). -/
inductive StationCommand where
  | quiet
  | wake
  | arm
  | run
  | op
  | park
  | test
deriving DecidableEq, Repr

def StationCommand.code : StationCommand → Nat
  | .quiet => 0
  | .wake => 1
  | .arm => 2
  | .run => 3
  | .op => 4
  | .park => 5
  | .test => 6

/-- The command code a link's state calls for (R154). -/
def Link.command (k : Link) : StationCommand :=
  match k.state with
  | .down | .unacked => .quiet
  | .waking => .wake
  | .armed => if k.goGiven then .run else .arm
  | .active | .slipped => if k.op.isSome then .op else .run
  | .parking => .park
  | .test => .test

/-- The sixteen bytes of a frame to a station (R201, section 12.4). -/
def encodeFrame (c : StationCommand) (tag kind : Nat) (params : List Nat) : Bytes :=
  let body := [byteOf c.code, byteOf (tag * 16 + kind)] ++ words (padTo 6 params)
  body ++ be16 (frameCheck body)

/-- The frame the part sends on a link (R154); FEED carries the commanded speed in every RUN frame (R172). -/
def frameOf (l : LinkId) (commanded : Nat) (k : Link) : Bytes :=
  match k.command, k.op with
  | .op, some o => encodeFrame .op o.tag o.kind.code o.params
  | .run, _ => encodeFrame .run 0 0 (if l = .feed then [commanded] else [])
  | c, _ => encodeFrame c 0 0 []

/-- A millisecond passes on a link's timers (log 7). -/
def Link.tick (k : Link) : Link :=
  { k with
    wakeTimer := k.wakeTimer.tick, armTimer := k.armTimer.tick, flywheel := k.flywheel.tick,
    parkTimer := k.parkTimer.tick, op := k.op.map (fun o => { o with remaining := o.remaining - 1 }) }

/-- A frame received from a station, judged on its first six bytes (R155, R201). -/
inductive Received where
  | missing
  | invalid
  | valid (code : Indication) (tag report : Nat)
deriving DecidableEq, Repr

def decodeFrame (bytes : Bytes) : Received :=
  match bytes with
  | c :: t :: r1 :: r0 :: k1 :: k0 :: _ =>
    match indicationOf c.toNat with
    | some code =>
      if t.toNat ≤ 15 ∧ u16 k1 k0 = frameCheck [c, t, r1, r0] then .valid code t.toNat (u16 r1 r0) else .invalid
    | none => .invalid
  | _ => .missing

end Sys2Proof.Machine
end

