-- ==== Sys2Proof/Machine/LineControl.lean ====
section
/-! DEFINITION. Line Control and the Hold Unit (chapters 7 and 8): speeds and ramp, line states, the hold stack with its reports, and what Line Control does with the reports of the links. -/

namespace Sys2Proof.Machine

/-! ### Speeds (R148 to R150) -/

/-- The commanded speed and the target take new values. The ramp timer runs exactly while the two differ, starting in
full when they become unequal (R149); SPEED_REACHED is raised when they become equal after having differed (R150). -/
def setSpeeds (commanded target : Nat) (s : State) : State :=
  let k := s.line
  let s1 := s.setLine { k with
    commanded := commanded, target := target,
    rampTimer :=
      if commanded = target then none else if k.commanded = k.target then some Config.rampMs else k.rampTimer }
  if k.commanded ≠ k.target ∧ commanded = target then raiseNotice .speedReached s1 else s1

/-- The speed ratio of the plan named by the entry at the nip, 100 where that entry is none (R54, R148). -/
def State.ratioAtNip (s : State) : Nat :=
  match s.line.atNip with
  | none => 100
  | some t =>
    match s.entry t with
    | none => 100
    | some e =>
      match s.plan e.plan with
      | none => 100
      | some q => q.ratio

/-- The target speed (R148). -/
def LineControl.goal (k : LineControl) : Nat :=
  if k.state = .run then max (k.setSpeed * k.ratio / 100) (min k.setSpeed k.minSpeed) else 0

/-- Line Control computes the ratio in use and the target again (R148). -/
def retarget (s : State) : State :=
  let s1 := s.setLine { s.line with ratio := s.ratioAtNip }
  setSpeeds s1.line.commanded s1.line.goal s1

/-! ### Line states -/

/-- A change of line state, with its raw level (R153) and the new target (R148). -/
def enterLine (st : LineState) (s : State) : State :=
  let s1 := s.setLine { s.line with state := st }
  retarget (passLevel .lineState s1.lineUp s1)

/-- The order a link is given when the line comes to rest in STOPPED (R146), or when a start fails (R143, `armed` links
alike): an ARMED link parks, an ACTIVE or SLIPPED link parks, or owes its park while it carries an operation. -/
def parkOrOwe (l : LinkId) (s : State) : State :=
  let k := s.link l
  if k.state = .armed then parkLink l s
  else if k.state.carries then (if k.op.isSome then s.setOwed l .park else parkLink l s)
  else s

def parkAll (s : State) : State := allLinks.foldl (fun s l => parkOrOwe l s) s

/-- STOPPED with the parking of R146. -/
def enterStopped (s : State) : State := parkAll (enterLine .stopped s)

/-- A commanded speed of 0 takes the line from HALTING to HELD and from STOPPING to STOPPED (R140, R146, R149). -/
def settleAtRest (s : State) : State :=
  if s.line.commanded = 0 then
    match s.line.state with
    | .halting => enterLine .held s
    | .stopping => enterStopped s
    | _ => s
  else s

/-! ### The hold stack (R122 to R126) -/

def numberAfter (n : Nat) : Nat := if n < 255 then n + 1 else 1

/-- Go on past the numbers that records on the stack carry (R124); `fuel` is the number of those records. -/
def skipHeld (held : List Nat) : Nat → Nat → Nat
  | 0, n => n
  | fuel + 1, n => if held.contains n then skipHeld held fuel (numberAfter n) else n

/-- A push (R123, R124). -/
def pushHold (owner : HoldOwner) (reason : HoldReason) (detail : FaultDetail) (s : State) : State :=
  let r : HoldRecord :=
    { tag := .active, number := s.hold.nextNumber, owner := owner, reason := reason, odometer := s.tracker.odometer,
      lineBefore := s.line.state, speedBefore := s.line.setSpeed, detail := detail, repeats := 0 }
  let stack := r :: s.hold.stack
  s.setHold { s.hold with
    stack := stack
    nextNumber := skipHeld (stack.map (fun x => x.number)) stack.length (numberAfter s.hold.nextNumber) }

/-- A push onto the stack of a line in RUN takes it to HALTING, and on to HELD if it is at rest (R140). -/
def haltReport (s : State) : State :=
  if s.line.state = .run ∧ s.hold.stack ≠ [] then settleAtRest (enterLine .halting s) else s

/-- One more repeat of the top record (R126, case 1). -/
def HoldRecord.repeat (r : HoldRecord) : HoldRecord := { r with repeats := min Config.repeatTop (r.repeats + 1) }

/-- What a fault hold request does to the stack (R126). -/
def takeFault (reason : HoldReason) (detail : FaultDetail) (s : State) : State :=
  match s.hold.stack with
  | r :: rest =>
    if r.owner = .line ∧ r.reason = reason then s.setHold { s.hold with stack := r.repeat :: rest }
    else if s.hold.stack.length < Config.holdSize then pushHold .line reason detail s
    else s.setHold { s.hold with overflow := true }
  | [] => pushHold .line reason detail s

/-- A fault hold request with its report and notices (R126, R135). -/
def faultHold (reason : HoldReason) (detail : FaultDetail) (s : State) : State :=
  let s1 := haltReport (takeFault reason detail s)
  raiseNotice .faultHold (passLevel .holdActive s1.holdActive s1)

def noDetail : FaultDetail := { panel := none, link := none }

/-- Entry into RUN under the check of R152: with the emergency-stop input active an ESTOP fault hold request is made in
its place, and the line enters HELD from ARMING and stays where it is from HALTING and HELD. -/
def runEntry (s : State) : State :=
  if s.line.estop then
    let s1 := faultHold .estop noDetail s
    if s1.line.state = .arming then enterLine .held s1 else s1
  else enterLine .run s

/-- The Hold Unit's report of a change to the stack (R135, R140). -/
def stackReport (s : State) : State :=
  let s1 :=
    if s.hold.stack = [] then
      match s.line.state with
      | .halting | .held => runEntry s
      | _ => s
    else haltReport s
  passLevel .holdActive s1.holdActive s1

/-! ### Reports of the links (R142 to R144, R147) -/

/-- Every owed order WAKE becomes NONE. -/
def dropWakes (s : State) : State :=
  s.setLine { s.line with owed := s.line.owed.map (fun o => if o = .wake then .nothing else o) }

/-- A start fails (R143). -/
def startFailure (s : State) : State :=
  let s1 := dropWakes (s.setLine { s.line with state := .stopped, go := false })
  let s2 := raiseNotice .lineStartFailed (parkAll s1)
  retarget (passLevel .lineState s2.lineUp s2)

/-- The report fails a start: a wake failure, PARKING from ACTIVE or SLIPPED, or UNACKED (R143). -/
def failsStart (old new : LinkState) (wakeFailed : Bool) : Bool :=
  wakeFailed || (new == .parking && old.carries) || new == .unacked

def State.allLinksIn (s : State) (p : LinkState → Bool) : Bool := allLinks.all (fun l => p (s.link l).state)

/-- A link that reports DOWN with owed order WAKE is woken (R142). -/
def wakeOwed (l : LinkId) (s : State) : State :=
  if (s.link l).state = .down ∧ s.line.owed.get l = .wake then wakeLink l (s.setOwed l .nothing) else s

/-- The go: to every ARMED link once all four have armed, and at once to a link that arms afterwards (R142). -/
def goReport (l : LinkId) (s : State) : State :=
  if s.line.go then giveGo l s
  else if s.allLinksIn LinkState.armedUp then
    allLinks.foldl (fun s l => giveGo l s) (s.setLine { s.line with go := true })
  else s

/-- All four links ACTIVE end the arming (R142). -/
def armedReport (s : State) : State :=
  if s.allLinksIn (fun st => st == .active) then
    let s1 := s.setLine { s.line with go := false }
    if s1.hold.stack = [] then runEntry s1 else enterLine .held s1
  else s

/-- Line Control takes the report of a link's change of state from `old` (R142 to R144, R168). -/
def linkReport (l : LinkId) (old : LinkState) (wakeFailed : Bool) (s : State) : State :=
  let k := s.link l
  match s.line.state with
  | .arming =>
    if failsStart old k.state wakeFailed then startFailure s else armedReport (goReport l (wakeOwed l s))
  | .run | .halting | .held => if k.state = .armed then giveGo l s else s
  | .stopped => if (k.state = .armed ∨ k.state = .active) ∧ k.op = none then parkLink l s else s
  | .stopping => s

/-- Line Control takes the report that an operation is completed or failed (R147). An owed PARK stands only in STOPPED,
where the report that the link then makes of PARKING moves nothing. -/
def owedParkReport (l : LinkId) (s : State) : State :=
  if s.line.owed.get l = .park then
    let s1 := s.setOwed l .nothing
    if (s1.link l).state.carries then parkLink l s1 else s1
  else s

/-! ### Ramp and emergency stop -/

/-- The ramp timer expires (R149). -/
def rampExpiry (s : State) : State :=
  if s.line.rampTimer.isSome then
    let k := s.line
    let next := if k.commanded < k.target then k.commanded + 1 else k.commanded - 1
    settleAtRest (setSpeeds next k.target (s.setLine { k with rampTimer := some Config.rampMs }))
  else s

/-- The emergency-stop input goes active (R152). -/
def emergencyStop (s : State) : State :=
  let s1 := faultHold .estop noDetail (s.setLine { s.line with estop := true })
  let s2 := setSpeeds 0 s1.line.target s1
  settleAtRest (s2.setLine { s2.line with rampTimer := none })

end Sys2Proof.Machine
end

