-- ==== Sys2Proof/Machine/Film.lean ====
section
/-! DEFINITION. Laminator Control (chapter 5) but for what makes scrap claims: the entry at the nip, film level, splice search, transition decision, operations' ends, announcements and removals. -/

namespace Sys2Proof.Machine

/-- The nip state a class calls for (R81). -/
def LamClass.calls : LamClass → NipState
  | .film => .closed
  | .bare => .opened

/-- Laminator Control gives Line Control the entry at the nip each time it changes (R82, R148). -/
def reportNip (s : State) : State :=
  let now := (entryAtNip s.map.entries).map MapEntry.target
  if s.line.atNip = now then s else retarget (s.setLine { s.line with atNip := now })

/-- The entry whose gap is open at the nip, by name (R82). -/
def State.openTarget (s : State) : Option Target := (gapOpen s.map.entries).map MapEntry.target

/-! ### The transition decision (R92, R93) -/

/-- The operation the transition decision asks for, if any (R92). -/
def transitionChoice (s : State) : Option LamOp :=
  let x := gapOpen s.map.entries
  if s.lam.nip = .closed ∧ s.lam.remaining = 0 then
    some { kind := .nipOpen, final := .opened, target := x.map MapEntry.target }
  else
    match x with
    | none => none
    | some e =>
      if s.lam.request = .placed e.target then some { kind := .splice, final := e.cls.calls, target := some e.target }
      else if e.cls.calls ≠ s.lam.nip ∧ ¬ (e.cls = .film ∧ s.lam.remaining = 0) then
        some { kind := if e.cls = .film then .nipClose else .nipOpen, final := e.cls.calls, target := some e.target }
      else none

/-- The parameter words of a nip operation (R169). -/
def LamOp.params (o : LamOp) : List Nat := if o.kind = .splice then [o.final.code] else []

/-- Laminator Control asks the LAM link for an operation; a refusal records nothing (R93). -/
def issueNip (o : LamOp) (s : State) : State :=
  match requestOp .lam o.kind o.params o.target s with
  | some s1 => s1.setLam { s1.lam with op := some o }
  | none => s

/-- The transition decision (R92). -/
def transitionDecision (s : State) : State :=
  match s.lam.op with
  | some _ => s
  | none =>
    match transitionChoice s with
    | some o => issueNip o s
    | none => s

/-- The transition decision, made where an entry's gap is open at the nip (R90, R91). -/
def decideIfOpen (s : State) : State := if s.openTarget.isSome then transitionDecision s else s

/-! ### The splice search (R89) -/

/-- The first entry whose gap can carry the splice (R89). -/
def searchChoice (gap : Nat) (vs : List EntryView) : Option EntryView :=
  vs.find? (fun v => decide (gap ≤ v.gap) && v.entry.nip == .ahead && !v.entry.spliceGap)

/-- The splice search (R89). -/
def spliceSearch (s : State) : State :=
  if s.lam.request = .wanted then
    match searchChoice s.lam.spliceGap s.views with
    | some v =>
      let t := v.entry.target
      let s1 := s.modifyEntry t (fun e => { e with spliceGap := true })
      let s2 := s1.setLam { s1.lam with request := .placed t, reservation := none }
      if s2.openTarget = some t then transitionDecision s2 else s2
    | none =>
      if s.lam.reservation.isSome then s
      else raiseNotice .gapWanted (s.setLam { s.lam with reservation := some s.lam.spliceGap })
  else s

/-- The request becomes WANTED and the search runs (R84, R87, R95, R96). -/
def wantSplice (s : State) : State := spliceSearch (s.setLam { s.lam with request := .wanted })

/-! ### Film level (R84) -/

/-- The automatic splice condition (R84). -/
def autoSplice (s : State) : State :=
  if s.filmLow ∧ s.lam.standby.isSome ∧ s.lam.request = .idle then wantSplice s else s

/-- FILM_LOW and the automatic splice condition are evaluated (R84). -/
def evalFilm (s : State) : State := autoSplice (passLevel .filmLow s.filmLow s)

/-! ### Ends of an operation (R94, R95) -/

/-- The reels after a completed SPLICE (R94). A SPLICE is in flight only with a standby reel present (log 18). -/
def swapReels (s : State) : State :=
  let length := s.lam.standby.getD s.lam.remaining
  s.setLam { s.lam with reelLength := length, remaining := length, standby := none, request := .idle }

/-- Completion of Laminator Control's operation (R94). -/
def lamComplete (s : State) : State :=
  match s.lam.op with
  | none => s
  | some o =>
    let s1 := s.setLam { s.lam with nip := o.final, op := none }
    transitionDecision (if o.kind = .splice then evalFilm (swapReels s1) else s1)

/-- Failure of Laminator Control's operation (R95). -/
def lamFail (s : State) : State :=
  match s.lam.op with
  | none => s
  | some o =>
    let s1 := s.setLam { s.lam with op := none }
    transitionDecision (if o.kind = .splice then wantSplice s1 else s1)

/-! ### Announcements, withdrawals, retirements -/

/-- Laminator Control is given a new entry (R22 step 6, R90). -/
def lamAnnounced (t : Target) (s : State) : State :=
  let s1 := spliceSearch s
  if s1.openTarget = some t then transitionDecision s1 else s1

/-- A SPLICE is in flight. -/
def State.splicing (s : State) : Bool :=
  match s.lam.op with
  | some o => o.kind == .splice
  | none => false

/-- An operation whose target was the entry goes on without one (R91). -/
def LamOp.forget (t : Target) (o : LamOp) : LamOp := if o.target = some t then { o with target := none } else o

/-- Laminator Control is told that an entry has left the map (R91). `withdrawn` tells a withdrawal, for which the search
always runs, from a retirement, for which it runs where the request has returned to WANTED (log 16). -/
def lamRemoved (t : Target) (withdrawn : Bool) (s : State) : State :=
  let back := s.lam.request = .placed t ∧ s.splicing = false
  let s1 := s.setLam { s.lam with
    op := s.lam.op.map (LamOp.forget t), request := if back then .wanted else s.lam.request }
  decideIfOpen (if withdrawn ∨ back then spliceSearch (reportNip s1) else reportNip s1)

end Sys2Proof.Machine
end

