-- ==== Sys2Proof/Machine/Scrap.lean ====
section
/-! DEFINITION. Scrap claims (R33) and what they bring at Cut Control: the reprint record, conversion to WASTE, slit issue, disposal of a slit entry, the ends of a slitter move. -/

namespace Sys2Proof.Machine

/-! ### The claim at the Panel Map (R33, R35) -/

/-- A reprint record is appended, or lost to a full list (R35). -/
def appendReprint (r : ReprintRecord) (s : State) : State :=
  if s.map.reprints.length < Config.reprintSize then
    raiseNotice .reprintWanted (s.setMap { s.map with reprints := s.map.reprints ++ [r] })
  else raiseNotice .reprintLost s

/-- The entry named stands in the map and carries no scrap reason. -/
def State.good (s : State) (t : Target) : Bool :=
  match s.entry t with
  | some e => e.scrap.isNone
  | none => false

/-- Steps 1 to 3 of a scrap claim (R33); nothing where no entry carries the name or it already carries a reason. -/
def markScrap (t : Target) (reason : ScrapReason) (s : State) : State :=
  match s.entry t with
  | none => s
  | some e =>
    if e.scrap.isSome then s
    else
      let r : ReprintRecord :=
        { panel := e.panel, plan := e.plan, length := e.length, cls := e.cls, reason := reason }
      raiseNotice .panelScrapped (appendReprint r (s.modifyEntry t (fun x => { x with scrap := some reason })))

/-! ### Slit issue (R113, R114) -/

/-- Condition 3 of a slit issue attempt: the nearest older entry without a scrap reason is PAST, or there is none. -/
def olderClear (owner : Target) (es : List MapEntry) : Bool :=
  match (olderThan owner es).reverse.find? (fun e => e.scrap.isNone) with
  | some e => e.slitter == .past
  | none => true

/-- The four conditions of a slit issue attempt on the front entry (R113). -/
def State.slitReady (s : State) (front : SlitEntry) : Bool :=
  s.cut.moveFlight.isNone && !front.issued && s.good front.owner && olderClear front.owner s.map.entries &&
    (s.link .slit).state == .active

/-- The parameter words of a MOVE (R169). -/
def moveParams (lanes : List Nat) : List Nat := lanes.length :: lanes

/-- A slit issue attempt (R113, R114). -/
def slitAttempt (s : State) : State :=
  match s.cut.slit with
  | [] => s
  | front :: rest =>
    if s.slitReady front then
      match requestOp .slit .move (moveParams front.lanes) (some front.owner) s with
      | some s1 =>
        s1.setCut { s1.cut with
          slit := { front with issued := true } :: rest
          moveFlight := some { lanes := front.lanes, owner := some front.owner } }
      | none => s
    else s

/-! ### Conversion and disposal (R111, R112) -/

/-- The panel's CUT entries still in the XCUT queue become WASTE (R111). -/
def convertCuts (t : Target) (s : State) : State :=
  s.setCut { s.cut with
    xcut := s.cut.xcut.map (fun c => if c.owner = t ∧ c.kind = .cut then { c with kind := .waste } else c) }

/-- The index of the panel's UNISSUED slit entry, if it has one. -/
def State.unissuedOf (s : State) (t : Target) : Option Nat :=
  s.cut.slit.findIdx? (fun x => decide (x.owner = t) && !x.issued)

/-- The entries a disposal looks at (R112): those younger than the owner, up to the owner of the next slit entry, as far as
they are COMMITTED or AT_KNIFE. -/
def disposalRange (owner : Target) (next : Option Target) (es : List MapEntry) : List Target :=
  ((youngerThan owner es).takeWhile
    (fun e => decide (some e.target ≠ next) && (e.phase == .committed || e.phase == .atKnife))).map MapEntry.target

/-- The slit entry at index i is handed to an entry whose head is at the slitters at `deadline` (R112). -/
def handOn (i : Nat) (t : Target) (deadline : Nat) (s : State) : State :=
  s.setCut { s.cut with slit := s.cut.slit.modify i (fun x => { x with owner := t, deadline := deadline }) }

/-- The disposal of the slit entry at index i over the entries it may look at (R112). A claimed entry owns no slit entry of
its own, so its conversion is of its cuts alone (log 13). A hand-on whose deadline is the present odometer is crossed at
once (R8, R116), which scraps the entry it was handed to and carries the disposal on. -/
def disposeOver (i : Nat) : List Target → State → State
  | [], s => slitAttempt (s.setCut { s.cut with slit := s.cut.slit.eraseIdx i })
  | t :: ts, s =>
    match s.entry t with
    | none => disposeOver i ts s
    | some q =>
      if q.scrap.isSome then disposeOver i ts s
      else if q.slitter = .ahead then
        let deadline := q.headAt s.tracker.zones.slit
        let s1 := handOn i t deadline s
        if deadline = s.tracker.odometer then disposeOver i ts (convertCuts t (markScrap t .slitLate s1))
        else slitAttempt s1
      else disposeOver i ts (slitAttempt (convertCuts t (markScrap t .slitLate s)))

/-- The disposal of the panel's UNISSUED slit entry, if it has one (R112). -/
def disposeSlit (t : Target) (s : State) : State :=
  match s.unissuedOf t with
  | none => s
  | some i =>
    disposeOver i (disposalRange t ((s.cut.slit[i + 1]?).map (fun x => x.owner)) s.map.entries) s

/-- The conversion request (R111). -/
def convertPanel (t : Target) (s : State) : State := slitAttempt (disposeSlit t (convertCuts t s))

/-- A scrap claim (R33). -/
def scrapClaim (t : Target) (reason : ScrapReason) (s : State) : State :=
  match s.entry t with
  | none => s
  | some e =>
    if e.scrap.isSome then s
    else
      let s1 := markScrap t reason s
      if e.phase = .committed ∨ e.phase = .atKnife then convertPanel t s1 else s1

/-! ### Deadline and ends of a move (R103, R115 to R117) -/

/-- The deadline crossing of a slit entry, ISSUED or not (R116). -/
def deadlineCrossing (owner : Target) (s : State) : State := scrapClaim owner .slitLate s

/-- The ISSUED entry leaves the queue. Only the front entry is ever ISSUED (R103). -/
def dropIssued : List SlitEntry → List SlitEntry
  | [] => []
  | x :: rest => if x.issued then rest else x :: rest

/-- The ISSUED entry becomes UNISSUED (R117). -/
def unissue (slit : List SlitEntry) : List SlitEntry := slit.map (fun x => { x with issued := false })

/-- Completion of the move (R115). -/
def moveComplete (s : State) : State :=
  match s.cut.moveFlight with
  | none => s
  | some m =>
    slitAttempt (s.setCut { s.cut with slit := dropIssued s.cut.slit, moveFlight := none, current := .known m.lanes })

/-- Failure of the move (R117). -/
def moveFail (s : State) : State :=
  match s.cut.moveFlight with
  | none => s
  | some m =>
    let s1 := s.setCut { s.cut with slit := unissue s.cut.slit, moveFlight := none, current := .unknown }
    match m.owner with
    | none => slitAttempt s1
    | some t => slitAttempt (disposeSlit t (scrapClaim t .stationFail s1))

/-- Cut Control is told that an entry has left the map (R103). -/
def cutRemoved (t : Target) (s : State) : State :=
  match s.cut.slit with
  | [] => s
  | front :: rest =>
    if front.issued ∧ front.owner = t then
      s.setCut { s.cut with
        slit := rest
        moveFlight := s.cut.moveFlight.map (fun m => { m with owner := none })
        current := .unknown }
    else s

end Sys2Proof.Machine
end

