-- ==== Sys2Proof/Machine/Retire.lean ====
section
/-! DEFINITION. Retirement (R28 to R30, R37), the knife (R107 to R110) and commit expansion (R26, R55 to R61). -/

namespace Sys2Proof.Machine

/-! ### Retirement -/

/-- An outcome record is appended, or lost to a full list (R37). -/
def appendOutcome (r : OutcomeRecord) (s : State) : State :=
  if s.map.outcomes.length < Config.outcomeSize then s.setMap { s.map with outcomes := s.map.outcomes ++ [r] }
  else raiseNotice .outcomeLost s

/-- The outcome record of an entry (R30 step 1). -/
def MapEntry.outcomeRecord (e : MapEntry) : OutcomeRecord :=
  { panel := e.panel, plan := e.plan, reason := e.scrap, regResult := e.regResult, cutsMade := e.cutsMade }

/-- The entry leaves the map, with the records kept for it (R16, R24, R30). -/
def State.dropEntry (s : State) (t : Target) : State :=
  s.setMap { s.map with entries := removeEntry t s.map.entries }

/-- Retirement (R30). -/
def retire (t : Target) (s : State) : State :=
  match s.entry t with
  | none => s
  | some e =>
    let s1 := (appendOutcome e.outcomeRecord s).dropEntry t
    let s2 := cutRemoved t (lamRemoved t false s1)
    evalMapLevels (raiseNotice .panelRetired (s2.dropRef e.plan))

/-- The entry is retired if its tail has cleared the knife and no cut of it is pending (R28, R29). -/
def retireIfDone (t : Target) (s : State) : State :=
  match s.entry t with
  | none => s
  | some e => if e.tailCleared ∧ e.cutsPending = 0 then retire t s else s

/-- A cut entry of the panel is resolved; `made` says that it was a CUT entry resolved by completion (R29). -/
def resolveCut (t : Target) (made : Bool) (s : State) : State :=
  retireIfDone t (s.modifyEntry t (fun e =>
    { e with cutsPending := e.cutsPending - 1, cutsMade := if made then e.cutsMade + 1 else e.cutsMade }))

/-! ### The knife -/

/-- A missed cut entry (R108). -/
def cutMissed (c : CutEntry) (s : State) : State :=
  let s1 := raiseNotice .cutMissed s
  resolveCut c.owner false (if c.kind = .cut then scrapClaim c.owner .cutMissed s1 else s1)

/-- The divert flag of a cut, the one parameter of its operation (R107, R169). -/
def CutKind.divert : CutKind → Nat
  | .cut => 0
  | .waste => 1

/-- The front cut entry, whose position the web has reached, is issued or missed (R107). -/
def cutCrossing (s : State) : State :=
  match s.cut.xcut with
  | [] => s
  | c :: rest =>
    if c.position = s.tracker.odometer then
      let s1 := s.setCut { s.cut with xcut := rest }
      match requestOp .xcut .cut [c.kind.divert] (some c.owner) s1 with
      | some s2 => s2.setCut { s2.cut with cutFlight := some c }
      | none => cutMissed c s1
    else s

/-- Completion of the cut in flight (R109). -/
def cutComplete (s : State) : State :=
  match s.cut.cutFlight with
  | none => s
  | some c => resolveCut c.owner (c.kind == .cut) (s.setCut { s.cut with cutFlight := none })

/-- Failure of the cut in flight (R110). -/
def cutFail (s : State) : State :=
  match s.cut.cutFlight with
  | none => s
  | some c =>
    let s1 := s.setCut { s.cut with cutFlight := none }
    resolveCut c.owner false (if c.kind = .cut then scrapClaim c.owner .stationFail s1 else s1)

/-! ### Commit expansion -/

/-- Insertion in ascending order of `key`, after any entry with the same key (R61). -/
def insertAfter {α : Type} (key : α → Nat) (x : α) : List α → List α
  | [] => [x]
  | y :: ys => if key x < key y then x :: y :: ys else y :: insertAfter key x ys

/-- A cut entry is inserted and counted pending (R29, R61). -/
def insertCut (c : CutEntry) (s : State) : State :=
  (s.setCut { s.cut with xcut := insertAfter (fun x => x.position) c s.cut.xcut }).modifyEntry c.owner
    (fun e => { e with cutsPending := e.cutsPending + 1 })

/-- A waste cut is made if the XCUT queue has room for it (R56). -/
def insertWaste (c : CutEntry) (s : State) : State :=
  if s.cut.xcut.length < Config.xcutSize then insertCut c s else s

/-- The two waste cuts of a panel (R56). -/
def wasteCuts (e : MapEntry) (s : State) : State :=
  let d := s.tracker.zones.knife
  let head : CutEntry := { position := e.headAt d, owner := e.target, step := .wasteHead, kind := .waste }
  let tail : CutEntry := { position := e.tailAt d, owner := e.target, step := .wasteTail, kind := .waste }
  insertWaste tail (insertWaste head s)

/-- The panel is scrapped at its commit crossing and given its waste cuts (R56, R57, R60). -/
def expandScrap (e : MapEntry) (reason : ScrapReason) (s : State) : State :=
  wasteCuts e (scrapClaim e.target reason s)

/-- The CUT entries of a panel, from the k-th offset on (R58). -/
def cutEntriesFrom (e : MapEntry) (d : Nat) : Nat → List Nat → List CutEntry
  | _, [] => []
  | k, o :: os =>
    { position := e.headAt (o + d), owner := e.target, step := .offset k, kind := .cut } :: cutEntriesFrom e d (k + 1) os

/-- The reference set of R59 as Cut Control gives it (R104). -/
def CutControl.reference (c : CutControl) : SlitterSet :=
  match c.slit.getLast? with
  | some x => .known x.lanes
  | none => c.current

/-- The panel needs a slitter move: its plan's set differs from the reference set (R59). -/
def needsMove (q : Plan) (c : CutControl) : Bool := decide (c.reference ≠ .known q.slits)

/-- Both queues have room for the panel's entries (R60). -/
def queuesHaveRoom (q : Plan) (c : CutControl) : Bool :=
  decide (c.xcut.length + q.cuts.length ≤ Config.xcutSize) &&
    (!needsMove q c || decide (c.slit.length < Config.slitSize))

/-- A slit entry is inserted by deadline, and a slit issue attempt follows (R61, R113). -/
def insertSlit (x : SlitEntry) (s : State) : State :=
  slitAttempt (s.setCut { s.cut with slit := insertAfter (fun y => y.deadline) x s.cut.slit })

/-- Normal expansion (R58, R59). -/
def expandNormal (e : MapEntry) (q : Plan) (s : State) : State :=
  let z := s.tracker.zones
  let s1 := (cutEntriesFrom e z.knife 1 q.cuts).foldl (fun s c => insertCut c s) s
  if needsMove q s.cut then
    insertSlit { owner := e.target, deadline := e.headAt z.slit, lanes := q.slits, issued := false } s1
  else s1

/-- Commit expansion of an entry (R55). The plan a map entry names is in the store (R48, log 18). -/
def expand (e : MapEntry) (s : State) : State :=
  match s.plan e.plan with
  | none => s
  | some q =>
    if q.state = .opened then expandScrap e .planUnderrun s
    else if q.cuts.any (fun o => decide (e.length < o)) then expandScrap e .planMismatch s
    else if queuesHaveRoom q s.cut then expandNormal e q s
    else expandScrap e .queueFull s

/-- The head-at-commit crossing (R26). -/
def commitCrossing (t : Target) (s : State) : State :=
  match s.entry t with
  | none => s
  | some e =>
    let s1 := expand e (s.modifyEntry t (fun x => { x with phase := .committed }))
    if e.scrap.isSome then convertPanel t s1 else s1

end Sys2Proof.Machine
end

