-- ==== Sys2Proof/Machine/Registration.lean ====
section
/-! DEFINITION. The Registration Checker (chapter 4): windows, marks, lock state and the completion of settled reads. -/

namespace Sys2Proof.Machine

/-! ### Settled reads (R77) -/

/-- The command code of a settled read, which its result records carry (R200). -/
def settledCode : Byte := 0x54

/-- A port that waits on the entry takes its copy, and its result record is replaced (R77). -/
def Port.settle (v : EntryView) (k : Port) : Port :=
  if k.settled = .waiting v.entry.target then
    { k with
      settled := .ready v
      result := { code := settledCode, outcome := .ok, value := BitVec.ofNat 32 v.entry.slot, slot := none } }
  else k

/-- Settled reads waiting on the entry are completed (R77). -/
def settleReads (t : Target) (s : State) : State :=
  match s.view t with
  | none => s
  | some v => s.setPorts (s.ports.map (Port.settle v))

/-! ### Lock state (R71 to R74) -/

/-- The lock state and unread run take new values, and REG_LOCK is passed (R74). -/
def setLock (lock : LockState) (run : Nat) (s : State) : State :=
  let s1 := s.setReg { s.reg with lock := lock, unreadRun := run }
  passLevel .regLock s1.regLocked s1

/-- The lock state returns to SEEKING (R71, R73). -/
def seekLock (s : State) : State := setLock .seeking 0 s

/-- A move into LOST pushes REG_LOST (R73). -/
def loseLock (t : Target) (s : State) : State :=
  faultHold .regLost { panel := some t, link := none } (setLock .lost 2 s)

/-- The lock state takes a good read (R72). -/
def lockGood (s : State) : State := setLock .locked 0 s

/-- The lock state takes an UNREAD (R72). -/
def lockUnread (t : Target) (s : State) : State :=
  match s.reg.lock with
  | .seeking => if s.reg.unreadRun = 0 then setLock .seeking 1 s else loseLock t s
  | .locked => setLock .slipping 1 s
  | .slipping => loseLock t s
  | .lost => setLock .lost 2 s

/-! ### Windows and marks -/

def MapEntry.windowIs (st : WindowStatus) (e : MapEntry) : Bool :=
  match e.window with
  | some w => w.status == st
  | none => false

/-- The entry whose window record is OPEN; two are never open at once (R65). -/
def State.openWindow (s : State) : Option MapEntry := s.map.entries.find? (MapEntry.windowIs .opened)

def MapEntry.setWindow (st : WindowStatus) (e : MapEntry) : MapEntry :=
  { e with window := e.window.map (fun w => { w with status := st }) }

/-- The window-opening crossing (R65). -/
def openCrossing (t : Target) (s : State) : State := s.modifyEntry t (MapEntry.setWindow .opened)

/-- The window resolves with a result and an offset (R31, R65). -/
def MapEntry.resolve (r : RegResult) (offset : Int) (e : MapEntry) : MapEntry :=
  { e.setWindow .resolved with regResult := some r, offset := offset }

/-- The window-closing crossing of an OPEN window (R68). -/
def closeCrossing (t : Target) (s : State) : State :=
  match s.entry t with
  | none => s
  | some e =>
    let s1 := s.modifyEntry t (MapEntry.resolve .unread 0)
    let s2 := if e.policy = .required then scrapClaim t .regUnread s1 else s1
    settleReads t (lockUnread t s2)

/-- The result of a compared mark (R67). -/
def compareMark (tolerance : Nat) (delta : Int) : RegResult :=
  if delta < -(tolerance : Int) then .ahead delta else if (tolerance : Int) < delta then .behind delta else .on delta

/-- The offset a result writes (R31, R67). -/
def RegResult.offset : RegResult → Int
  | .ahead d => d
  | .behind d => d
  | .on _ => 0
  | .unread => 0

/-- A mark compared with an open window (R67). -/
def comparedMark (e : MapEntry) (w : Window) (s : State) : State :=
  let r := compareMark s.reg.tolerance ((s.tracker.odometer : Int) - (w.expected : Int))
  let s1 := s.modifyEntry e.target (MapEntry.resolve r r.offset)
  settleReads e.target (lockGood s1)

/-- A mark event (R66, R69). -/
def markEvent (s : State) : State :=
  if 0 < s.tracker.debt then raiseNotice .orphanMark s
  else
    match s.openWindow with
    | none => raiseNotice .orphanMark s
    | some e =>
      match e.window with
      | some w => comparedMark e w s
      | none => raiseNotice .orphanMark s

end Sys2Proof.Machine
end

