-- ==== Sys2Proof/Machine/Crossings.lean ====
section
/-! DEFINITION. The Web Tracker (chapter 1): SYNC, the crossings an odometer advance raises and who takes them, encoder steps, and Laminator Control's crossings and film count (chapter 5). -/

namespace Sys2Proof.Machine

/-! ### SYNC (R11 to R14) -/

/-- A SYNC crossing drives the output active, starting its period anew (R14). -/
def syncPulse (s : State) : State := s.setTracker { s.tracker with syncPulse := some Config.syncPulseMs }

/-- The entry has a SYNC point at the present odometer (R13). -/
def Tracker.syncPoint (k : Tracker) (e : MapEntry) : Bool :=
  match k.syncMode with
  | .off => false
  | .head => e.head == k.odometer + k.syncLead
  | .headTail => e.head == k.odometer + k.syncLead || e.tail == k.odometer + k.syncLead

/-- The SYNC crossings of the present odometer value for the entries given; they give one pulse (R14). -/
def syncCrossings (es : List MapEntry) (s : State) : State :=
  if es.any s.tracker.syncPoint then syncPulse s else s

/-! ### Laminator Control's film count and crossings (R83, R96 to R98) -/

/-- The film runs out (R98). -/
def filmOut (s : State) : State :=
  let inside := (s.map.entries.filter (fun e => e.nip == .inside)).map MapEntry.target
  let s1 := inside.foldl (fun s t => scrapClaim t .filmOut s) s
  transitionDecision (faultHold .filmOut { panel := inside.head?, link := none } s1)

/-- A film count step draws film (R83). -/
def State.drawsFilm (s : State) : Bool := s.lam.nip == .closed && decide (0 < s.lam.remaining)

/-- A film count step that draws film (R83, R84). -/
def filmStep (s : State) : State :=
  let s1 := evalFilm (s.setLam { s.lam with remaining := s.lam.remaining - 1 })
  if s.lam.remaining = 1 then filmOut s1 else s1

/-- The check of an entry whose head has reached the nip (R96). -/
def nipCheck (e : MapEntry) (s : State) : State :=
  let t := e.target
  if e.cls = .film ∧ s.lam.remaining = 0 then scrapClaim t .filmOut s
  else if (s.lam.op.bind (fun o => o.target)) = some t then scrapClaim t .lamLate s
  else if s.lam.request = .placed t then wantSplice (scrapClaim t .lamLate s)
  else if s.lam.nip ≠ e.cls.calls then scrapClaim t .lamLate s
  else s

/-- The head-at-nip crossing (R82, R96). -/
def nipHeadCrossing (t : Target) (s : State) : State :=
  match s.entry t with
  | none => s
  | some e => nipCheck e (reportNip (s.modifyEntry t (fun x => { x with nip := .inside })))

/-- The tail-at-nip crossing (R82, R97). -/
def nipTailCrossing (t : Target) (s : State) : State :=
  transitionDecision (reportNip (s.modifyEntry t (fun x => { x with nip := .past })))

/-! ### The Panel Map's and Cut Control's crossings -/

/-- The head-at-print-line crossing (R25). -/
def printLineCrossing (t : Target) (s : State) : State :=
  let s1 := s.modifyEntry t (fun x => { x with phase := .onWeb })
  passLevel .queueLow s1.queueLow s1

/-- The head-at-knife crossing (R27). -/
def knifeHeadCrossing (t : Target) (s : State) : State := s.modifyEntry t (fun x => { x with phase := .atKnife })

/-- The tail-at-knife crossing (R28). -/
def knifeTailCrossing (t : Target) (s : State) : State :=
  retireIfDone t (s.modifyEntry t (fun x => { x with tailCleared := true }))

/-- The head-at-slitters crossing (R105). -/
def slitHeadCrossing (t : Target) (s : State) : State := s.modifyEntry t (fun x => { x with slitter := .inside })

/-- The tail-at-slitters crossing (R105, R113). -/
def slitTailCrossing (t : Target) (s : State) : State :=
  slitAttempt (s.modifyEntry t (fun x => { x with slitter := .past }))

/-! ### The tracked points (R7) -/

/-- The blocks that take crossings. -/
inductive Owner where
  | map
  | reg
  | lam
  | cut
deriving DecidableEq, Repr

/-- Kinds of tracked points, the film count of the advance among them as Laminator Control's first item (R83, log 10). -/
inductive Point where
  | printLine
  | commit
  | knifeHead
  | knifeTail
  | windowOpen
  | windowClose
  | nipHead
  | nipTail
  | slitHead
  | slitTail
  | deadline
  | cutPosition
deriving DecidableEq, Repr

def Point.owner : Point → Owner
  | .printLine | .commit | .knifeHead | .knifeTail => .map
  | .windowOpen | .windowClose => .reg
  | .nipHead | .nipTail => .lam
  | .slitHead | .slitTail | .deadline | .cutPosition => .cut

/-- The crossing value of an entry's point (R7), where the point is the entry's own and still tracked. -/
def MapEntry.crossing (z : Zones) (e : MapEntry) : Point → Option Nat
  | .printLine => if e.phase = .queued then some e.head else none
  | .commit => if e.phase = .onWeb then some (e.headAt z.commit) else none
  | .knifeHead => if e.phase = .committed then some (e.headAt z.knife) else none
  | .knifeTail => if e.tailCleared then none else some (e.tailAt z.knife)
  | .windowOpen => e.window.bind (fun w => if w.status = .notOpen then some (w.expected - w.halfWidth) else none)
  | .windowClose => e.window.bind (fun w => if w.status = .opened then some (w.expected + w.halfWidth) else none)
  | .nipHead => if e.nip = .ahead then some (e.headAt z.nip) else none
  | .nipTail => if e.nip = .past then none else some (e.tailAt z.nip)
  | .slitHead => if e.slitter = .ahead then some (e.headAt z.slit) else none
  | .slitTail => if e.slitter = .past then none else some (e.tailAt z.slit)
  | .deadline | .cutPosition => none

/-- The point of the entry named stands at the present odometer value and is still tracked. The deadline is that of the
entry's slit entry, the cut position that of the front cut entry. -/
def State.pointDue (s : State) (t : Target) (p : Point) : Bool :=
  match p with
  | .deadline => s.cut.slit.any (fun x => decide (x.owner = t ∧ x.deadline = s.tracker.odometer))
  | .cutPosition => s.cut.xcut.any (fun c => decide (c.owner = t ∧ c.position = s.tracker.odometer))
  | p =>
    match s.entry t with
    | some e => decide (e.crossing s.tracker.zones p = some s.tracker.odometer)
    | none => false

/-- A crossing as its owner takes it. -/
def takePoint (t : Target) (p : Point) (s : State) : State :=
  match p with
  | .printLine => printLineCrossing t s
  | .commit => commitCrossing t s
  | .knifeHead => knifeHeadCrossing t s
  | .knifeTail => knifeTailCrossing t s
  | .windowOpen => openCrossing t s
  | .windowClose => closeCrossing t s
  | .nipHead => nipHeadCrossing t s
  | .nipTail => nipTailCrossing t s
  | .slitHead => slitHeadCrossing t s
  | .slitTail => slitTailCrossing t s
  | .deadline => deadlineCrossing t s
  | .cutPosition => cutCrossing s

/-! ### One odometer advance (R1, R9, R10) -/

/-- What is due on an advance: Laminator Control's film count, or a crossing of an entry's point. -/
inductive Due where
  | film
  | point (t : Target) (p : Point)
deriving DecidableEq, Repr

def Due.owner : Due → Owner
  | .film => .lam
  | .point _ p => p.owner

/-- A due item is taken, unless an earlier one of the same advance has ended it. -/
def takeDue (d : Due) (s : State) : State :=
  match d with
  | .film => filmStep s
  | .point t p => if s.pointDue t p then takePoint t p s else s

/-- The points one owner meets of one entry, in its order (R10, R106; log 14). -/
def ownerPoints : List Point :=
  [.printLine, .commit, .knifeHead, .knifeTail, .windowOpen, .windowClose, .nipHead, .nipTail, .slitHead, .deadline,
    .slitTail]

/-- The crossings of one entry due at the present odometer value. -/
def State.dueOf (s : State) (e : MapEntry) : List Due :=
  ((ownerPoints.filter (fun p => s.pointDue e.target p)).map (fun p => Due.point e.target p)) ++
    ((s.cut.xcut.filter (fun c => decide (c.owner = e.target ∧ c.position = s.tracker.odometer))).map
      (fun _ => Due.point e.target .cutPosition))

/-- All that is due on an advance, in web order, the film count first (R10, R83). -/
def State.due (s : State) : List Due :=
  (if s.drawsFilm then [Due.film] else []) ++ s.map.entries.flatMap s.dueOf

/-- A mark waits right behind the command being run: it falls on the odometer value that command leaves (log 25). -/
def State.markBehind (s : State) : Bool := s.pending.head? == some .mark

/-- The window crossings due at the present odometer value and not taken yet. -/
def State.windowsDue (s : State) : List Due := s.due.filter (fun d => d.owner == .reg)

/-- What an encoder step takes of what is due: all of it, but the window crossings where a mark waits right behind the step.
R66 leaves open which of a mark and a window crossing at one odometer value is taken first, so they are then left to the
mark's own row, which takes them in either order (log 25). -/
def State.stepDue (s : State) : List Due :=
  if s.markBehind then s.due.filter (fun d => d.owner != .reg) else s.due

def allOwners : List Owner := [.map, .reg, .lam, .cut]

/-- The owner that takes its next item: the only one with an item due, or, where there are more, one that R9 leaves open
(a free value, log 3). -/
def nextOwner (due : List Due) (tick : Nat) : Option Owner :=
  let waiting := allOwners.filter (fun o => due.any (fun d => d.owner == o))
  match waiting with
  | [] => none
  | [o] => some o
  | _ => waiting[Config.raceChoice tick % waiting.length]?

/-- The owners take what is due, each its own items in order (R9, R10). `fuel` is the number of items. -/
def drain : Nat → List Due → State → State
  | 0, _, s => s
  | fuel + 1, due, s =>
    match nextOwner due s.freeTick with
    | none => s
    | some o =>
      match due.find? (fun d => d.owner == o) with
      | none => s
      | some d => drain fuel (due.eraseP (fun d => d.owner == o)) (takeDue d (s.setFreeTick (s.freeTick + 1)))

/-- The last crossing of an advance has been taken: at the odometer's top the ODOMETER hold is pushed (R3). -/
def endAdvance (s : State) : State :=
  if s.tracker.odometer = Config.odometerTop then faultHold .odometer noDetail s else s

/-- The advance that led here is not over: window crossings of it are left to a mark right behind the step (R66, log 25). -/
def State.leavesWindows (s : State) : Bool := s.markBehind && !s.windowsDue.isEmpty

/-- An odometer advance (R1, R3). Which of a mark and a window crossing at one value comes first is open (R66): see stepDue (log 25).
An advance with crossings left to a mark is ended by the mark's row. -/
def advance (s : State) : State :=
  let s1 := s.setTracker { s.tracker with odometer := s.tracker.odometer + 1 }
  let s2 := syncCrossings s1.map.entries s1
  let s3 := drain s2.stepDue.length s2.stepDue s2
  if s3.leavesWindows then s3 else endAdvance s3

/-- A forward step (R1, R3). -/
def forwardStep (s : State) : State :=
  if 0 < s.tracker.debt then s.setTracker { s.tracker with debt := s.tracker.debt - 1 }
  else if s.tracker.odometer < Config.odometerTop then advance s
  else faultHold .odometer noDetail s

/-- Window crossings, one after another, each unless an earlier event has ended it. -/
def takeWindows (due : List Due) (s : State) : State := due.foldl (fun s d => takeDue d s) s

/-- A mark, with the window crossings still due at its odometer value: the mark is taken before them, after them, or between
two that coincide, a free value (R66, log 25), and then their advance is over (R3). -/
def markRow (s : State) : State :=
  match s.windowsDue with
  | [] => markEvent s
  | due =>
    let k := Config.markChoice s.freeTick % (due.length + 1)
    endAdvance (takeWindows (due.drop k) (markEvent (takeWindows (due.take k) (s.setFreeTick (s.freeTick + 1)))))

/-- A reverse step (R2). -/
def reverseStep (s : State) : State :=
  if s.tracker.debt < Config.debtMax then s.setTracker { s.tracker with debt := s.tracker.debt + 1 }
  else faultHold .webReverse noDetail s

end Sys2Proof.Machine
end

