-- ==== Sys2Proof/Machine/Stations.lean ====
section
/-! DEFINITION. The Station Link Controller's events (chapter 9): ends of operations, recognitions, frames received and missing, frames sent, and the expiries of the link timers. -/

namespace Sys2Proof.Machine

/-- A link enters a state and Line Control is told of it (R168). -/
def moveLink (l : LinkId) (st : LinkState) (wakeFailed : Bool) (s : State) : State :=
  linkReport l (s.link l).state wakeFailed (enterLink l st s)

/-- A link enters PARKING by its own doing, and Line Control is told (R160, R164, R165). -/
def parkAndReport (l : LinkId) (wakeFailed : Bool) (s : State) : State :=
  linkReport l (s.link l).state wakeFailed (parkLink l s)

/-! ### Ends of an operation (R164, R170, R171) -/

/-- The block that asked for a link's operations takes the completion (R169, R170). FEED carries none. -/
def askerComplete (l : LinkId) (s : State) : State :=
  match l with
  | .feed => s
  | .lam => lamComplete s
  | .slit => moveComplete s
  | .xcut => cutComplete s

/-- The block that asked for a link's operations takes the failure (R164). -/
def askerFail (l : LinkId) (s : State) : State :=
  match l with
  | .feed => s
  | .lam => lamFail s
  | .slit => moveFail s
  | .xcut => cutFail s

/-- The operation in flight, with its timeout timer, becomes absent. -/
def dropOp (l : LinkId) (s : State) : State := s.setLink l { s.link l with op := none }

/-- Completion: Line Control is told first, then the asker (R147, R170). -/
def completeOp (l : LinkId) (s : State) : State := askerComplete l (owedParkReport l (dropOp l s))

/-- The failure of an operation already absent is reported, to Line Control first (R147, R164). -/
def reportFailure (l : LinkId) (s : State) : State := askerFail l (owedParkReport l s)

/-- The fault detail of a link: the link, and the operation's target if there was one (R164, R171). -/
def linkDetail (l : LinkId) (op : Option LinkOp) : FaultDetail :=
  { panel := op.bind (fun o => o.target), link := some l }

/-- A station fault or a link loss (R164). -/
def failLink (l : LinkId) (reason : HoldReason) (s : State) : State :=
  let op := (s.link l).op
  let s1 := parkAndReport l false (dropOp l s)
  let s2 := faultHold reason (linkDetail l op) s1
  if op.isSome then reportFailure l s2 else s2

/-! ### State changes of a link (R159 to R163) -/

/-- Entry into ACTIVE (R160, R161). Line Control takes the report before Cut Control's attempt (log 11). -/
def enterActive (l : LinkId) (s : State) : State :=
  let s1 := moveLink l .active false
    (s.setLink l { s.link l with armTimer := none, flywheel := none, faults := 0 })
  if l = .slit then slitAttempt s1 else s1

/-- Entry into SLIPPED (R162). -/
def slipLink (l : LinkId) (s : State) : State :=
  moveLink l .slipped false (s.setLink l { s.link l with flywheel := some Config.flywheelMs })

/-- READY recognised in WAKING (R159). -/
def armLink (l : LinkId) (s : State) : State :=
  moveLink l .armed false (s.setLink l { s.link l with wakeTimer := none, goGiven := false })

/-- A wake failure in WAKING: the notice comes before the change of state (R159, R192). -/
def wakeFailWaking (l : LinkId) (s : State) : State :=
  moveLink l .down true
    (raiseNotice (.linkWakeFailed l) (s.setLink l { s.link l with wakeTimer := none }))

/-- A wake failure in ARMED (R160). -/
def wakeFailArmed (l : LinkId) (s : State) : State :=
  parkAndReport l true
    (raiseNotice (.linkWakeFailed l) (s.setLink l { s.link l with armTimer := none }))

/-- PARKED recognised in PARKING (R165). -/
def parkDone (l : LinkId) (s : State) : State :=
  moveLink l .down false (s.setLink l { s.link l with parkTimer := none })

/-! ### Recognitions (R156, R159 to R165) -/

/-- ENGAGED with the tag of the operation in flight completes it (R162, R163, R170). -/
def Link.completes (k : Link) (code : Indication) (tag : Nat) : Bool :=
  code == .engaged && (match k.op with | some o => o.tag == tag | none => false)

/-- A recognition in WAKING (R159). -/
def recogniseWaking (l : LinkId) (code : Indication) (s : State) : State :=
  match code with
  | .ready => armLink l s
  | .fault => wakeFailWaking l s
  | .off | .engaged | .busy | .parked => s

/-- A recognition in ARMED (R160). -/
def recogniseArmed (l : LinkId) (code : Indication) (s : State) : State :=
  match code with
  | .off | .parked | .fault => wakeFailArmed l s
  | .engaged => if (s.link l).goGiven then enterActive l s else s
  | .ready | .busy => s

/-- A recognition in ACTIVE (R162). -/
def recogniseActive (l : LinkId) (code : Indication) (tag : Nat) (s : State) : State :=
  match code with
  | .engaged => if (s.link l).completes code tag then completeOp l s else s
  | .busy => s
  | .fault => failLink l .linkFault s
  | .off | .ready | .parked => slipLink l s

/-- A recognition in SLIPPED (R163). -/
def recogniseSlipped (l : LinkId) (code : Indication) (tag : Nat) (s : State) : State :=
  match code with
  | .engaged | .busy =>
    let s1 := enterActive l s
    if (s.link l).completes code tag then completeOp l s1 else s1
  | .fault => failLink l .linkFault s
  | .off | .ready | .parked => s

/-- A recognition in PARKING (R165). -/
def recogniseParking (l : LinkId) (code : Indication) (s : State) : State :=
  match code with
  | .parked => parkDone l s
  | .off | .ready | .engaged | .busy | .fault => s

/-- A recognition: it is kept, with the report word of a FAULT, and taken under the rule of the link's state (R156). -/
def recognise (l : LinkId) (code : Indication) (tag report : Nat) (s : State) : State :=
  let k := s.link l
  let s1 := s.setLink l { k with
    lastSeen := some (code, tag), faultReport := if code = .fault then report else k.faultReport }
  match k.state with
  | .down | .unacked | .test => s1
  | .waking => recogniseWaking l code s1
  | .armed => recogniseArmed l code s1
  | .active => recogniseActive l code tag s1
  | .slipped => recogniseSlipped l code tag s1
  | .parking => recogniseParking l code s1

/-! ### Frames (R154 to R157) -/

/-- A frame fault: it breaks the pair of R156, and in ACTIVE it counts toward the slip (R155, R162). -/
def frameFault (l : LinkId) (s : State) : State :=
  let k := s.link l
  if k.state = .active then
    let faults := min 2 (k.faults + 1)
    let s1 := s.setLink l { k with previous := none, faults := faults }
    if faults = 2 then slipLink l s1 else s1
  else s.setLink l { k with previous := none }

/-- A valid frame: faults are 0 again in ACTIVE, a TEST link counts it, and it is kept for the next (R156, R161, R167). -/
def Link.takeValid (k : Link) (code : Indication) (tag : Nat) : Link :=
  { k with
    heard := true
    previous := some (code, tag)
    faults := if k.state = .active then 0 else k.faults
    testCount := if k.state = .test then min Config.testTop (k.testCount + 1) else k.testCount }

/-- The port is sending the reply of a READ ERROR COUNT of the link, whose count its end will clear (R157). -/
def Port.clears (l : LinkId) (k : Port) : Bool :=
  match k.transaction with
  | .readTaken (.clearLink m _) => m == l
  | _ => false

/-- One more invalid frame of the link while such a reply is being sent: it waits for the clear (R157). -/
def Port.countLate (l : LinkId) (k : Port) : Port :=
  match k.transaction with
  | .readTaken (.clearLink m late) => if m = l then { k with transaction := .readTaken (.clearLink m (late + 1)) } else k
  | _ => k

/-- An invalid frame is counted on its link, or, while ports send the link's count, after the clear that each of them makes
(R157, log 26). -/
def countInvalid (l : LinkId) (s : State) : State :=
  if allPorts.any (fun p => (s.port p).clears l) then s.setPorts (s.ports.map (Port.countLate l))
  else s.setLink l (s.link l).countError

/-- The frame a station sends in the present frame period (R155, R156). Fewer than six bytes are no frame: the period goes on
as it was (R201, log 6). -/
def stationFrame (l : LinkId) (bytes : Bytes) (s : State) : State :=
  let k := s.link l
  match decodeFrame bytes with
  | .missing => s
  | .invalid =>
    let s1 := countInvalid l s
    frameFault l (s1.setLink l { s1.link l with heard := true })
  | .valid code tag report =>
    let s1 := s.setLink l (k.takeValid code tag)
    if k.previous = some (code, tag) then recognise l code tag report s1 else s1

/-- A frame period ends without a frame from the station: a missing frame (R155); with one, nothing more. The next period
begins unheard (log 6). -/
def closePeriod (l : LinkId) (s : State) : State :=
  let s1 := if (s.link l).heard then s else frameFault l s
  s1.setLink l { s1.link l with heard := false }

/-- The part sends one frame on the link (R154, R172). -/
def sendFrame (l : LinkId) (s : State) : State :=
  s.setLink l { s.link l with sent := frameOf l s.line.commanded (s.link l) }

/-- A millisecond passes on every timer of the part (R158, log 7). -/
def tickTimers (s : State) : State :=
  let s1 := s.setLinks (s.links.map Link.tick)
  let s2 := s1.setLine { s1.line with rampTimer := s1.line.rampTimer.tick }
  let s3 := s2.setTracker { s2.tracker with syncPulse := s2.tracker.syncPulse.tick }
  s3.setBusy s3.busy.tick

/-- A frame period begins: the last one is closed on each link and a frame is sent on each (R154, R155, log 6). -/
def framePeriod (s : State) : State :=
  let s1 := allLinks.foldl (fun s l => closePeriod l s) (tickTimers s)
  allLinks.foldl (fun s l => sendFrame l s) s1

/-! ### Timer expiries (R158): an expiry is taken while the timer runs (log 7) -/

/-- The wake timer expires (R159). -/
def wakeExpiry (l : LinkId) (s : State) : State :=
  if (s.link l).wakeTimer.isSome ∧ (s.link l).state = .waking then wakeFailWaking l s else s

/-- The arm timer expires (R160). -/
def armExpiry (l : LinkId) (s : State) : State :=
  if (s.link l).armTimer.isSome ∧ (s.link l).state = .armed then wakeFailArmed l s else s

/-- The flywheel timer expires (R163, R164). -/
def flywheelExpiry (l : LinkId) (s : State) : State :=
  if (s.link l).flywheel.isSome ∧ (s.link l).state = .slipped then failLink l .linkLost s else s

/-- The park timer expires (R165). -/
def parkExpiry (l : LinkId) (s : State) : State :=
  if (s.link l).parkTimer.isSome ∧ (s.link l).state = .parking then
    moveLink l .unacked false (s.setLink l { s.link l with parkTimer := none })
  else s

/-- The timeout of the operation in flight expires (R171). -/
def operationTimeout (l : LinkId) (s : State) : State :=
  match (s.link l).op with
  | none => s
  | some o =>
    if (s.link l).state.carries then
      reportFailure l (faultHold .stationTimeout (linkDetail l (some o)) (dropOp l s))
    else s

end Sys2Proof.Machine
end

