-- ==== Sys2Proof/Machine/Records.lean ====
section
/-! DEFINITION. The records sent on a partner port (section 12.3), each built whole from the state at the moment of the read. -/

namespace Sys2Proof.Machine

/-! ### Shared field forms (R200) -/

/-- An optional field: its presence flag and its bytes, zeros where it is absent. -/
def optField {α : Type} (n : Nat) (f : α → Bytes) : Option α → Bytes
  | some x => 1#8 :: f x
  | none => List.replicate (n + 1) 0#8

/-- One byte of a code or small number. -/
def byte (n : Nat) : Bytes := [byteOf n]

/-- A four-byte odometer position of a queue entry. A position above the odometer's top has no coding (log 4). -/
def positionField (s : State) (n : Nat) : Bytes :=
  if n ≤ Config.odometerTop then be32 n else be32 (Config.beyondTop s.freeTick n).toNat

/-- A registration result: presence flag, code, signed delta (R200). UNREAD has no delta; the byte sent is free (log 5). -/
def resultField (s : State) : Option RegResult → Bytes
  | none => [0, 0, 0]
  | some .unread => [1, byteOf RegResult.unread.code, Config.unreadDelta s.freeTick]
  | some (.on d) => [1, byteOf (RegResult.on d).code, signedByte d]
  | some (.ahead d) => [1, byteOf (RegResult.ahead d).code, signedByte d]
  | some (.behind d) => [1, byteOf (RegResult.behind d).code, signedByte d]

/-- A scrap reason with its presence flag. -/
def reasonField (r : Option ScrapReason) : Bytes := optField 1 (fun x => byte x.code) r

/-! ### Records of the lists and stores -/

/-- The bytes of a map entry after its presence flag (section 12.3). -/
def entryBytes (s : State) (v : EntryView) : Bytes :=
  let e := v.entry
  byte e.slot ++ be16 e.panel ++ be32 e.head ++ be16 e.length ++
    [byteOf e.cls.code, byteOf e.policy.code, byteOf e.plan, byteOf e.phase.code, flag e.tailCleared] ++
    resultField s e.regResult ++ [signedByte e.offset, flag e.spliceGap] ++ reasonField e.scrap ++
    [byteOf e.cutsMade, byteOf e.cutsPending] ++ be32 v.gap

/-- The map entry record, 28 bytes (R39, R199). -/
def entryRecord (s : State) (v : Option EntryView) : Bytes := optField 27 (entryBytes s) v

/-- The reply PENDING of a settled read (R76). -/
def pendingRecord : Bytes := 2#8 :: List.replicate 27 0#8

/-- The plan record, 41 bytes (R53). -/
def planRecord (q : Option Plan) : Bytes :=
  optField 40 (fun q =>
    [byteOf q.number, byteOf q.state.code, byteOf q.ratio, byteOf q.refs, byteOf q.slits.length] ++
      words (padTo 5 q.slits) ++ byte q.cuts.length ++ words (padTo 12 q.cuts)) q

/-- The reprint record, 8 bytes (R36). -/
def reprintRecord (r : Option ReprintRecord) : Bytes :=
  optField 7 (fun r =>
    be16 r.panel ++ byte r.plan ++ be16 r.length ++ [byteOf r.cls.code, byteOf r.reason.code]) r

/-- The outcome record, 11 bytes (R38); verdict SCRAP is 1, GOOD 0 (R30). -/
def outcomeRecord (s : State) (r : Option OutcomeRecord) : Bytes :=
  optField 10 (fun r =>
    be16 r.panel ++ byte r.plan ++ [flag r.reason.isSome] ++ reasonField r.reason ++ resultField s r.regResult ++
      byte r.cutsMade) r

/-- The result record, 8 bytes (R183). -/
def resultRecord (r : ResultRecord) : Bytes :=
  [r.code, byteOf r.outcome.code] ++ be32 r.value.toNat ++ optField 1 byte r.slot

/-- The hold context record, 18 bytes (R134). -/
def holdRecord : Option HoldRecord → Bytes
  | none => List.replicate 18 0#8
  | some r =>
    [byteOf r.tag.code, byteOf r.number, byteOf r.owner.code, byteOf r.reason.code] ++ be32 r.odometer ++
      byte r.lineBefore.code ++ be16 r.speedBefore ++ optField 3 (fun t => byte t.slot ++ be16 t.panel) r.detail.panel ++
      optField 1 (fun l => byte (linkNumber l)) r.detail.link ++ byte r.repeats

/-- The notices record, 11 bytes (R194, R197). The bits that name no notice, for which no rule gives a value, are sent as 0 (log 27,
the model's choice). -/
def noticesRecord (levels : BitVec 10) (c : NoticeCopy) : Bytes :=
  be16 levels.toNat ++ be32 c.latched.toNat ++ be32 c.mask.toNat ++ [flag c.latchMasked]

/-- The error count record, 2 bytes (R157, R181). -/
def errorRecord (count : Nat) (overflow : Bool) : Bytes := [byteOf count, flag overflow]

/-- The identity record (R185). -/
def identRecord : Bytes := [0x4C, 0x30, 0x01]

/-! ### The status record, block by block (R184) -/

/-- Offsets 0 to 18 (R15). -/
def statusTracker (k : Tracker) : Bytes :=
  be32 k.odometer ++ be16 k.debt ++ be16 k.zones.mark ++ be16 k.zones.nip ++ be16 k.zones.commit ++ be16 k.zones.slit ++
    be16 k.zones.knife ++ byte k.syncMode.code ++ be16 k.syncLead

/-- Offsets 19 to 31 (R40). -/
def statusMap (s : State) : Bytes :=
  byte s.map.entries.length ++ byte (queuedCount s.map.entries) ++ be32 s.map.lastTail ++
    [byteOf s.map.lastClass.code, byteOf s.map.reprints.length, byteOf s.map.outcomes.length, byteOf s.map.high,
      byteOf s.map.low, flag s.nearFull, flag s.queueLow]

/-- Offsets 32 to 35 (R54). -/
def statusPlans (k : PlanStore) : Bytes :=
  byte k.plans.length ++ byte (k.plans.countP (fun q => q.state == .opened)) ++ be16 k.spacing

/-- Offsets 36 to 44 (R79). -/
def statusReg (s : State) : Bytes :=
  [byteOf s.reg.lock.code, byteOf s.reg.unreadRun, flag s.regLocked, byteOf s.reg.halfWidth, byteOf s.reg.tolerance] ++
    optField 3 (fun e : MapEntry => byte e.slot ++ be16 e.panel) s.openWindow

/-- The splice slot; while the request is not PLACED the byte sent is free (log 5). -/
def spliceSlot (s : State) : Byte :=
  match s.lam.request with
  | .placed t => byteOf t.slot
  | _ => Config.spliceSlotUnplaced s.freeTick

/-- A target's slot with its flag. -/
def targetField (t : Option Target) : Bytes := optField 1 (fun t => byte t.slot) t

/-- Offsets 45 to 77 (R100). -/
def statusLam (s : State) : Bytes :=
  byte s.lam.nip.code ++
    optField 4 (fun o : LamOp => [byteOf o.kind.code, byteOf o.final.code] ++ targetField o.target) s.lam.op ++
    be32 s.lam.reelLength ++ be32 s.lam.remaining ++ optField 4 be32 s.lam.standby ++
    [byteOf s.lam.request.code, spliceSlot s] ++ optField 2 be16 s.lam.reservation ++ [flag s.filmLow] ++
    be16 s.lam.transitionGap ++ be16 s.lam.spliceGap ++
    optField 3 (fun e : MapEntry => byte e.slot ++ be16 e.panel) (entryAtNip s.map.entries)

/-- The lanes of the current slitter set, none where it is UNKNOWN. -/
def SlitterSet.lanes : SlitterSet → List Nat
  | .known ls => ls
  | .unknown => []

/-- Offsets 78 to 113 (R120). -/
def statusCut (s : State) : Bytes :=
  byte s.cut.xcut.length ++ byte s.cut.slit.length ++
    optField 7 (fun c : CutEntry =>
      positionField s c.position ++ [byteOf c.owner.slot, byteOf c.step.code, byteOf c.kind.code]) s.cut.xcut.head? ++
    optField 3 (fun c : CutEntry => [byteOf c.owner.slot, byteOf c.step.code, byteOf c.kind.code]) s.cut.cutFlight ++
    optField 6 (fun x : SlitEntry => byte x.owner.slot ++ positionField s x.deadline ++ [flag x.issued])
      s.cut.slit.head? ++
    optField 2 (fun m : Move => targetField m.owner) s.cut.moveFlight ++
    [flag (decide (s.cut.current = .unknown)), byteOf s.cut.current.lanes.length] ++ words (padTo 5 s.cut.current.lanes)

/-- Offsets 114 to 120 (R138). -/
def statusHold (s : State) : Bytes :=
  [byteOf s.hold.stack.length, flag s.holdActive, flag s.hold.overflow, byteOf s.hold.nextNumber] ++
    (match s.hold.stack with
     | r :: _ => [byteOf r.number, byteOf r.owner.code, byteOf r.reason.code]
     | [] => [0, 0, 0])

/-- Offsets 121 to 136 (R153). -/
def statusLine (k : LineControl) : Bytes :=
  byte k.state.code ++ be16 k.setSpeed ++ be16 k.minSpeed ++ be16 k.target ++ be16 k.commanded ++
    [byteOf k.ratio, flag k.estop, flag k.go, byteOf k.owed.feed.code, byteOf k.owed.lam.code, byteOf k.owed.slit.code,
      byteOf k.owed.xcut.code]

/-- The 16 bytes of one link (R175). -/
def statusLink (k : Link) : Bytes :=
  [byteOf k.state.code, flag k.goGiven] ++
    optField 4 (fun o : LinkOp => [byteOf o.kind.code, byteOf o.tag] ++ targetField o.target) k.op ++
    byte k.nextTag ++ optField 2 (fun p : Indication × Nat => [byteOf p.1.code, byteOf p.2]) k.lastSeen ++
    be16 k.faultReport ++ be16 k.testCount ++ [flag (k.state == .active)]

/-- Offsets 201 to 207 (R184). -/
def statusPorts (s : State) : Bytes :=
  flag s.busy.isSome :: allPorts.flatMap (fun p => errorRecord (s.port p).errorCount (s.port p).overflow)

/-- The status record, 208 bytes (R184, section 12.3). -/
def statusRecord (s : State) : Bytes :=
  statusTracker s.tracker ++ statusMap s ++ statusPlans s.plans ++ statusReg s ++ statusLam s ++ statusCut s ++
    statusHold s ++ statusLine s.line ++ allLinks.flatMap (fun l => statusLink (s.link l)) ++ statusPorts s

end Sys2Proof.Machine
end

