-- ==== Sys2Proof/Machine/Ports.lean ====
section
/-! DEFINITION. The partner ports (chapter 10): error counts, result records, the checks of R179, and how a write or a read command is taken and its transaction ended. -/

namespace Sys2Proof.Machine

/-! ### Error count and result record (R181, R182) -/

/-- One more error at a port (R181). -/
def Port.countError (k : Port) : Port :=
  if k.errorCount < Config.errorTop then { k with errorCount := k.errorCount + 1 } else { k with overflow := true }

/-- An event that adds 1 to a port's error count, with its notice (R181). -/
def portError (p : PortId) (s : State) : State := raiseNotice .portError (s.setPort p (s.port p).countError)

/-- The answer to a command: outcome, result value and slot (R182). -/
structure Answer where
  outcome : PortOutcome
  value : Nat
  slot : Option Nat
deriving DecidableEq, Repr

def answerOk (value : Nat) : Answer := { outcome := .ok, value := value, slot := none }

/-- A refusal, or any other answer without a slot. -/
def refuse (outcome : PortOutcome) (value : Nat) : Answer := { outcome := outcome, value := value, slot := none }

/-- The port's result record is replaced (R182). -/
def replaceResult (p : PortId) (code : Byte) (a : Answer) (s : State) : State :=
  s.setPort p { s.port p with
    result := { code := code, outcome := a.outcome, value := BitVec.ofNat 32 a.value, slot := a.slot } }

/-- The result record is replaced, and REFUSED raised for an outcome other than OK (R182). -/
def answer (p : PortId) (code : Byte) (a : Answer) (s : State) : State :=
  let s1 := replaceResult p code a s
  if a.outcome = .ok then s1 else raiseNotice .refused s1

/-- Checks 3 to 5 of R179, in order: BUSY, ROLE, STATE; none where all pass. -/
def portCheck (p : PortId) (r : CommandRow) (s : State) : Option Answer :=
  if s.busy.isSome ∧ r.duringBusy = false then some (refuse .busy 0)
  else if r.permits p = false then some (refuse .role 0)
  else if r.lines.accepts s.line.state = false then some (refuse .state 0)
  else none

/-! ### Bodies of commands -/

/-- What a write command does when it has passed R179: the next state and its answer. -/
abbrev WriteBody := State → State × Answer

/-- What a read command gives when it has passed R179: the next state, the record, and what the end of its transaction
still has to do. -/
structure ReadTaken where
  state : State
  record : Bytes
  ending : ReadEnd

abbrev ReadBody := State → ReadTaken

/-- A read that only shows state. -/
def showRecord (record : State → Bytes) : ReadBody := fun s => { state := s, record := record s, ending := .keep }

/-- A write command is taken (R179, R182). -/
def takeWrite (p : PortId) (r : CommandRow) (body : WriteBody) (s : State) : State :=
  match portCheck p r s with
  | some a => answer p r.code a s
  | none => let t := body s; answer p r.code t.2 t.1

/-- The byte on data-out in byte time i from the moment the transaction's read is taken: the reply, and 0 beyond it. Before that
moment, and in a transaction that takes no read, the part sends 0 (R176, R178, R179). -/
def Port.dataOut (k : Port) (i : Nat) : Byte := k.reply.getD i 0#8

/-- The part has no reply to send: 0 on data-out (R176). -/
def sendNothing (p : PortId) (s : State) : State := s.setPort p { s.port p with reply := [] }

/-- The part sends a reply: the dummy byte and the record (R178). -/
def sendReply (p : PortId) (record : Bytes) (s : State) : State := s.setPort p { s.port p with reply := 0#8 :: record }

/-- The record of a refused read, all zeros (R178). -/
def CommandRow.zeroRecord (r : CommandRow) : Bytes := List.replicate (r.reply.getD 0) 0#8

/-- A read command is taken: refused, with an all-zero record, or answered (R178, R179). Each read moves the counter its
free bytes are read with (log 3). -/
def takeRead (p : PortId) (r : CommandRow) (body : ReadBody) (s : State) : State × ReadEnd :=
  match portCheck p r s with
  | some a => (sendReply p r.zeroRecord (answer p r.code a s), .keep)
  | none =>
    let t := body s
    (sendReply p t.record (t.state.setFreeTick (t.state.freeTick + 1)), t.ending)

/-! ### Transactions (R176 to R178, log 1) -/

/-- The invalid frames that came late are counted on a count just cleared (R157). -/
def Link.countLate (late : Nat) (k : Link) : Link :=
  { k with errorCount := min late Config.errorTop, overflow := decide (Config.errorTop < late) }

/-- What the end of a read's transaction still does: the counts of READ ERROR COUNT are cleared, and the invalid frames that
came while a link's count was being sent are counted after the clear (R157, R181). -/
def endRead (p : PortId) (e : ReadEnd) (s : State) : State :=
  match e with
  | .keep => s
  | .clearPort => s.setPort p { s.port p with errorCount := 0, overflow := false }
  | .clearLink l late => s.setLink l ((s.link l).countLate late)

/-- The incomplete byte at the end of a taken read counts nowhere (R176), but after the clear at the end of a READ ERROR COUNT
of the port's own count (R181, log 20). -/
def endReadWith (p : PortId) (e : ReadEnd) (incomplete : Bool) (s : State) : State :=
  if e = .clearPort ∧ incomplete then portError p (endRead p e s) else endRead p e s

/-- Where the port stands in a transaction, and the bytes it has taken into its assembly (R176). -/
def setTransaction (p : PortId) (t : Transaction) (assembly : Bytes) (s : State) : State :=
  s.setPort p { s.port p with transaction := t, assembly := assembly }

/-- Select is inactive: the transaction is over. -/
def closeTransaction (p : PortId) (s : State) : State := setTransaction p .inactive [] s

/-- A write command's row: its whole transaction up to the release of select (log 1). In a transaction whose read has been
taken, or that is ignored since hardware reset, the bytes are ignored and the release ends it (R178, R188). -/
def writeCommand (p : PortId) (take : State → State) (s : State) : State :=
  match (s.port p).transaction with
  | .inactive | .receiving => closeTransaction p (take (sendNothing p s))
  | .readTaken e => closeTransaction p (endRead p e s)
  | .ignored => closeTransaction p s

/-- A read command's row: with select inactive its whole transaction; with select asserted the read alone, the
transaction going on until SELECT RELEASE; `bytes` are the command's bytes (log 1). -/
def readCommand (p : PortId) (bytes : Bytes) (take : State → State × ReadEnd) (s : State) : State :=
  match (s.port p).transaction with
  | .inactive => let t := take s; closeTransaction p (endRead p t.2 t.1)
  | .receiving => let t := take s; setTransaction p (.readTaken t.2) bytes t.1
  | .readTaken _ | .ignored => s

/-- The row of a write command. -/
def writeRow (p : PortId) (r : CommandRow) (body : WriteBody) (s : State) : State := writeCommand p (takeWrite p r body) s

/-- The row of a read command with its parameter bytes. -/
def readRow (p : PortId) (r : CommandRow) (params : Bytes) (body : ReadBody) (s : State) : State :=
  readCommand p (r.code :: params) (takeRead p r body) s

/-- A short transaction: FORMAT with the number of parameter bytes received, and an error (R177, R179). -/
def shortTransaction (p : PortId) (code : Byte) (received : Nat) (s : State) : State :=
  answer p code (refuse .format received) (portError p s)

/-- A write transaction judged by its length, `received` parameter bytes against `expected`: short, long, or as called
for (R177). -/
def takeByLength (p : PortId) (r : CommandRow) (expected received : Nat) (body : WriteBody) (s : State) : State :=
  if received < expected then shortTransaction p r.code received s
  else if expected < received then takeWrite p r body (portError p s)
  else takeWrite p r body s

end Sys2Proof.Machine
end

