-- ==== Sys2Proof/Machine/PrintCommands.lean ====
section
/-! DEFINITION. The commands of the PRINT port (chapter 2): ANNOUNCE PANEL, WITHDRAW PANEL, TAKE REPRINT. -/

namespace Sys2Proof.Machine

/-- The entry with a panel number, if one is in the map. -/
def State.byPanel (s : State) (panel : Nat) : Option MapEntry := s.map.entries.find? (fun e => e.panel == panel)

/-! ### ANNOUNCE PANEL -/

/-- The parameters of ANNOUNCE PANEL as received (R20, R198). -/
structure Announcement where
  panel : Nat
  length : Nat
  cls : Nat
  policy : Nat
  plan : Nat
  gap : Nat
deriving DecidableEq, Repr

/-- The proposed nominal head (R20). -/
def State.proposedHead (s : State) (gap : Nat) : Nat := max s.map.lastTail s.tracker.odometer + gap

/-- The distance of checks 5 and 6 (R21). -/
def State.distance (s : State) (gap : Nat) : Nat := s.proposedHead gap - s.map.lastTail

/-- The item of check 2 that fails, if any (R21). -/
def announceRange (a : Announcement) (s : State) : Option Nat :=
  if a.panel = 0 then some 1
  else if a.length < 200 ∨ 30000 < a.length then some 2
  else if (lamClassOf a.cls).isNone then some 3
  else if (markPolicyOf a.policy).isNone then some 4
  else if 10000 < a.gap then some 5
  else if Config.odometerTop < s.proposedHead a.gap + a.length then some 6
  else none

/-- Checks 5 and 6 (R21). -/
def announceGaps (a : Announcement) (cls : LamClass) (s : State) : Option Answer :=
  let distance := s.distance a.gap
  if cls ≠ s.map.lastClass ∧ distance < s.lam.transitionGap then some (refuse .gap distance)
  else if s.lam.reservation.isSome ∧ distance < s.lam.spliceGap then some (refuse .reserved distance)
  else none

/-- Checks 3 and 4 (R21). -/
def announceNames (a : Announcement) (s : State) : Option Answer :=
  match s.byPanel a.panel with
  | some e => some (refuse .duplicate e.slot)
  | none => if (s.plan a.plan).isNone then some (refuse .unknown a.plan) else none

/-- The window record of a new entry (R65). -/
def newWindow (policy : MarkPolicy) (expected halfWidth : Nat) : Option Window :=
  if policy = .unmarked then none else some { expected := expected, halfWidth := halfWidth, status := .notOpen }

/-- A new entry (R17, R22 step 1). -/
def newEntry (a : Announcement) (cls : LamClass) (policy : MarkPolicy) (s : State) : MapEntry :=
  let head := s.proposedHead a.gap
  { slot := freeSlot s.map.entries, panel := a.panel, head := head, length := a.length, cls := cls, policy := policy,
    plan := a.plan, tailBefore := s.map.lastTail, phase := .queued, tailCleared := false, regResult := none, offset := 0,
    spliceGap := s.lam.reservation.isSome, scrap := none, cutsMade := 0, cutsPending := 0,
    window := newWindow policy (head + s.tracker.zones.mark) s.reg.halfWidth, nip := .ahead, slitter := .ahead }

/-- Step 4 of R22: a pending reservation is taken by the new entry (R90). -/
def takeReservation (t : Target) (s : State) : State :=
  if s.lam.reservation.isSome then s.setLam { s.lam with reservation := none, request := .placed t } else s

/-- Step 5 of R22: the points of a new entry that stand at the present odometer value are crossed at once (R8). -/
def startTracking (e : MapEntry) (s : State) : State :=
  let s1 := syncCrossings [e] s
  if e.head = s.tracker.odometer then printLineCrossing e.target s1 else s1

/-- An accepted announcement (R22). -/
def acceptPanel (a : Announcement) (cls : LamClass) (policy : MarkPolicy) (s : State) : State × Answer :=
  let e := newEntry a cls policy s
  let s1 := s.setMap { s.map with entries := s.map.entries ++ [e], lastTail := e.tail, lastClass := cls }
  let s2 := takeReservation e.target (s1.addRef a.plan)
  let s3 := lamAnnounced e.target (startTracking e s2)
  (evalMapLevels s3, { outcome := .ok, value := e.head, slot := some e.slot })

/-- ANNOUNCE PANEL (R20 to R22). -/
def announcePanel (a : Announcement) : WriteBody := fun s =>
  if Config.mapSize ≤ s.map.entries.length then (s, refuse .full Config.mapSize)
  else
    match announceRange a s with
    | some item => (s, refuse .range item)
    | none =>
      match announceNames a s with
      | some no => (s, no)
      | none =>
        match lamClassOf a.cls, markPolicyOf a.policy with
        | some cls, some policy =>
          match announceGaps a cls s with
          | some no => (s, no)
          | none => acceptPanel a cls policy s
        | none, _ => (s, refuse .range 3)
        | _, none => (s, refuse .range 4)

/-! ### WITHDRAW PANEL -/

/-- The last-tail and last-class registers recomputed (R19). -/
def recomputeLast (m : PanelMap) : PanelMap :=
  match m.entries.getLast? with
  | some e => { m with lastTail := e.tail, lastClass := e.cls }
  | none => m

/-- A taken withdrawal (R24). -/
def withdrawEntry (e : MapEntry) (s : State) : State :=
  let s1 := (s.dropEntry e.target).dropRef e.plan
  let s2 := s1.setMap (recomputeLast s1.map)
  evalMapLevels (lamRemoved e.target true s2)

/-- WITHDRAW PANEL (R23). -/
def withdrawPanel (panel : Nat) : WriteBody := fun s =>
  match s.byPanel panel with
  | none => (s, refuse .notFound 0)
  | some e => if e.phase = .queued then (withdrawEntry e s, answerOk e.slot) else (s, refuse .state e.slot)

/-! ### TAKE REPRINT -/

/-- TAKE REPRINT (R36). -/
def takeReprint (p : PortId) : ReadBody := fun s =>
  match s.map.reprints with
  | [] => { state := answer p rowTakeReprint.code (refuse .empty 0) s, record := reprintRecord none, ending := .keep }
  | r :: rest =>
    { state := answer p rowTakeReprint.code (answerOk rest.length) (s.setMap { s.map with reprints := rest })
      record := reprintRecord (some r), ending := .keep }

/-! ### The rows -/

/-- ANNOUNCE_PANEL (R20). -/
def execAnnouncePanel (p : PortId) (panel length : BitVec 16) (cls policy plan : Byte) (gap : BitVec 16) (s : State) :
    Host.Outcome State Fault Refusal :=
  .next (writeRow p rowAnnouncePanel
    (announcePanel { panel := panel.toNat, length := length.toNat, cls := cls.toNat, policy := policy.toNat,
                     plan := plan.toNat, gap := gap.toNat }) s)

/-- WITHDRAW_PANEL (R23). -/
def execWithdrawPanel (p : PortId) (panel : BitVec 16) (s : State) : Host.Outcome State Fault Refusal :=
  .next (writeRow p rowWithdrawPanel (withdrawPanel panel.toNat) s)

/-- TAKE_REPRINT (R36). -/
def execTakeReprint (p : PortId) (s : State) : Host.Outcome State Fault Refusal :=
  .next (readRow p rowTakeReprint [] (takeReprint p) s)

end Sys2Proof.Machine
end

