-- ==== Sys2Proof/Machine/PlanCommands.lean ====
section
/-! DEFINITION. The commands of the PLAN port (chapters 2 and 3): PLAN OPEN, APPEND, CLOSE, DISCARD and TAKE OUTCOME. -/

namespace Sys2Proof.Machine

/-! ### PLAN OPEN -/

/-- A plan as PLAN OPEN makes it (R49). -/
def newPlan (number ratio : Nat) (slits : List Nat) : Plan :=
  { number := number, state := .opened, ratio := ratio, slits := slits, cuts := [], refs := 0 }

/-- The item of the range check that fails, if any (R49). -/
def planOpenRange (ratio count : Nat) (slits : List Nat) : Option Nat :=
  if ratio < 30 ∨ 100 < ratio then some 1
  else if 5 < count then some 2
  else if slits.any (fun x => decide (5000 < x)) then some 3
  else none

/-- The store with new plans, and their number as result value (R49). -/
def storePlans (s : State) (plans : List Plan) : State × Answer :=
  (s.setPlans { s.plans with plans := plans }, answerOk plans.length)

/-- PLAN OPEN (R49). -/
def planOpen (number ratio count : Nat) (slits : List Nat) : WriteBody := fun s =>
  match planOpenRange ratio count slits with
  | some item => (s, refuse .range item)
  | none =>
    let fresh := newPlan number ratio slits
    match s.plan number with
    | some q =>
      if 0 < q.refs then (s, refuse .inUse q.refs)
      else storePlans s (updatePlan number (fun _ => fresh) s.plans.plans)
    | none =>
      if Config.planSize ≤ s.plans.plans.length then (s, refuse .full Config.planSize)
      else storePlans s (insertPlan fresh s.plans.plans)

/-! ### PLAN APPEND, CLOSE, DISCARD -/

/-- PLAN APPEND (R50). -/
def planAppend (number count : Nat) (offsets : List Nat) : WriteBody := fun s =>
  match s.plan number with
  | none => (s, refuse .notFound 0)
  | some q =>
    if q.state = .closed then (s, refuse .state 0)
    else if count < 1 ∨ 4 < count then (s, refuse .range 1)
    else if offsets.any (fun x => decide (30000 < x)) then (s, refuse .range 2)
    else if Config.cutListSize < q.cuts.length + offsets.length then (s, refuse .full q.cuts.length)
    else
      (s.modifyPlan number (fun q => { q with cuts := q.cuts ++ offsets }), answerOk (q.cuts.length + offsets.length))

/-- The number of the first item, counting from 1, that stands wrongly after the item before it; `k` is the number of the
second item of the list given. -/
def firstBad (ok : Nat → Nat → Bool) : Nat → List Nat → Option Nat
  | _, [] => none
  | _, [_] => none
  | k, x :: y :: rest => if ok x y then firstBad ok (k + 1) (y :: rest) else some k

/-- Each item greater than the one before. -/
def ascends (x y : Nat) : Bool := decide (x < y)

/-- Each item at least d greater than the one before. -/
def spaced (d x y : Nat) : Bool := decide (x + d ≤ y)

/-- The result value of the first failing check of PLAN CLOSE, if any: check number × 100 + item number (R51). -/
def closeFailure (d : Nat) (q : Plan) : Option Nat :=
  if q.cuts = [] then some 100
  else
    ((firstBad ascends 2 q.cuts).map (fun k => 200 + k)).or
      (((firstBad (spaced d) 2 q.cuts).map (fun k => 300 + k)).or
        (((firstBad ascends 2 q.slits).map (fun k => 400 + k)).or
          ((firstBad (spaced 50) 2 q.slits).map (fun k => 500 + k))))

/-- PLAN CLOSE (R51). -/
def planClose (number : Nat) : WriteBody := fun s =>
  match s.plan number with
  | none => (s, refuse .notFound 0)
  | some q =>
    if q.state = .closed then (s, refuse .state 0)
    else
      match closeFailure s.plans.spacing q with
      | some value => (s, refuse .range value)
      | none => (s.modifyPlan number (fun q => { q with state := .closed }), answerOk q.cuts.length)

/-- PLAN DISCARD (R52). -/
def planDiscard (number : Nat) : WriteBody := fun s =>
  match s.plan number with
  | none => (s, refuse .notFound 0)
  | some q =>
    if 0 < q.refs then (s, refuse .inUse q.refs)
    else
      let plans := s.plans.plans.eraseP (fun q => q.number == number)
      storePlans s plans

/-! ### TAKE OUTCOME -/

/-- TAKE OUTCOME (R38). -/
def takeOutcome (p : PortId) : ReadBody := fun s =>
  match s.map.outcomes with
  | [] => { state := answer p rowTakeOutcome.code (refuse .empty 0) s, record := outcomeRecord s none, ending := .keep }
  | r :: rest =>
    { state := answer p rowTakeOutcome.code (answerOk rest.length) (s.setMap { s.map with outcomes := rest })
      record := outcomeRecord s (some r), ending := .keep }

/-! ### The rows -/

/-- The row of a command with a counted list, whose items may be fewer or more than its count calls for (R177). `head` is
the number of parameter bytes before the items, `most` the largest count the command allows. -/
def countedRow (p : PortId) (r : CommandRow) (head most : Nat) (count : Byte) (items : List (BitVec 16))
    (body : List Nat → WriteBody) (s : State) : State :=
  let k := countedItems most count
  writeCommand p
    (takeByLength p r (head + 2 * k) (head + 2 * items.length) (body ((items.take k).map (fun x => x.toNat)))) s

/-- PLAN_OPEN (R49). -/
def execPlanOpen (p : PortId) (plan ratio count : Byte) (slits : List (BitVec 16)) (s : State) :
    Host.Outcome State Fault Refusal :=
  .next (countedRow p rowPlanOpen 3 5 count slits (planOpen plan.toNat ratio.toNat count.toNat) s)

/-- PLAN_APPEND (R50). -/
def execPlanAppend (p : PortId) (plan count : Byte) (offsets : List (BitVec 16)) (s : State) :
    Host.Outcome State Fault Refusal :=
  .next (countedRow p rowPlanAppend 2 4 count offsets (planAppend plan.toNat count.toNat) s)

/-- PLAN_CLOSE (R51). -/
def execPlanClose (p : PortId) (plan : Byte) (s : State) : Host.Outcome State Fault Refusal :=
  .next (writeRow p rowPlanClose (planClose plan.toNat) s)

/-- PLAN_DISCARD (R52). -/
def execPlanDiscard (p : PortId) (plan : Byte) (s : State) : Host.Outcome State Fault Refusal :=
  .next (writeRow p rowPlanDiscard (planDiscard plan.toNat) s)

/-- TAKE_OUTCOME (R38). -/
def execTakeOutcome (p : PortId) (s : State) : Host.Outcome State Fault Refusal :=
  .next (readRow p rowTakeOutcome [] (takeOutcome p) s)

end Sys2Proof.Machine
end

