-- ==== Sys2Proof/Machine/LineCommands.lean ====
section
/-! DEFINITION. The CONSOLE commands of Line Control and the links (chapters 8 and 9): LINE START and STOP, speeds, LINK ACKNOWLEDGE, LINK TEST and its end. -/

namespace Sys2Proof.Machine

/-! ### LINE START and LINE STOP -/

/-- The first link in UNACKED or TEST, in the order FEED, LAM, SLIT, XCUT (R141). -/
def State.startBlocker (s : State) : Option LinkId :=
  allLinks.find? (fun l => (s.link l).state == .unacked || (s.link l).state == .test)

/-- The order of a link at LINE START (R141). -/
def startOrder (l : LinkId) (s : State) : State :=
  match (s.link l).state with
  | .down => wakeLink l (s.setOwed l .nothing)
  | .parking => s.setOwed l .wake
  | _ => s.setOwed l .nothing

/-- LINE START (R71, R141). -/
def lineStart : WriteBody := fun s =>
  match s.startBlocker with
  | some l => (s, refuse .condition (linkNumber l))
  | none =>
    let s1 := seekLock (enterLine .arming (s.setLine { s.line with go := false }))
    (allLinks.foldl (fun s l => startOrder l s) s1, answerOk 0)

/-- The stack is emptied whole, and the overflow flag cleared with it (R132, R136). -/
def emptyStack (s : State) : State := s.setHold { s.hold with stack := [], overflow := false }

/-- LINE STOP (R136, R145). The stack's report finds the line in STOPPING. -/
def lineStop : WriteBody := fun s =>
  let s1 := emptyStack s
  let s2 := dropWakes (enterLine .stopping (s1.setLine { s1.line with go := false }))
  (settleAtRest (stackReport s2), answerOk 0)

/-! ### Speeds -/

/-- SPEED SET (R151): the set speed, then the commanded speed if it stands above, then the target (log 9). -/
def speedSet (v : Nat) : WriteBody := fun s =>
  if 1000 < v then (s, refuse .range 1)
  else
    let s1 := s.setLine { s.line with setSpeed := v }
    let s2 := if v < s1.line.commanded then setSpeeds v s1.line.target s1 else s1
    (settleAtRest (retarget s2), answerOk v)

/-- MIN SPEED SET (R151). -/
def minSpeedSet (v : Nat) : WriteBody := fun s =>
  if v < 50 ∨ 600 < v then (s, refuse .range 1)
  else (retarget (s.setLine { s.line with minSpeed := v }), answerOk v)

/-! ### Links -/

/-- A link goes back to DOWN from UNACKED and is woken where the line is not STOPPED (R166). -/
def acknowledgeLink (l : LinkId) (s : State) : State :=
  let s1 := moveLink l .down false s
  if s1.line.state = .stopped then s1 else wakeLink l s1

/-- LINK ACKNOWLEDGE (R166). -/
def linkAcknowledge (number : Nat) : WriteBody := fun s =>
  match linkOfNumber number with
  | none => (s, refuse .range 1)
  | some l => if (s.link l).state = .unacked then (acknowledgeLink l s, answerOk number) else (s, refuse .state 0)

/-- All the link's timers stopped, its operation absent, its test count 0 (R167). -/
def Link.quietForTest (k : Link) : Link :=
  { k with wakeTimer := none, armTimer := none, flywheel := none, parkTimer := none, op := none, testCount := 0 }

/-- A link enters TEST; the failure of an operation it carried is reported (R167). -/
def testLink (l : LinkId) (s : State) : State :=
  let op := (s.link l).op
  let s1 := moveLink l .test false (s.setLink l (s.link l).quietForTest)
  if op.isSome then reportFailure l s1 else s1

/-- LINK TEST (R167). -/
def linkTest (number : Nat) : WriteBody := fun s =>
  match linkOfNumber number with
  | none => (s, refuse .range 1)
  | some l => (testLink l s, answerOk number)

/-- LINK TEST END (R167). -/
def linkTestEnd (number : Nat) : WriteBody := fun s =>
  match linkOfNumber number with
  | none => (s, refuse .range 1)
  | some l =>
    if (s.link l).state = .test then (moveLink l .down false s, answerOk (s.link l).testCount)
    else (s, refuse .state 0)

/-! ### The rows -/

/-- LINE_START (R141). -/
def execLineStart (p : PortId) (s : State) : Host.Outcome State Fault Refusal :=
  .next (writeRow p rowLineStart lineStart s)

/-- LINE_STOP (R145). -/
def execLineStop (p : PortId) (s : State) : Host.Outcome State Fault Refusal :=
  .next (writeRow p rowLineStop lineStop s)

/-- SPEED_SET (R151). -/
def execSpeedSet (p : PortId) (speed : BitVec 16) (s : State) : Host.Outcome State Fault Refusal :=
  .next (writeRow p rowSpeedSet (speedSet speed.toNat) s)

/-- MIN_SPEED_SET (R151). -/
def execMinSpeedSet (p : PortId) (speed : BitVec 16) (s : State) : Host.Outcome State Fault Refusal :=
  .next (writeRow p rowMinSpeedSet (minSpeedSet speed.toNat) s)

/-- LINK_ACKNOWLEDGE (R166). -/
def execLinkAcknowledge (p : PortId) (link : Byte) (s : State) : Host.Outcome State Fault Refusal :=
  .next (writeRow p rowLinkAcknowledge (linkAcknowledge link.toNat) s)

/-- LINK_TEST (R167). -/
def execLinkTest (p : PortId) (link : Byte) (s : State) : Host.Outcome State Fault Refusal :=
  .next (writeRow p rowLinkTest (linkTest link.toNat) s)

/-- LINK_TEST_END (R167). -/
def execLinkTestEnd (p : PortId) (link : Byte) (s : State) : Host.Outcome State Fault Refusal :=
  .next (writeRow p rowLinkTestEnd (linkTestEnd link.toNat) s)

end Sys2Proof.Machine
end

