-- ==== Sys2Proof/Machine/SettingCommands.lean ====
section
/-! DEFINITION. The CONSOLE commands of film, zones, SYNC, thresholds, registration, gaps and SCRAP PANEL (chapters 1, 2, 4 and 5). -/

namespace Sys2Proof.Machine

/-! ### Film (R85 to R88) -/

/-- The length of a reel is outside its range (R85, R86). -/
def reelOutOfRange (length : Nat) : Bool := decide (length < 1 ∨ 4000000 < length)

/-- FILM STANDBY (R86). -/
def filmStandby (length : Nat) : WriteBody := fun s =>
  if reelOutOfRange length then (s, refuse .range 1)
  else if s.splicing then (s, refuse .busy 0)
  else (evalFilm (s.setLam { s.lam with standby := some length }), answerOk length)

/-- FILM THREAD (R85). -/
def filmThread (length : Nat) : WriteBody := fun s =>
  if reelOutOfRange length then (s, refuse .range 1)
  else if s.lam.op.isSome then (s, refuse .busy 0)
  else
    (transitionDecision (evalFilm (s.setLam { s.lam with reelLength := length, remaining := length })), answerOk length)

/-- SPLICE REQUEST (R87). -/
def spliceRequest : WriteBody := fun s =>
  if s.lam.standby.isNone then (s, refuse .condition 0)
  else if s.lam.request = .idle then (wantSplice s, answerOk 1)
  else (s, answerOk 0)

/-- The three settings of GAP SET replaced together, with the length of a pending reservation (R88). -/
def applyGaps (transition splice spacing : Nat) (s : State) : State :=
  let s1 := s.setLam { s.lam with
    transitionGap := transition, spliceGap := splice, reservation := s.lam.reservation.map (fun _ => splice) }
  s1.setPlans { s1.plans with spacing := spacing }

/-- GAP SET (R47, R88). -/
def gapSet (transition splice spacing : Nat) : WriteBody := fun s =>
  if transition < 100 ∨ 2000 < transition then (s, refuse .range 1)
  else if splice < 200 ∨ 2000 < splice then (s, refuse .range 2)
  else if spacing < 40 ∨ 1000 < spacing then (s, refuse .range 3)
  else (applyGaps transition splice spacing s, answerOk 0)

/-! ### Zones and SYNC (R6, R12, R13) -/

/-- The number of the first check of ZONE DEFINE that fails, if any (R6). -/
def zoneFailure (z : Zones) : Option Nat :=
  if z.mark < 200 then some 1
  else if z.nip < z.mark + 200 then some 2
  else if z.commit < z.nip + 100 then some 3
  else if z.slit < z.commit + 200 then some 4
  else if z.knife < z.slit + 100 then some 5
  else if 30000 < z.knife then some 6
  else none

/-- ZONE DEFINE (R6). -/
def zoneDefine (z : Zones) : WriteBody := fun s =>
  if s.map.entries ≠ [] then (s, refuse .state 0)
  else
    match zoneFailure z with
    | some n => (s, refuse .range n)
    | none => (s.setTracker { s.tracker with zones := z }, answerOk 0)

/-- SYNC points that stand at the present odometer value are crossed at once, but not at the odometer's top (R3, R13;
log 12). -/
def recomputeSync (s : State) : State :=
  if s.tracker.odometer < Config.odometerTop then syncCrossings s.map.entries s else s

/-- SYNC SET (R12). -/
def syncSet (mode lead : Nat) : WriteBody := fun s =>
  match syncModeOf mode with
  | none => (s, refuse .range 1)
  | some m =>
    if 2000 < lead then (s, refuse .range 2)
    else (recomputeSync (s.setTracker { s.tracker with syncMode := m, syncLead := lead }), answerOk 0)

/-! ### Thresholds, registration, SCRAP PANEL (R43, R64, R34) -/

/-- THRESHOLD SET (R43). -/
def thresholdSet (high low : Nat) : WriteBody := fun s =>
  if high < 1 ∨ 47 < high then (s, refuse .range 1)
  else if 47 < low then (s, refuse .range 2)
  else (evalMapLevels (s.setMap { s.map with high := high, low := low }), answerOk 0)

/-- REGISTRATION SET (R64). -/
def registrationSet (halfWidth tolerance : Nat) : WriteBody := fun s =>
  if halfWidth < 5 ∨ 100 < halfWidth then (s, refuse .range 1)
  else if 20 < tolerance then (s, refuse .range 2)
  else if halfWidth ≤ tolerance then (s, refuse .range 3)
  else (s.setReg { s.reg with halfWidth := halfWidth, tolerance := tolerance }, answerOk 0)

/-- SCRAP PANEL (R34). -/
def scrapPanel (panel : Nat) : WriteBody := fun s =>
  match s.byPanel panel with
  | none => (s, refuse .notFound 0)
  | some e => (scrapClaim e.target .operator s, answerOk (if e.scrap.isNone then 1 else 0))

/-! ### The rows -/

/-- FILM_STANDBY (R86). -/
def execFilmStandby (p : PortId) (length : BitVec 32) (s : State) : Host.Outcome State Fault Refusal :=
  .next (writeRow p rowFilmStandby (filmStandby length.toNat) s)

/-- FILM_THREAD (R85). -/
def execFilmThread (p : PortId) (length : BitVec 32) (s : State) : Host.Outcome State Fault Refusal :=
  .next (writeRow p rowFilmThread (filmThread length.toNat) s)

/-- SPLICE_REQUEST (R87). -/
def execSpliceRequest (p : PortId) (s : State) : Host.Outcome State Fault Refusal :=
  .next (writeRow p rowSpliceRequest spliceRequest s)

/-- GAP_SET (R88). -/
def execGapSet (p : PortId) (transition splice spacing : BitVec 16) (s : State) : Host.Outcome State Fault Refusal :=
  .next (writeRow p rowGapSet (gapSet transition.toNat splice.toNat spacing.toNat) s)

/-- ZONE_DEFINE (R6). -/
def execZoneDefine (p : PortId) (mark nip commit slit knife : BitVec 16) (s : State) :
    Host.Outcome State Fault Refusal :=
  .next (writeRow p rowZoneDefine
    (zoneDefine { mark := mark.toNat, nip := nip.toNat, commit := commit.toNat, slit := slit.toNat,
                  knife := knife.toNat }) s)

/-- SYNC_SET (R12). -/
def execSyncSet (p : PortId) (mode : Byte) (lead : BitVec 16) (s : State) : Host.Outcome State Fault Refusal :=
  .next (writeRow p rowSyncSet (syncSet mode.toNat lead.toNat) s)

/-- THRESHOLD_SET (R43). -/
def execThresholdSet (p : PortId) (high low : Byte) (s : State) : Host.Outcome State Fault Refusal :=
  .next (writeRow p rowThresholdSet (thresholdSet high.toNat low.toNat) s)

/-- REGISTRATION_SET (R64). -/
def execRegistrationSet (p : PortId) (halfWidth tolerance : Byte) (s : State) : Host.Outcome State Fault Refusal :=
  .next (writeRow p rowRegistrationSet (registrationSet halfWidth.toNat tolerance.toNat) s)

/-- SCRAP_PANEL (R34). -/
def execScrapPanel (p : PortId) (panel : BitVec 16) (s : State) : Host.Outcome State Fault Refusal :=
  .next (writeRow p rowScrapPanel (scrapPanel panel.toNat) s)

end Sys2Proof.Machine
end

