-- ==== Sys2Proof/Machine/Reset.lean ====
section
/-! DEFINITION. LINE RESET (R186 and the reset rule of each chapter), the end of its busy period, and hardware reset (R188). -/

namespace Sys2Proof.Machine

/-! ### LINE RESET, block by block -/

/-- R4, R5, R11: zone distances are kept. -/
def Tracker.lineReset (k : Tracker) : Tracker := { Tracker.reset with zones := k.zones }

/-- R62: every plan is kept, its reference count 0; the spacing returns to 100. -/
def PlanStore.lineReset (k : PlanStore) : PlanStore :=
  { PlanStore.reset with plans := k.plans.map (fun q => { q with refs := 0 }) }

/-- R99: nip state, running reel and standby reel are kept. -/
def Laminator.lineReset (k : Laminator) : Laminator :=
  { Laminator.reset with nip := k.nip, reelLength := k.reelLength, remaining := k.remaining, standby := k.standby }

/-- R173: next tag, fault report, test count and error count are kept, and what passes on the wires (log 19). -/
def Link.lineReset (k : Link) : Link :=
  { Link.reset with
    nextTag := k.nextTag, faultReport := k.faultReport, testCount := k.testCount, errorCount := k.errorCount,
    overflow := k.overflow, previous := k.previous, heard := k.heard, sent := k.sent }

/-- R139. -/
def LineControl.lineReset (k : LineControl) : LineControl :=
  { k with
    setSpeed := LineControl.reset.setSpeed, minSpeed := LineControl.reset.minSpeed, ratio := LineControl.reset.ratio,
    atNip := none, owed := LineControl.reset.owed }

/-- R78: a waiting settled read ends with NOT_FOUND, a copy not collected is lost. -/
def Port.lineReset (k : Port) : Port :=
  match k.settled with
  | .waiting t =>
    { k with
      settled := .empty
      result := { code := settledCode, outcome := .notFound, value := BitVec.ofNat 32 t.slot, slot := none } }
  | _ => { k with settled := .empty }

/-- Every block but the Notice Unit takes its reset, and the busy period begins (R186). -/
def resetBlocks (s : State) : State :=
  { s with
    tracker := s.tracker.lineReset, map := PanelMap.reset, plans := s.plans.lineReset, reg := Registration.reset,
    lam := s.lam.lineReset, cut := CutControl.reset, links := s.links.map Link.lineReset, line := s.line.lineReset,
    hold := HoldUnit.reset, ports := s.ports.map Port.lineReset, busy := some Config.busyMs }

/-- The raw levels the resets change are passed (R186). -/
def passLevels (s : State) : State :=
  let s1 := passLevel .lineState s.lineUp s
  let s2 := passLevel .regLock s1.regLocked (passLevel .holdActive s1.holdActive s1)
  allLinks.foldl (fun s l => passLinkUp l s) (evalMapLevels s2)

/-- LINE RESET (R186): the clearing of the latched notices is the last step of the taking (R196). -/
def lineReset : WriteBody := fun s => (clearLatched (evalFilm (passLevels (resetBlocks s))), answerOk 0)

/-- The busy timer expires (R187). -/
def busyExpiry (s : State) : State :=
  if s.busy.isSome then raiseNotice .lineResetDone (s.setBusy none) else s

/-! ### Hardware reset -/

/-- A port at hardware reset: select asserted then is ignored until it is next released (R188). -/
def Port.hardwareReset (k : Port) : Port :=
  { Port.reset with transaction := if k.transaction = .inactive then .inactive else .ignored }

/-- Hardware reset (R188 and the reset value of every item). The select and emergency-stop inputs stand as the pins do
(log 8); the queue of commands waiting and the counter of the free values are the model's own (log 3, 17). -/
def hardwareReset (s : State) : State :=
  { State.reset with
    line := { LineControl.reset with estop := s.line.estop }, ports := s.ports.map Port.hardwareReset,
    freeTick := s.freeTick, pending := s.pending }

/-! ### The rows -/

/-- HARDWARE_RESET (R188). -/
def execHardwareReset (s : State) : Host.Outcome State Fault Refusal := .next (hardwareReset s)

/-- BUSY_TIMER_EXPIRY (R187). -/
def execBusyTimerExpiry (s : State) : Host.Outcome State Fault Refusal := .next (busyExpiry s)

/-- LINE_RESET (R186). -/
def execLineReset (p : PortId) (s : State) : Host.Outcome State Fault Refusal :=
  .next (writeRow p rowLineReset lineReset s)

end Sys2Proof.Machine
end

