-- ==== Sys2Proof/Machine/HoldCommands.lean ====
section
/-! DEFINITION. HOLD and RELEASE (chapter 7). -/

namespace Sys2Proof.Machine

/-- HOLD (R125). The state check is that of R180. -/
def holdCommand (p : PortId) : WriteBody := fun s =>
  if Config.holdSize ≤ s.hold.stack.length then (s, refuse .full Config.holdSize)
  else (stackReport (pushHold (.port p) .operator noDetail s), answerOk s.hold.nextNumber)

/-- The port may not release the record (R128, check 4). -/
def HoldOwner.forbids (o : HoldOwner) (p : PortId) : Bool :=
  match o with
  | .line => p != .console
  | .port q => q != p && p != .console

/-- The release condition of a reason (R129). -/
def State.releasable (s : State) (reason : HoldReason) : Bool :=
  match reason with
  | .operator | .regLost => true
  | .filmOut => decide (0 < s.lam.remaining)
  | .estop => !s.line.estop
  | .linkLost | .linkFault | .stationTimeout => s.allLinksIn (fun st => st == .active)
  | .webReverse => decide (s.tracker.debt = 0)
  | .odometer => false

/-- The stack after an accepted release of the record at a depth: popped with the collapse of released records under it, or
tagged RELEASED where it stands (R130). -/
def releaseAt (depth : Nat) (stack : List HoldRecord) : List HoldRecord :=
  if depth = 0 then (stack.drop 1).dropWhile (fun r => r.tag == .released)
  else stack.modify depth (fun r => { r with tag := .released })

/-- An accepted release and its reports (R130 to R132). -/
def acceptRelease (depth : Nat) (r : HoldRecord) (s : State) : State × Answer :=
  let stack := releaseAt depth s.hold.stack
  let s1 := s.setHold { s.hold with stack := stack, overflow := if stack = [] then false else s.hold.overflow }
  let s2 := if r.reason = .regLost then seekLock s1 else s1
  (stackReport s2, answerOk stack.length)

/-- RELEASE (R128). -/
def releaseCommand (p : PortId) (number : Nat) : WriteBody := fun s =>
  if s.hold.stack = [] then (s, refuse .empty 0)
  else
    let depth := s.hold.stack.findIdx (fun r => r.number == number)
    match s.hold.stack[depth]? with
    | none => (s, refuse .notFound 0)
    | some r =>
      if r.tag = .released then (s, refuse .state depth)
      else if r.owner.forbids p then (s, refuse .owner depth)
      else if s.releasable r.reason = false then (s, refuse .condition depth)
      else acceptRelease depth r s

/-- HOLD (R125). -/
def execHold (p : PortId) (s : State) : Host.Outcome State Fault Refusal :=
  .next (writeRow p rowHold (holdCommand p) s)

/-- RELEASE (R128). -/
def execRelease (p : PortId) (number : Byte) (s : State) : Host.Outcome State Fault Refusal :=
  .next (writeRow p rowRelease (releaseCommand p number.toNat) s)

end Sys2Proof.Machine
end

