-- ==== Sys2Proof/Machine/ReadCommands.lean ====
section
/-! DEFINITION. The reads of every port: status, map entry in both forms, plan, hold context, result, notices, error count, identity. -/

namespace Sys2Proof.Machine

/-- READ MAP ENTRY, plain (R39). -/
def readMapEntry (selector key : Nat) : ReadBody := showRecord (fun s => entryRecord s (selectEntry selector key s))

/-- A settled-read record takes a new status. -/
def setSettled (p : PortId) (x : SettledRead) (s : State) : State := s.setPort p { s.port p with settled := x }

/-- PENDING, with the result record replaced without REFUSED (R76, R182). -/
def pendingRead (p : PortId) (slot : Nat) (s : State) : ReadTaken :=
  { state := replaceResult p settledCode (refuse .pending slot) s, record := pendingRecord, ending := .keep }

/-- READ MAP ENTRY, settled (R76). -/
def readSettled (p : PortId) (selector key : Nat) : ReadBody := fun s =>
  match (s.port p).settled with
  | .ready copy => { state := setSettled p .empty s, record := entryRecord s (some copy), ending := .keep }
  | .waiting t => pendingRead p t.slot s
  | .empty =>
    match selectEntry selector key s with
    | none => { state := s, record := entryRecord s none, ending := .keep }
    | some v =>
      if v.entry.windowIs .opened then pendingRead p v.entry.slot (setSettled p (.waiting v.entry.target) s)
      else { state := s, record := entryRecord s (some v), ending := .keep }

/-- READ PLAN (R53). -/
def readPlan (selector key : Nat) : ReadBody := showRecord (fun s => planRecord (selectPlan selector key s))

/-- READ HOLD CONTEXT (R134). -/
def readHoldContext (depth : Nat) : ReadBody := showRecord (fun s => holdRecord s.hold.stack[depth]?)

/-- READ RESULT (R183). -/
def readResult (p : PortId) : ReadBody := showRecord (fun s => resultRecord (s.port p).result)

/-- READ NOTICES (R194). -/
def readNotices (p : PortId) : ReadBody := showRecord (fun s => noticesRecord s.notices.levels (s.notices.copies.get p))

/-- READ ERROR COUNT (R157, R181): 0 the sending port's own count, 1 to 4 a link's, above 4 a count of 0. -/
def readErrorCount (p : PortId) (source : Nat) : ReadBody := fun s =>
  if source = 0 then
    { state := s, record := errorRecord (s.port p).errorCount (s.port p).overflow, ending := .clearPort }
  else
    match linkOfNumber source with
    | some l => { state := s, record := errorRecord (s.link l).errorCount (s.link l).overflow, ending := .clearLink l 0 }
    | none => { state := s, record := errorRecord 0 false, ending := .keep }

/-- READ IDENT (R185). -/
def readIdent : ReadBody := showRecord (fun _ => identRecord)

/-- READ STATUS (R184). -/
def readStatus : ReadBody := showRecord statusRecord

/-! ### The rows -/

/-- The bytes of a two-byte key. -/
def keyBytes (key : BitVec 16) : Bytes := be16 key.toNat

/-- READ_STATUS (R184). -/
def execReadStatus (p : PortId) (s : State) : Host.Outcome State Fault Refusal :=
  .next (readRow p rowReadStatus [] readStatus s)

/-- READ_MAP_ENTRY (R39). -/
def execReadMapEntry (p : PortId) (selector : Byte) (key : BitVec 16) (s : State) : Host.Outcome State Fault Refusal :=
  .next (readRow p rowReadMapEntry (selector :: keyBytes key) (readMapEntry selector.toNat key.toNat) s)

/-- READ_MAP_ENTRY_SETTLED (R76). -/
def execReadMapEntrySettled (p : PortId) (selector : Byte) (key : BitVec 16) (s : State) :
    Host.Outcome State Fault Refusal :=
  .next (readRow p rowReadMapEntrySettled (selector :: keyBytes key) (readSettled p selector.toNat key.toNat) s)

/-- READ_PLAN (R53). -/
def execReadPlan (p : PortId) (selector key : Byte) (s : State) : Host.Outcome State Fault Refusal :=
  .next (readRow p rowReadPlan [selector, key] (readPlan selector.toNat key.toNat) s)

/-- READ_HOLD_CONTEXT (R134). -/
def execReadHoldContext (p : PortId) (depth : Byte) (s : State) : Host.Outcome State Fault Refusal :=
  .next (readRow p rowReadHoldContext [depth] (readHoldContext depth.toNat) s)

/-- READ_RESULT (R183). -/
def execReadResult (p : PortId) (s : State) : Host.Outcome State Fault Refusal :=
  .next (readRow p rowReadResult [] (readResult p) s)

/-- READ_NOTICES (R194). -/
def execReadNotices (p : PortId) (s : State) : Host.Outcome State Fault Refusal :=
  .next (readRow p rowReadNotices [] (readNotices p) s)

/-- READ_ERROR_COUNT (R157, R181). -/
def execReadErrorCount (p : PortId) (source : Byte) (s : State) : Host.Outcome State Fault Refusal :=
  .next (readRow p rowReadErrorCount [source] (readErrorCount p source.toNat) s)

/-- READ_IDENT (R185). -/
def execReadIdent (p : PortId) (s : State) : Host.Outcome State Fault Refusal :=
  .next (readRow p rowReadIdent [] readIdent s)

end Sys2Proof.Machine
end

