-- ==== Sys2Proof/Machine/NoticeCommands.lean ====
section
/-! DEFINITION. CLEAR NOTICES, SET NOTICE MASK and SET LATCH MASKED (chapter 11). -/

namespace Sys2Proof.Machine

/-- How many flags of a notice field are set. -/
def flagCount (w : BitVec 25) : Nat := (List.range 25).countP (fun i => w.getLsbD i)

/-- Change the sending port's own copy. -/
def setCopy (p : PortId) (c : NoticeCopy) (s : State) : State :=
  s.setNotices { s.notices with copies := s.notices.copies.set p c }

/-- CLEAR NOTICES (R194). -/
def clearNotices (p : PortId) (set : Nat) : WriteBody := fun s =>
  let c := s.notices.copies.get p
  let named := BitVec.ofNat 25 set
  (setCopy p ({ c with latched := c.latched &&& ~~~ named } : NoticeCopy).reckon s,
    answerOk (flagCount (c.latched &&& named)))

/-- SET NOTICE MASK (R195). -/
def setNoticeMask (p : PortId) (mask : Nat) : WriteBody := fun s =>
  let m := BitVec.ofNat 25 mask
  (setCopy p ({ s.notices.copies.get p with mask := m } : NoticeCopy).reckon s, answerOk (flagCount (~~~ m)))

/-- SET LATCH MASKED (R195). -/
def setLatchMasked (p : PortId) (option : Nat) : WriteBody := fun s =>
  if 1 < option then (s, refuse .range 1)
  else (setCopy p { s.notices.copies.get p with latchMasked := option == 1 } s, answerOk option)

/-- CLEAR_NOTICES (R194). -/
def execClearNotices (p : PortId) (set : BitVec 32) (s : State) : Host.Outcome State Fault Refusal :=
  .next (writeRow p rowClearNotices (clearNotices p set.toNat) s)

/-- SET_NOTICE_MASK (R195). -/
def execSetNoticeMask (p : PortId) (mask : BitVec 32) (s : State) : Host.Outcome State Fault Refusal :=
  .next (writeRow p rowSetNoticeMask (setNoticeMask p mask.toNat) s)

/-- SET_LATCH_MASKED (R195). -/
def execSetLatchMasked (p : PortId) (option : Byte) (s : State) : Host.Outcome State Fault Refusal :=
  .next (writeRow p rowSetLatchMasked (setLatchMasked p option.toNat) s)

end Sys2Proof.Machine
end

