-- ==== Sys2Proof/Machine/Transactions.lean ====
section
/-! DEFINITION. Transactions given as bytes (R176 to R179): what a command byte and its parameter bytes ask for, SELECT ASSERT and SELECT RELEASE. -/

namespace Sys2Proof.Machine

/-! ### Parameter bytes (R198) -/

/-- The parameter byte at an offset. -/
def paramByte (params : Bytes) (i : Nat) : Nat := (params.getD i 0#8).toNat

/-- The two-byte parameter at an offset, most significant byte first. -/
def paramWord (params : Bytes) (i : Nat) : Nat := u16 (params.getD i 0#8) (params.getD (i + 1) 0#8)

/-- The four-byte parameter at an offset, most significant byte first. -/
def paramLong (params : Bytes) (i : Nat) : Nat :=
  u32 (params.getD i 0#8) (params.getD (i + 1) 0#8) (params.getD (i + 2) 0#8) (params.getD (i + 3) 0#8)

/-- A list of two-byte items. -/
def itemsOf : Bytes → List Nat
  | a :: b :: rest => u16 a b :: itemsOf rest
  | _ => []

/-! ### What a command byte asks for (section 12.1) -/

/-- A write command's body or a read command's. -/
inductive Body where
  | write (body : WriteBody)
  | read (body : ReadBody)

/-- The commands 0x10 to 0x24, of the PRINT and PLAN ports. -/
def panelBody (p : PortId) (code : Nat) (ps : Bytes) : Option Body :=
  match code with
  | 0x10 => some (.write (announcePanel
      { panel := paramWord ps 0, length := paramWord ps 2, cls := paramByte ps 4, policy := paramByte ps 5,
        plan := paramByte ps 6, gap := paramWord ps 7 }))
  | 0x11 => some (.write (withdrawPanel (paramWord ps 0)))
  | 0x12 => some (.read (takeReprint p))
  | 0x20 => some (.write (planOpen (paramByte ps 0) (paramByte ps 1) (paramByte ps 2) (itemsOf (ps.drop 3))))
  | 0x21 => some (.write (planAppend (paramByte ps 0) (paramByte ps 1) (itemsOf (ps.drop 2))))
  | 0x22 => some (.write (planClose (paramByte ps 0)))
  | 0x23 => some (.write (planDiscard (paramByte ps 0)))
  | 0x24 => some (.read (takeOutcome p))
  | _ => none

/-- The commands 0x30 to 0x40, of the CONSOLE port. -/
def consoleBody (code : Nat) (ps : Bytes) : Option Body :=
  match code with
  | 0x30 => some (.write lineStart)
  | 0x31 => some (.write lineStop)
  | 0x32 => some (.write (speedSet (paramWord ps 0)))
  | 0x33 => some (.write (minSpeedSet (paramWord ps 0)))
  | 0x34 => some (.write (filmStandby (paramLong ps 0)))
  | 0x35 => some (.write (filmThread (paramLong ps 0)))
  | 0x36 => some (.write spliceRequest)
  | 0x37 => some (.write (linkAcknowledge (paramByte ps 0)))
  | 0x38 => some (.write (linkTest (paramByte ps 0)))
  | 0x39 => some (.write (linkTestEnd (paramByte ps 0)))
  | 0x3A => some (.write (zoneDefine
      { mark := paramWord ps 0, nip := paramWord ps 2, commit := paramWord ps 4, slit := paramWord ps 6,
        knife := paramWord ps 8 }))
  | 0x3B => some (.write (syncSet (paramByte ps 0) (paramWord ps 1)))
  | 0x3C => some (.write (thresholdSet (paramByte ps 0) (paramByte ps 1)))
  | 0x3D => some (.write (registrationSet (paramByte ps 0) (paramByte ps 1)))
  | 0x3E => some (.write (gapSet (paramWord ps 0) (paramWord ps 2) (paramWord ps 4)))
  | 0x3F => some (.write (scrapPanel (paramWord ps 0)))
  | 0x40 => some (.write lineReset)
  | _ => none

/-- The commands 0x50 to 0x5D, of every port. -/
def commonBody (p : PortId) (code : Nat) (ps : Bytes) : Option Body :=
  match code with
  | 0x50 => some (.write (holdCommand p))
  | 0x51 => some (.write (releaseCommand p (paramByte ps 0)))
  | 0x52 => some (.read readStatus)
  | 0x53 => some (.read (readMapEntry (paramByte ps 0) (paramWord ps 1)))
  | 0x54 => some (.read (readSettled p (paramByte ps 0) (paramWord ps 1)))
  | 0x55 => some (.read (readPlan (paramByte ps 0) (paramByte ps 1)))
  | 0x56 => some (.read (readHoldContext (paramByte ps 0)))
  | 0x57 => some (.read (readResult p))
  | 0x58 => some (.read (readNotices p))
  | 0x59 => some (.write (clearNotices p (paramLong ps 0)))
  | 0x5A => some (.write (setNoticeMask p (paramLong ps 0)))
  | 0x5B => some (.write (setLatchMasked p (paramByte ps 0)))
  | 0x5C => some (.read (readErrorCount p (paramByte ps 0)))
  | 0x5D => some (.read readIdent)
  | _ => none

/-- The body of a command with its parameter bytes. -/
def bodyOf (p : PortId) (code : Nat) (ps : Bytes) : Option Body :=
  ((panelBody p code ps).or (consoleBody code ps)).or (commonBody p code ps)

/-! ### SELECT ASSERT and SELECT RELEASE -/

/-- An incomplete byte at the release of select (R176). -/
def incompleteByte (p : PortId) (incomplete : Bool) (s : State) : State := if incomplete then portError p s else s

/-- A command byte that names no command (R179). -/
def unknownCommand (p : PortId) (code : Byte) (s : State) : State := answer p code (refuse .unknown 0) (portError p s)

/-- A known command with its parameter bytes, at the release of select: a write judged by its length; a read taken when its
last parameter byte came, the later bytes ignored, its end following at once; or short (R177 to R179). The incomplete
byte counts but after a read that was taken (R176, R181, log 20). -/
def takeKnown (p : PortId) (r : CommandRow) (params : Bytes) (incomplete : Bool) (s : State) : State :=
  let n := r.length params
  match bodyOf p r.code.toNat (params.take n) with
  | some (.write body) => incompleteByte p incomplete (takeByLength p r n params.length body s)
  | some (.read body) =>
    if params.length < n then incompleteByte p incomplete (shortTransaction p r.code params.length s)
    else
      let t := takeRead p r body s
      endReadWith p t.2 incomplete t.1
  | none => s

/-- The bytes of a whole transaction (R176, R179). -/
def takeBytes (p : PortId) (bytes : Bytes) (incomplete : Bool) (s : State) : State :=
  match bytes with
  | [] => incompleteByte p incomplete s
  | code :: params =>
    match commandRow code with
    | none => incompleteByte p incomplete (unknownCommand p code s)
    | some r => takeKnown p r params incomplete s

/-- Select is released: the transaction in progress ends (R176, log 2). -/
def selectRelease (p : PortId) (bytes : Bytes) (incomplete : Bool) (s : State) : State :=
  match (s.port p).transaction with
  | .inactive => s
  | .receiving => closeTransaction p (takeBytes p ((s.port p).assembly ++ bytes) incomplete (sendNothing p s))
  | .readTaken e => closeTransaction p (endReadWith p e incomplete s)
  | .ignored => closeTransaction p s

/-- Select is asserted: a transaction begins, and the part sends 0 while it receives (R176). Where it is asserted already, nothing begins (log 8). -/
def selectAssert (p : PortId) (s : State) : State :=
  match (s.port p).transaction with
  | .inactive => setTransaction p .receiving [] (sendNothing p s)
  | _ => s

/-- SELECT_RELEASE (R176 to R179). -/
def execSelectRelease (p : PortId) (bytes : Bytes) (incomplete : Bool) (s : State) :
    Host.Outcome State Fault Refusal :=
  .next (selectRelease p bytes incomplete s)

/-- SELECT_ASSERT (R176). -/
def execSelectAssert (p : PortId) (s : State) : Host.Outcome State Fault Refusal := .next (selectAssert p s)

end Sys2Proof.Machine
end

