-- ==== Sys2Proof/Machine/Events.lean ====
section
/-! DEFINITION. The rows of the part's inputs and timers: encoder, mark sensor, emergency stop, frames, expiries. -/

namespace Sys2Proof.Machine

/-- ENCODER_FORWARD_STEP (R1, R3). -/
def execEncoderForwardStep (s : State) : Host.Outcome State Fault Refusal := .next (forwardStep s)

/-- ENCODER_REVERSE_STEP (R2). -/
def execEncoderReverseStep (s : State) : Host.Outcome State Fault Refusal := .next (reverseStep s)

/-- MARK (R66). -/
def execMark (s : State) : Host.Outcome State Fault Refusal := .next (markRow s)

/-- EMERGENCY_STOP_ACTIVE (R152). -/
def execEmergencyStopActive (s : State) : Host.Outcome State Fault Refusal := .next (emergencyStop s)

/-- EMERGENCY_STOP_INACTIVE (R152): only the input changes. -/
def execEmergencyStopInactive (s : State) : Host.Outcome State Fault Refusal :=
  .next (s.setLine { s.line with estop := false })

/-- FRAME_PERIOD (R154, R155). -/
def execFramePeriod (s : State) : Host.Outcome State Fault Refusal := .next (framePeriod s)

/-- STATION_FRAME (R155, R156). -/
def execStationFrame (l : LinkId) (bytes : Bytes) (s : State) : Host.Outcome State Fault Refusal :=
  .next (stationFrame l bytes s)

/-- WAKE_TIMER_EXPIRY (R159). -/
def execWakeTimerExpiry (l : LinkId) (s : State) : Host.Outcome State Fault Refusal := .next (wakeExpiry l s)

/-- ARM_TIMER_EXPIRY (R160). -/
def execArmTimerExpiry (l : LinkId) (s : State) : Host.Outcome State Fault Refusal := .next (armExpiry l s)

/-- FLYWHEEL_TIMER_EXPIRY (R164). -/
def execFlywheelTimerExpiry (l : LinkId) (s : State) : Host.Outcome State Fault Refusal := .next (flywheelExpiry l s)

/-- PARK_TIMER_EXPIRY (R165). -/
def execParkTimerExpiry (l : LinkId) (s : State) : Host.Outcome State Fault Refusal := .next (parkExpiry l s)

/-- OPERATION_TIMEOUT (R171). -/
def execOperationTimeout (l : LinkId) (s : State) : Host.Outcome State Fault Refusal := .next (operationTimeout l s)

/-- RAMP_TIMER_EXPIRY (R149). -/
def execRampTimerExpiry (s : State) : Host.Outcome State Fault Refusal := .next (rampExpiry s)

/-- SYNC_PULSE_END (R14): the output is inactive when no pulse period runs. -/
def execSyncPulseEnd (s : State) : Host.Outcome State Fault Refusal :=
  .next (s.setTracker { s.tracker with syncPulse := none })

end Sys2Proof.Machine
end

