-- ==== Sys2Proof/Machine/Dispatch.lean ====
section
/-! DEFINITION. The dispatch: one arm per command, each one call of its meaning. -/

namespace Sys2Proof.Machine

def exec (i : Instr) (s : State) : Host.Outcome State Fault Refusal :=
  match i with
  | .hardwareReset => Sys2Proof.Machine.execHardwareReset s
  | .encoderForwardStep => Sys2Proof.Machine.execEncoderForwardStep s
  | .encoderReverseStep => Sys2Proof.Machine.execEncoderReverseStep s
  | .mark => Sys2Proof.Machine.execMark s
  | .emergencyStopActive => Sys2Proof.Machine.execEmergencyStopActive s
  | .emergencyStopInactive => Sys2Proof.Machine.execEmergencyStopInactive s
  | .framePeriod => Sys2Proof.Machine.execFramePeriod s
  | .stationFrame link bytes => Sys2Proof.Machine.execStationFrame link bytes s
  | .wakeTimerExpiry link => Sys2Proof.Machine.execWakeTimerExpiry link s
  | .armTimerExpiry link => Sys2Proof.Machine.execArmTimerExpiry link s
  | .flywheelTimerExpiry link => Sys2Proof.Machine.execFlywheelTimerExpiry link s
  | .parkTimerExpiry link => Sys2Proof.Machine.execParkTimerExpiry link s
  | .operationTimeout link => Sys2Proof.Machine.execOperationTimeout link s
  | .rampTimerExpiry => Sys2Proof.Machine.execRampTimerExpiry s
  | .syncPulseEnd => Sys2Proof.Machine.execSyncPulseEnd s
  | .busyTimerExpiry => Sys2Proof.Machine.execBusyTimerExpiry s
  | .selectRelease port bytes incomplete => Sys2Proof.Machine.execSelectRelease port bytes incomplete s
  | .announcePanel port panel length cls policy plan gap => Sys2Proof.Machine.execAnnouncePanel port panel length cls policy plan gap s
  | .withdrawPanel port panel => Sys2Proof.Machine.execWithdrawPanel port panel s
  | .takeReprint port => Sys2Proof.Machine.execTakeReprint port s
  | .planOpen port plan ratio count slits => Sys2Proof.Machine.execPlanOpen port plan ratio count slits s
  | .planAppend port plan count offsets => Sys2Proof.Machine.execPlanAppend port plan count offsets s
  | .planClose port plan => Sys2Proof.Machine.execPlanClose port plan s
  | .planDiscard port plan => Sys2Proof.Machine.execPlanDiscard port plan s
  | .takeOutcome port => Sys2Proof.Machine.execTakeOutcome port s
  | .lineStart port => Sys2Proof.Machine.execLineStart port s
  | .lineStop port => Sys2Proof.Machine.execLineStop port s
  | .speedSet port speed => Sys2Proof.Machine.execSpeedSet port speed s
  | .minSpeedSet port speed => Sys2Proof.Machine.execMinSpeedSet port speed s
  | .filmStandby port length => Sys2Proof.Machine.execFilmStandby port length s
  | .filmThread port length => Sys2Proof.Machine.execFilmThread port length s
  | .spliceRequest port => Sys2Proof.Machine.execSpliceRequest port s
  | .linkAcknowledge port link => Sys2Proof.Machine.execLinkAcknowledge port link s
  | .linkTest port link => Sys2Proof.Machine.execLinkTest port link s
  | .linkTestEnd port link => Sys2Proof.Machine.execLinkTestEnd port link s
  | .zoneDefine port mark nip commit slit knife => Sys2Proof.Machine.execZoneDefine port mark nip commit slit knife s
  | .syncSet port mode lead => Sys2Proof.Machine.execSyncSet port mode lead s
  | .thresholdSet port high low => Sys2Proof.Machine.execThresholdSet port high low s
  | .registrationSet port halfWidth tolerance => Sys2Proof.Machine.execRegistrationSet port halfWidth tolerance s
  | .gapSet port transition splice spacing => Sys2Proof.Machine.execGapSet port transition splice spacing s
  | .scrapPanel port panel => Sys2Proof.Machine.execScrapPanel port panel s
  | .lineReset port => Sys2Proof.Machine.execLineReset port s
  | .hold port => Sys2Proof.Machine.execHold port s
  | .release port number => Sys2Proof.Machine.execRelease port number s
  | .readStatus port => Sys2Proof.Machine.execReadStatus port s
  | .readMapEntry port selector key => Sys2Proof.Machine.execReadMapEntry port selector key s
  | .readMapEntrySettled port selector key => Sys2Proof.Machine.execReadMapEntrySettled port selector key s
  | .readPlan port selector key => Sys2Proof.Machine.execReadPlan port selector key s
  | .readHoldContext port depth => Sys2Proof.Machine.execReadHoldContext port depth s
  | .readResult port => Sys2Proof.Machine.execReadResult port s
  | .readNotices port => Sys2Proof.Machine.execReadNotices port s
  | .clearNotices port set => Sys2Proof.Machine.execClearNotices port set s
  | .setNoticeMask port mask => Sys2Proof.Machine.execSetNoticeMask port mask s
  | .setLatchMasked port option => Sys2Proof.Machine.execSetLatchMasked port option s
  | .readErrorCount port source => Sys2Proof.Machine.execReadErrorCount port source s
  | .readIdent port => Sys2Proof.Machine.execReadIdent port s
  | .selectAssert port => Sys2Proof.Machine.execSelectAssert port s

end Sys2Proof.Machine
end

