-- ==== Sys2Proof/Safety.lean ====
section
/-! DEFINITION. What it means that a property is kept by every step, and the properties the spec says hold of the part at all times. -/

namespace Sys2Proof.Machine

/-- A property every step keeps. -/
def Kept (inv : State → Prop) : Prop := ∀ s t, inv s → step s = .next t → inv t

/-- The line is in RUN only while the hold stack is empty (R140). -/
abbrev RunsWithoutHolds (s : State) : Prop := s.line.state = .run → s.hold.stack = []

/-- ATTN is active exactly when a notice is both latched and unmasked (R193). -/
abbrev AttnTells (s : State) : Prop :=
  ∀ p ∈ allPorts, (s.notices.copies.get p).attn =
    ((s.notices.copies.get p).latched &&& ~~~ (s.notices.copies.get p).mask != 0)

/-- The hold numbers of the records on the stack. -/
abbrev HoldUnit.numbers (h : HoldUnit) : List Nat := h.stack.map (fun r => r.number)

/-- At most four records, the top one ACTIVE (R122); no two with the same hold number, none with the next (R124). -/
abbrev HoldsInOrder (s : State) : Prop :=
  s.hold.stack.length ≤ 4 ∧ (∀ r ∈ s.hold.stack.head?, r.tag = .active) ∧
    s.hold.numbers.Nodup ∧ s.hold.nextNumber ∉ s.hold.numbers ∧ 1 ≤ s.hold.nextNumber ∧ s.hold.nextNumber ≤ 255

/-- Odometer and reverse debt stay in their ranges (R1 to R3). -/
abbrev TravelInRange (s : State) : Prop := s.tracker.odometer ≤ 4294967295 ∧ s.tracker.debt ≤ 500

/-- The lists and queues stay within their places (R16, R35, R37, R45, R102). -/
abbrev ListsFit (s : State) : Prop :=
  s.map.entries.length ≤ 48 ∧ s.map.reprints.length ≤ 16 ∧ s.map.outcomes.length ≤ 32 ∧
    s.plans.plans.length ≤ 24 ∧ s.cut.xcut.length ≤ 24 ∧ s.cut.slit.length ≤ 6

/-- The unread run that goes with each lock state (R72). -/
abbrev LockCounts (s : State) : Prop :=
  (s.reg.lock = .seeking → s.reg.unreadRun ≤ 1) ∧ (s.reg.lock = .locked → s.reg.unreadRun = 0) ∧
    (s.reg.lock = .slipping → s.reg.unreadRun = 1) ∧ (s.reg.lock = .lost → s.reg.unreadRun = 2)

/-- The ramp timer runs exactly while commanded speed and target differ (R149); neither exceeds the set speed, nor that
1000 (R148, R149); outside RUN the target is 0, and at rest so is the commanded speed (R139, R148). Speed ratios are
percentages (R46). -/
abbrev SpeedsInOrder (s : State) : Prop :=
  (s.line.rampTimer.isSome ↔ s.line.commanded ≠ s.line.target) ∧
    s.line.commanded ≤ s.line.setSpeed ∧ s.line.target ≤ s.line.setSpeed ∧ s.line.setSpeed ≤ 1000 ∧
    (s.line.state ≠ .run → s.line.target = 0) ∧
    (s.line.state = .stopped ∨ s.line.state = .arming ∨ s.line.state = .held → s.line.commanded = 0) ∧
    s.line.ratio ≤ 100 ∧ ∀ q ∈ s.plans.plans, q.ratio ≤ 100

/-- Web order (R16): each nominal head at or past the nominal tail before it, and no nominal tail past the last-tail
register or the odometer's top (R19, R21). -/
abbrev InWebOrder (m : PanelMap) : Prop :=
  (m.entries.Pairwise (fun a b => a.tail ≤ b.head)) ∧ (∀ e ∈ m.entries, e.tail ≤ m.lastTail) ∧
    m.lastTail ≤ 4294967295

/-- No two entries share a panel number or a slot, and the slots are 0 to 47 (R16, R18). -/
abbrev NamesApart (m : PanelMap) : Prop :=
  (m.entries.map (fun e => e.panel)).Nodup ∧ (m.entries.map (fun e => e.slot)).Nodup ∧
    (∀ e ∈ m.entries, e.slot ≤ 47 ∧ 1 ≤ e.panel) ∧ m.entries.length ≤ 48

/-- The map's entries stand as R16, R18 and R19 say. -/
abbrev MapInOrder (s : State) : Prop := NamesApart s.map ∧ InWebOrder s.map

/-- At most one window record is OPEN (R65). -/
abbrev OneWindowOpen (s : State) : Prop :=
  s.map.entries.countP (fun e => e.window.any (fun w => w.status == .opened)) ≤ 1

/-- A window that the web has not reached yet is not open, and one that it has passed is resolved; the crossings of the present
odometer value are still to come only where they are left to a mark waiting in front (R65, log 25). -/
abbrev WindowTimely (s : State) (w : Window) : Prop :=
  (w.status = .notOpen → s.tracker.odometer + w.halfWidth < w.expected ∨
      (s.pending.head? = some .mark ∧ s.tracker.odometer + w.halfWidth = w.expected)) ∧
    (w.status = .opened → w.expected ≤ s.tracker.odometer + w.halfWidth ∧
      (s.tracker.odometer < w.expected + w.halfWidth ∨
        (s.pending.head? = some .mark ∧ s.tracker.odometer = w.expected + w.halfWidth)))

/-- Every window stands about its entry's mark with a half-width in range (R5, R6, R63 to R65), open while the web is inside it, and so
at most one is OPEN; the entries are in web order and at least 200 long (R21). -/
abbrev WindowsInPlace (s : State) : Prop :=
  MapInOrder s ∧ OneWindowOpen s ∧ 200 ≤ s.tracker.zones.mark ∧ 5 ≤ s.reg.halfWidth ∧ s.reg.halfWidth ≤ 100 ∧
    ∀ e ∈ s.map.entries, 200 ≤ e.length ∧ ∀ w ∈ e.window,
      w.expected = e.head + s.tracker.zones.mark ∧ 5 ≤ w.halfWidth ∧ w.halfWidth ≤ 100 ∧ WindowTimely s w

/-- Plans in ascending plan number; every entry's plan is in the store, and a plan's count is the number of entries that
name it (R45, R48). The entries' names are apart (R16, R18). -/
abbrev PlansCounted (s : State) : Prop :=
  NamesApart s.map ∧ s.plans.plans.Pairwise (fun a b => a.number < b.number) ∧
    (∀ e ∈ s.map.entries, ∃ q ∈ s.plans.plans, q.number = e.plan) ∧
    ∀ q ∈ s.plans.plans, q.refs = s.map.entries.countP (fun e => e.plan == q.number)

/-- The raw levels the Notice Unit holds are those of the owning blocks (R189); the entries' names are apart. -/
abbrev LevelsAgree (s : State) : Prop :=
  NamesApart s.map ∧ s.level .lineState = s.lineUp ∧ s.level .holdActive = s.holdActive ∧
    s.level .regLock = s.regLocked ∧ s.level .filmLow = s.filmLow ∧ s.level .nearFull = s.nearFull ∧
    s.level .queueLow = s.queueLow ∧ ∀ l ∈ allLinks, s.level (.linkUp l) = s.linkUp l

/-- What R158 says of one link: an operation only in ACTIVE or SLIPPED, each timer only in its state, the counts in their
ranges. -/
abbrev Link.InOrder (k : Link) : Prop :=
  (k.op.isSome → k.state = .active ∨ k.state = .slipped) ∧ (k.wakeTimer.isSome ↔ k.state = .waking) ∧
    (k.armTimer.isSome ↔ k.state = .armed ∧ k.goGiven) ∧ (k.flywheel.isSome ↔ k.state = .slipped) ∧
    (k.parkTimer.isSome ↔ k.state = .parking) ∧ k.faults ≤ 2 ∧ 1 ≤ k.nextTag ∧ k.nextTag ≤ 15 ∧
    (∀ o ∈ k.op, 1 ≤ o.tag ∧ o.tag ≤ 15 ∧ o.params.length = 6) ∧ k.errorCount ≤ 127 ∧ k.testCount ≤ 65535

/-- Every link is as R158 says. -/
abbrev LinksInOrder (s : State) : Prop := ∀ l ∈ allLinks, (s.link l).InOrder

/-- What the blocks hold in flight is what the links carry (R81, R101, R169): FEED carries nothing. -/
abbrev FlightsAgree (s : State) : Prop :=
  (s.link .feed).op = none ∧ ((s.link .lam).op.isSome ↔ s.lam.op.isSome) ∧
    ((s.link .slit).op.isSome ↔ s.cut.moveFlight.isSome) ∧ ((s.link .xcut).op.isSome ↔ s.cut.cutFlight.isSome)

/-- The panel's cut entries not yet resolved: those in the queue and the one in flight (R29). -/
def State.unresolvedCuts (s : State) (t : Target) : Nat :=
  s.cut.xcut.countP (fun c => decide (c.owner = t)) + s.cut.cutFlight.toList.countP (fun c => decide (c.owner = t))

/-- Cuts pending counts the panel's unresolved cut entries (R29), and every one belongs to an entry in phase COMMITTED or
AT_KNIFE (R102); the entries' names are apart, and the flights agree with the links. -/
abbrev CutsCounted (s : State) : Prop :=
  NamesApart s.map ∧ FlightsAgree s ∧ (∀ e ∈ s.map.entries, e.cutsPending = s.unresolvedCuts e.target) ∧
    ∀ c ∈ s.cut.xcut ++ s.cut.cutFlight.toList,
      ∃ e ∈ s.map.entries, e.target = c.owner ∧ (e.phase = .committed ∨ e.phase = .atKnife)

end Sys2Proof.Machine
end

