-- ==== Sys2Proof/Certificates/Slice0/Obligations.lean ====
section
/-! DEFINITION. The statements for the provers, and before them the words they are made of. -/

namespace Sys2Proof.Machine

/-! ### Words of the statements: ports and notices -/

/-- The port is in no transaction, or in one that is still receiving: a command's row is then taken as a transaction, which for a
port that is receiving already is the model's choice (log 1). -/
abbrev Listening (p : PortId) (s : State) : Prop :=
  (s.port p).transaction = .inactive ∨ (s.port p).transaction = .receiving

/-- The port listens and no busy period runs, so that its commands come to their own checks. -/
abbrev Ready (p : PortId) (s : State) : Prop := s.busy = none ∧ Listening p s

/-- The port after the answer to a command that sends nothing: the transaction over, the result record replaced, no reply (R176,
R182). -/
def Port.answered (k : Port) (code : Byte) (o : PortOutcome) (value : Nat) (slot : Option Nat) : Port :=
  { k with
    transaction := .inactive, assembly := [], reply := []
    result := { code := code, outcome := o, value := BitVec.ofNat 32 value, slot := slot } }

/-- A copy that a raise of notice n reaches (R191, R193). -/
def NoticeCopy.took (n : Nat) (c : NoticeCopy) : NoticeCopy :=
  if c.mask.getLsbD n = true ∧ c.latchMasked = false then c
  else
    { c with
      latched := c.latched ||| BitVec.twoPow 25 n
      attn := (c.latched ||| BitVec.twoPow 25 n) &&& ~~~ c.mask != 0 }

/-- The Notice Unit after a raise of notice n that stands inside its validity group: every copy is reached. -/
def NoticeUnit.took (n : Nat) (u : NoticeUnit) : NoticeUnit :=
  { u with
    copies := { print := u.copies.print.took n, plan := u.copies.plan.took n, console := u.copies.console.took n } }

/-- The state with port p answered OK. -/
def State.accepted (s : State) (p : PortId) (code : Byte) (value : Nat) : State :=
  { s with ports := s.ports.set p ((s.port p).answered code .ok value none) }

/-- The state with port p answered by a refusal, which raises REFUSED, notice 22 (R182). -/
def State.refused (s : State) (p : PortId) (code : Byte) (o : PortOutcome) (value : Nat) : State :=
  { s with ports := s.ports.set p ((s.port p).answered code o value none), notices := s.notices.took 22 }

/-- The notice is latched in every copy that takes its raise (R191). -/
def State.Latched (s t : State) (n : Nat) : Prop :=
  ∀ p, (s.notices.copies.get p).mask.getLsbD n = false ∨ (s.notices.copies.get p).latchMasked = true →
    (t.notices.copies.get p).latched.getLsbD n = true

/-- The port after an event that adds 1 to its error count (R181). -/
def Port.erred (k : Port) : Port :=
  if k.errorCount < 127 then { k with errorCount := k.errorCount + 1 } else { k with overflow := true }

/-- The state after such an event at port p, which raises PORT_ERROR, notice 23 (R181). -/
def State.erred (s : State) (p : PortId) : State :=
  { s with ports := s.ports.set p (s.port p).erred, notices := s.notices.took 23 }

/-- The state after a read has been taken whose end leaves nothing to do: the record stands behind the dummy byte, and the
transaction is over, or goes on where select had been asserted before (R178, log 1). The counter of the free values moves. -/
def State.told (s : State) (p : PortId) (sent record : Bytes) : State :=
  let k := s.port p
  { s with
    ports := s.ports.set p { k with
      transaction := if k.transaction = .receiving then .readTaken .keep else .inactive
      assembly := if k.transaction = .receiving then sent else []
      reply := 0#8 :: record }
    freeTick := s.freeTick + 1 }

/-- Port p's result record replaced, its transaction as it was (R182). -/
def State.resulted (s : State) (p : PortId) (code : Byte) (o : PortOutcome) (value : Nat) : State :=
  { s with ports := s.ports.set p { s.port p with
      result := { code := code, outcome := o, value := BitVec.ofNat 32 value, slot := none } } }

/-! ### Words of the statements: notices, operations and scrap -/

/-- The Notice Unit after a raw level has been passed that stands inside its validity group (R189 to R191): where it differs from
the one held, it is held and its notice raised. -/
def NoticeUnit.passed (n : Nat) (v : Bool) (u : NoticeUnit) : NoticeUnit :=
  if u.levels.getLsbD n = v then u
  else ({ u with
    levels := if v then u.levels ||| BitVec.twoPow 10 n else u.levels &&& ~~~ BitVec.twoPow 10 n } : NoticeUnit).took n

/-- The state with a notice raised, and with a raw level passed, that stand inside their validity groups. -/
def State.noticed (s : State) (n : Nat) : State := { s with notices := s.notices.took n }
def State.passed (s : State) (n : Nat) (v : Bool) : State := { s with notices := s.notices.passed n v }

/-- The entry named, changed; the others as they are. -/
def State.entriesWith (s : State) (t : Target) (f : MapEntry → MapEntry) : List MapEntry :=
  s.map.entries.map (fun e => if e.slot = t.slot ∧ e.panel = t.panel then f e else e)

/-- The state with that entry changed. -/
def State.changed (s : State) (t : Target) (f : MapEntry → MapEntry) : State :=
  { s with map := { s.map with entries := s.entriesWith t f } }

/-- The reprint list after a scrap of the entry (R33, R35). -/
def State.reprintsWith (s : State) (e : MapEntry) (reason : ScrapReason) : List ReprintRecord :=
  if s.map.reprints.length < 16 then
    s.map.reprints ++
      [{ panel := e.panel, plan := e.plan, length := e.length, cls := e.cls, reason := reason }]
  else s.map.reprints

/-- The milliseconds an operation is given (R169). -/
def opTime : OpKind → Nat
  | .cut => 150
  | .move => 1500
  | .nipOpen => 400
  | .nipClose => 400
  | .splice => 4000

/-- A link that has taken an operation: the next tag, the parameter words, 0 in the places beyond (R169). -/
def Link.given (k : Link) (kind : OpKind) (words : List Nat) (target : Option Target) : Link :=
  { k with
    op := some { kind := kind, tag := k.nextTag, params := (words ++ [0, 0, 0, 0, 0, 0]).take 6, target := target
                 remaining := opTime kind }
    nextTag := if k.nextTag < 15 then k.nextTag + 1 else 1 }

/-- Steps 1 to 3 of a scrap claim (R33): the reason, the reprint record with its notice, PANEL_SCRAPPED. -/
def State.spoiled (s : State) (e : MapEntry) (reason : ScrapReason) : State :=
  { s with
    map := { s.map with
      entries := s.entriesWith e.target (fun x => { x with scrap := some reason })
      reprints := s.reprintsWith e reason }
    notices := (s.notices.took (if s.map.reprints.length < 16 then 12 else 13)).took 11 }

/-- The panel's CUT entries still in the XCUT queue made WASTE (R111). -/
def State.wasted (s : State) (t : Target) : State :=
  { s with cut := { s.cut with xcut := s.cut.xcut.map (fun c => if c.owner = t then { c with kind := .waste } else c) } }

/-- The entry named stands in the map and carries no scrap reason. -/
abbrev State.Good (s : State) (t : Target) : Prop := ∃ e ∈ s.entry t, e.scrap = none

/-- A slit issue attempt (R113, R114): its four conditions, with no operation on the SLIT link; the front entry becomes ISSUED
and its move is given to the link. -/
def State.slitIssued (s : State) : State :=
  match s.cut.slit with
  | [] => s
  | x :: rest =>
    let older := s.map.entries.takeWhile (fun e => ¬ (e.slot = x.owner.slot ∧ e.panel = x.owner.panel))
    let nearest := older.reverse.find? (fun e => e.scrap = none)
    let k := s.link .slit
    if s.cut.moveFlight = none ∧ x.issued = false ∧ s.Good x.owner ∧ (∀ e ∈ nearest, e.slitter = .past) ∧
        k.state = .active ∧ k.op = none then
      { s with
        links := s.links.set .slit (k.given .move (x.lanes.length :: x.lanes) (some x.owner))
        cut := { s.cut with
          slit := { x with issued := true } :: rest
          moveFlight := some { lanes := x.lanes, owner := some x.owner } } }
    else s

/-- The entries a disposal looks at (R112): those younger than the owner, up to the owner of the next slit entry, as far as
they are COMMITTED or AT_KNIFE. -/
def State.relying (s : State) (owner : Target) (next : Option Target) : List Target :=
  (((s.map.entries.dropWhile (fun e => ¬ (e.slot = owner.slot ∧ e.panel = owner.panel))).drop 1).takeWhile
    (fun e => some e.target ≠ next ∧ (e.phase = .committed ∨ e.phase = .atKnife))).map MapEntry.target

/-- The disposal of the slit entry at place i over the entries it looks at (R112): scrapped ones are passed over; an entry past
its head at the slitters is scrapped with SLIT_LATE; the first other one takes the slit entry; with none it is removed. A new
deadline at the present odometer value is crossed at once (R8, R116). -/
def State.handOver (i : Nat) : List Target → State → State
  | [], s => ({ s with cut := { s.cut with slit := s.cut.slit.eraseIdx i } } : State).slitIssued
  | t :: rest, s =>
    match s.entry t with
    | none => State.handOver i rest s
    | some q =>
      let deadline := ((q.head + s.tracker.zones.slit : Nat) + q.offset : Int).toNat
      let handed : State := { s with cut := { s.cut with
        slit := s.cut.slit.modify i (fun x => { x with owner := t, deadline := deadline }) } }
      if q.scrap ≠ none then State.handOver i rest s
      else if q.slitter ≠ .ahead then State.handOver i rest ((s.spoiled q .slitLate).wasted t).slitIssued
      else if deadline = s.tracker.odometer then State.handOver i rest ((handed.spoiled q .slitLate).wasted t)
      else handed.slitIssued

/-- The panel's UNISSUED slit entry, if it has one, disposed of (R111, R112). -/
def State.disposedOf (s : State) (t : Target) : State :=
  match s.cut.slit.findIdx? (fun x => x.owner = t ∧ x.issued = false) with
  | none => s
  | some i => State.handOver i (s.relying t ((s.cut.slit[i + 1]?).map (fun x => x.owner))) s

/-- A conversion request (R111). -/
def State.converted (s : State) (t : Target) : State := ((s.wasted t).disposedOf t).slitIssued

/-- A scrap claim (R33): nothing for an entry that is gone or carries a reason already; a panel past its commit point is
converted. -/
def State.claimed (s : State) (t : Target) (reason : ScrapReason) : State :=
  match s.entry t with
  | none => s
  | some e =>
    if e.scrap ≠ none then s
    else if e.phase = .committed ∨ e.phase = .atKnife then (s.spoiled e reason).converted t
    else s.spoiled e reason

/-! ### Words of the statements: the hold stack and the line -/

/-- The number that follows n on a stack (R124): n advanced by 1, from 255 to 1, and on past the numbers of its records. -/
def numberFollowing (n : Nat) (stack : List HoldRecord) : Option Nat :=
  ((List.range (stack.length + 1)).map (fun k => (n + k) % 255 + 1)).find? (fun m => stack.all (fun r => r.number ≠ m))

/-- A record as a push in state s makes it (R123, R124). -/
def pushedRecord (s : State) (owner : HoldOwner) (reason : HoldReason) (detail : FaultDetail) : HoldRecord :=
  { tag := .active, number := s.hold.nextNumber, owner := owner, reason := reason, odometer := s.tracker.odometer,
    lineBefore := s.line.state, speedBefore := s.line.setSpeed, detail := detail, repeats := 0 }

/-- The Hold Unit of t is that of s after a push of the record (R122, R124); the overflow flag stays. -/
def PushTaken (r : HoldRecord) (s t : State) : Prop :=
  t.hold.stack = r :: s.hold.stack ∧ t.hold.overflow = s.hold.overflow ∧
    (s.hold.nextNumber ≤ 255 → some t.hold.nextNumber = numberFollowing s.hold.nextNumber t.hold.stack)

/-- The Hold Unit of t is that of s after a fault hold request (R126). -/
def FaultTaken (reason : HoldReason) (detail : FaultDetail) (s t : State) : Prop :=
  match s.hold.stack with
  | r :: rest =>
    if r.owner = .line ∧ r.reason = reason then
      t.hold = { s.hold with stack := { r with repeats := min 255 (r.repeats + 1) } :: rest }
    else if rest.length < 3 then PushTaken (pushedRecord s .line reason detail) s t
    else t.hold = { s.hold with overflow := true }
  | [] => PushTaken (pushedRecord s .line reason detail) s t

/-- The target speed (R148): in RUN the larger of S × r / 100 and the smaller of S and Vmin, else 0. -/
def speedGoal (state : LineState) (set ratio minimum : Nat) : Nat :=
  if state = .run then max (set * ratio / 100) (min set minimum) else 0

/-- Line Control with a new commanded speed and target, and the ramp timer that goes with them (R149). -/
def LineControl.steered (k : LineControl) (commanded target : Nat) : LineControl :=
  { k with
    commanded := commanded, target := target
    rampTimer := if commanded = target then none else if k.commanded = k.target then some 5 else k.rampTimer }

/-- The line of t is that of s after a stack that is not empty has been reported (R140): only RUN is left, for HALTING, and
for HELD where the commanded speed is 0, with the target 0 and the ratio in use read again (R148, R149). -/
def HaltTaken (s t : State) : Prop :=
  t.line =
    if s.line.state = .run then
      { s.line with
        state := if s.line.commanded = 0 then .held else .halting
        ratio := s.ratioAtNip }.steered s.line.commanded 0
    else s.line

/-- A fault hold request with its reports (R126, R135, R140): the Hold Unit, the line and the notices change, nothing else;
HOLD_ACTIVE is true and FAULT_HOLD, notice 17, is raised. -/
def FaultReported (reason : HoldReason) (detail : FaultDetail) (s t : State) : Prop :=
  t = { s with hold := t.hold, line := t.line, notices := t.notices } ∧ FaultTaken reason detail s t ∧ HaltTaken s t ∧
    t.level .holdActive = true ∧ s.Latched t 17

/-- SPEED_REACHED, notice 20, is raised when commanded speed and target become equal after having differed (R150). -/
def speedNotices (s : State) (commanded target : Nat) : NoticeUnit :=
  if s.line.commanded ≠ s.line.target ∧ commanded = target then s.notices.took 20 else s.notices

/-- The line carries its set speed, its minimum and the ratio at the nip into a new target (R148 to R150). -/
def State.steered (s : State) : State :=
  let k := { s.line with ratio := s.ratioAtNip }
  let goal := speedGoal k.state k.setSpeed k.ratio k.minSpeed
  { s with line := k.steered k.commanded goal, notices := speedNotices s k.commanded goal }

/-! ### Words of the statements: the nip and the film -/

/-- The nip state a class calls for (R81). -/
def callsFor : LamClass → NipState
  | .film => .closed
  | .bare => .opened

/-- The entry whose gap is open at the nip (R82): AHEAD itself, with a PAST entry or none before it. -/
def gapAfter : Option Progress → List MapEntry → Option MapEntry
  | _, [] => none
  | before, e :: es =>
    if (before = none ∨ before = some .past) ∧ e.nip = .ahead then some e else gapAfter (some e.nip) es

def State.atGap (s : State) : Option MapEntry := gapAfter none s.map.entries

/-- An operation asked of the LAM link (R93): taken by a link ACTIVE without an operation, and else nothing. A SPLICE carries
the final nip state, CLOSED as 1 (R169). -/
def State.askedNip (s : State) (kind : OpKind) (final : NipState) (target : Option Target) : State :=
  let k := s.link .lam
  if k.state = .active ∧ k.op = none then
    { s with
      links := s.links.set .lam
        (k.given kind (if kind = .splice then [if final = .closed then 1 else 0] else []) target)
      lam := { s.lam with op := some { kind := kind, final := final, target := target } } }
  else s

/-- The transition decision (R92): nothing with an operation in flight, else the first case of the table that applies. -/
def State.decided (s : State) : State :=
  if s.lam.op ≠ none then s
  else if s.lam.nip = .closed ∧ s.lam.remaining = 0 then s.askedNip .nipOpen .opened (s.atGap.map MapEntry.target)
  else
    match s.atGap with
    | none => s
    | some x =>
      if s.lam.request = .placed x.target then s.askedNip .splice (callsFor x.cls) (some x.target)
      else if callsFor x.cls ≠ s.lam.nip ∧ ¬ (x.cls = .film ∧ s.lam.remaining = 0) then
        s.askedNip (if callsFor x.cls = .closed then .nipClose else .nipOpen) (callsFor x.cls) (some x.target)
      else s

/-- The entry at the nip, the oldest that is IN (R82). -/
def State.nipEntry (s : State) : Option Target := (s.map.entries.find? (fun e => e.nip = .inside)).map MapEntry.target

/-- Line Control is given the entry at the nip where it has changed, and reads its ratio (R82, R148). -/
def State.nipTold (s : State) : State :=
  if s.line.atNip = s.nipEntry then s else ({ s with line := { s.line with atNip := s.nipEntry } } : State).steered

/-- The entries with the gap before each (R32): from the tail of the entry before it, for the first from its tail before. -/
def gapsAfter : Option MapEntry → List MapEntry → List EntryView
  | _, [] => []
  | before, e :: es =>
    { entry := e, gap := e.head - (match before with | some b => b.head + b.length | none => e.tailBefore) } ::
      gapsAfter (some e) es

def State.gapped (s : State) : List EntryView := gapsAfter none s.map.entries

/-- The splice search (R89): for a request WANTED, the first gap that is long enough, of an entry AHEAD without a splice gap,
takes the splice, with the decision at once where it is open at the nip; with none a reservation is posted, unless one is
pending, and GAP_WANTED, notice 15, raised. -/
def State.searched (s : State) : State :=
  if s.lam.request = .wanted then
    match s.gapped.find? (fun v => s.lam.spliceGap ≤ v.gap ∧ v.entry.nip = .ahead ∧ v.entry.spliceGap = false) with
    | some v =>
      let u : State := { s.changed v.entry.target (fun e => { e with spliceGap := true }) with
        lam := { s.lam with request := .placed v.entry.target, reservation := none } }
      if u.atGap.map MapEntry.target = some v.entry.target then u.decided else u
    | none =>
      if s.lam.reservation ≠ none then s
      else ({ s with lam := { s.lam with reservation := some s.lam.spliceGap } } : State).noticed 15
  else s

/-- The splice request becomes WANTED, and the search runs. -/
def State.wanting (s : State) : State := ({ s with lam := { s.lam with request := .wanted } } : State).searched

/-- FILM_LOW, level 3, and the automatic splice condition evaluated (R84). -/
def State.filmChecked (s : State) : State :=
  let u := s.passed 3 (decide (s.lam.remaining ≤ s.lam.filmLow))
  if s.lam.remaining ≤ s.lam.filmLow ∧ s.lam.standby ≠ none ∧ s.lam.request = .idle then u.wanting else u

/-- Laminator Control's operation completed (R94). A SPLICE is in flight only with a standby reel present (log 18). -/
def State.lamCompleted (s : State) : State :=
  match s.lam.op with
  | none => s
  | some o =>
    let n := s.lam.standby.getD s.lam.remaining
    if o.kind = .splice then
      ({ s with lam := { s.lam with
          nip := o.final, op := none, reelLength := n, remaining := n, standby := none, request := .idle } } :
        State).filmChecked.decided
    else ({ s with lam := { s.lam with nip := o.final, op := none } } : State).decided

/-- Laminator Control's operation failed (R95): a SPLICE is WANTED again. -/
def State.lamFailed (s : State) : State :=
  match s.lam.op with
  | none => s
  | some o =>
    let u : State := { s with lam := { s.lam with op := none } }
    (if o.kind = .splice then u.wanting else u).decided

/-- Laminator Control told that the entry has left the map (R91, R82): a target forgotten, a request PLACED on it WANTED again
but under a SPLICE in flight; the search runs for a withdrawal, and where the request came back (log 16); then the decision
where a gap is open at the nip. -/
def State.lamFreed (s : State) (t : Target) (withdrawn : Bool) : State :=
  let splicing := s.lam.op.any (fun o => o.kind = .splice)
  let back : Bool := s.lam.request = .placed t ∧ splicing = false
  let u := State.nipTold { s with lam := { s.lam with
    op := s.lam.op.map (fun o => if o.target = some t then { o with target := none } else o)
    request := if back then .wanted else s.lam.request } }
  let v := if withdrawn ∨ back then u.searched else u
  if v.atGap ≠ none then v.decided else v

/-- An entry at the nip checked (R96): the first line that applies claims its scrap, the third with the request WANTED again. -/
def State.nipChecked (s : State) (e : MapEntry) : State :=
  if e.cls = .film ∧ s.lam.remaining = 0 then s.claimed e.target .filmOut
  else if s.lam.op.any (fun o => o.target = some e.target) then s.claimed e.target .lamLate
  else if s.lam.request = .placed e.target then (s.claimed e.target .lamLate).wanting
  else if s.lam.nip ≠ callsFor e.cls then s.claimed e.target .lamLate
  else s

/-- The head and the tail at the nip (R82, R96, R97). -/
def State.headAtNip (s : State) (t : Target) : State :=
  match s.entry t with
  | none => s
  | some e => ((s.changed t (fun x => { x with nip := .inside })).nipTold).nipChecked e

def State.tailAtNip (s : State) (t : Target) : State := (s.changed t (fun e => { e with nip := .past })).nipTold.decided

/-- A film count, with the level and the splice condition evaluated (R83, R84). -/
def State.filmCounted (s : State) : State :=
  State.filmChecked { s with lam := { s.lam with remaining := s.lam.remaining - 1 } }

/-- The film out of R98 up to its hold: the panels at the nip claimed, the older first, then the fault hold request. -/
def FilmRanOut (s h : State) : Prop :=
  let u := s.filmCounted
  let inside := (u.map.entries.filter (fun e => e.nip = .inside)).map MapEntry.target
  FaultReported .filmOut { panel := inside.head?, link := none } (inside.foldl (fun v t => v.claimed t .filmOut) u) h

/-! ### Words of the statements: retirement, cuts and expansion -/

/-- NEAR_FULL, level 4, and QUEUE_LOW, level 5, evaluated (R41, R42). -/
def State.mapLevels (s : State) : State :=
  (s.passed 4 (decide (s.map.high ≤ s.map.entries.length))).passed 5
    (decide (s.map.entries.countP (fun e => e.phase = .queued) ≤ s.map.low))

/-- The plan's reference count one lower (R48). -/
def State.unreferenced (s : State) (plan : Nat) : State :=
  { s with plans := { s.plans with
      plans := s.plans.plans.map (fun q => if q.number = plan then { q with refs := q.refs - 1 } else q) } }

/-- Cut Control told that the entry has left the map (R103): its ISSUED slit entry leaves the queue, and its move goes on. -/
def State.cutFreed (s : State) (t : Target) : State :=
  match s.cut.slit with
  | [] => s
  | x :: rest =>
    if x.issued = true ∧ x.owner = t then
      { s with cut := { s.cut with
          slit := rest, moveFlight := s.cut.moveFlight.map (fun m => { m with owner := none }), current := .unknown } }
    else s

/-- The entry retired (R30, R37): its outcome record appended, or lost with OUTCOME_LOST (14); the entry removed, Laminator and
Cut Control told; the plan's count; PANEL_RETIRED (10); the levels. -/
def State.retired (s : State) (t : Target) : State :=
  match s.entry t with
  | none => s
  | some e =>
    let record : OutcomeRecord :=
      { panel := e.panel, plan := e.plan, reason := e.scrap, regResult := e.regResult, cutsMade := e.cutsMade }
    let room : Bool := s.map.outcomes.length < 32
    let u : State := { s with
      map := { s.map with
        entries := s.map.entries.eraseP (fun x => x.slot = t.slot ∧ x.panel = t.panel)
        outcomes := if room then s.map.outcomes ++ [record] else s.map.outcomes }
      notices := if room then s.notices else s.notices.took 14 }
    ((((u.lamFreed t false).cutFreed t).unreferenced e.plan).noticed 10).mapLevels

/-- A cut of the panel resolved, by the completion of a CUT where `made` (R29): cuts pending falls, and with none left an entry
whose tail has cleared is retired. -/
def State.cutResolved (s : State) (t : Target) (made : Bool) : State :=
  let u := s.changed t (fun e =>
    { e with cutsPending := e.cutsPending - 1, cutsMade := if made then e.cutsMade + 1 else e.cutsMade })
  if ∃ e ∈ u.entry t, e.tailCleared = true ∧ e.cutsPending = 0 then u.retired t else u

/-- The front cut entry reached: issued to an XCUT link ACTIVE without an operation (R107), else missed (R108): CUT_MISSED, the
claim of a CUT entry, the report. -/
def State.cutReached (s : State) (c : CutEntry) (rest : List CutEntry) : State :=
  let k := s.link .xcut
  if k.state = .active ∧ k.op = none then
    { s with
      cut := { s.cut with xcut := rest, cutFlight := some c }
      links := s.links.set .xcut (k.given .cut [if c.kind = .waste then 1 else 0] (some c.owner)) }
  else
    let u := ({ s with cut := { s.cut with xcut := rest } } : State).noticed 21
    (if c.kind = .cut then u.claimed c.owner .cutMissed else u).cutResolved c.owner false

/-- The cut in flight completed (R109) and failed (R110). -/
def State.cutCompleted (s : State) : State :=
  match s.cut.cutFlight with
  | none => s
  | some c => State.cutResolved { s with cut := { s.cut with cutFlight := none } } c.owner (c.kind = .cut)

def State.cutFailed (s : State) : State :=
  match s.cut.cutFlight with
  | none => s
  | some c =>
    let u : State := { s with cut := { s.cut with cutFlight := none } }
    (if c.kind = .cut then u.claimed c.owner .stationFail else u).cutResolved c.owner false

/-- The move in flight completed (R115): the set is its set, the ISSUED entry, which only the front can be (R103), leaves the
queue, and the next is attempted. -/
def State.moveCompleted (s : State) : State :=
  match s.cut.moveFlight with
  | none => s
  | some m => State.slitIssued { s with cut := { s.cut with
      slit := match s.cut.slit with
        | x :: rest => if x.issued then rest else x :: rest
        | [] => []
      moveFlight := none, current := .known m.lanes } }

/-- The move in flight failed (R117): the set is UNKNOWN and the entry UNISSUED; an owner still in the map is scrapped with
STATION_FAIL and the entry disposed of; an attempt follows. -/
def State.moveFailed (s : State) : State :=
  match s.cut.moveFlight with
  | none => s
  | some m =>
    let u : State := { s with cut := { s.cut with
      slit := s.cut.slit.map (fun x => { x with issued := false }), moveFlight := none, current := .unknown } }
    match m.owner with
    | none => u.slitIssued
    | some t => ((u.claimed t .stationFail).disposedOf t).slitIssued

/-- Insertion into the XCUT queue in ascending position, after an equal one (R61). -/
def cutInserted (c : CutEntry) (queue : List CutEntry) : List CutEntry :=
  queue.takeWhile (fun x => x.position ≤ c.position) ++ c :: queue.dropWhile (fun x => x.position ≤ c.position)

/-- Insertion into the SLIT queue by deadline in the same way (R61). -/
def slitInserted (x : SlitEntry) (queue : List SlitEntry) : List SlitEntry :=
  queue.takeWhile (fun y => y.deadline ≤ x.deadline) ++ x :: queue.dropWhile (fun y => y.deadline ≤ x.deadline)

/-- A waste cut of the entry at nominal position n, made where the XCUT queue has room (R56). -/
def State.wasteCut (s : State) (e : MapEntry) (n : Nat) (step : CutStep) : State :=
  if s.cut.xcut.length < 24 then
    let c : CutEntry :=
      { position := ((n + s.tracker.zones.knife : Nat) + e.offset : Int).toNat, owner := e.target, step := step, kind := .waste }
    State.changed { s with cut := { s.cut with xcut := cutInserted c s.cut.xcut } } e.target
      (fun x => { x with cutsPending := x.cutsPending + 1 })
  else s

/-- The two waste cuts of a scrapped panel, head before tail (R56). -/
def State.wasteMade (s : State) (e : MapEntry) : State :=
  (s.wasteCut e e.head .wasteHead).wasteCut e (e.head + e.length) .wasteTail

/-- The CUT entries of an entry's cut list, the k-th at effective head + offset + D_knife (R58). -/
def plannedCuts (s : State) (e : MapEntry) (cuts : List Nat) : List CutEntry :=
  cuts.mapIdx (fun i o =>
    { position := ((e.head + o + s.tracker.zones.knife : Nat) + e.offset : Int).toNat
      owner := { slot := e.slot, panel := e.panel }, step := .offset (i + 1), kind := .cut })

/-- The reference set of R59: that of the last slit entry, or the current set. -/
def CutControl.slitReference (c : CutControl) : SlitterSet :=
  match c.slit.getLast? with
  | some x => .known x.lanes
  | none => c.current

/-- Normal expansion (R58, R59, R61): the cuts in the XCUT queue and counted pending, a needed slit entry queued and attempted. -/
def State.expandedNormally (s : State) (e : MapEntry) (q : Plan) : State :=
  let u : State := State.changed
    { s with cut := { s.cut with xcut := (plannedCuts s e q.cuts).foldl (fun queue c => cutInserted c queue) s.cut.xcut } }
    e.target (fun x => { x with cutsPending := x.cutsPending + q.cuts.length })
  if s.cut.slitReference = .known q.slits then u
  else
    let x : SlitEntry :=
      { owner := e.target, deadline := ((e.head + s.tracker.zones.slit : Nat) + e.offset : Int).toNat, lanes := q.slits
        issued := false }
    State.slitIssued { u with cut := { u.cut with slit := slitInserted x s.cut.slit } }

/-- Commit expansion by R55's cases: PLAN_UNDERRUN (R56), PLAN_MISMATCH (R57), QUEUE_FULL (R60), or normal. -/
def State.expandedBy (s : State) (e : MapEntry) (q : Plan) : State :=
  if q.state = .opened then (s.claimed e.target .planUnderrun).wasteMade e
  else if ∃ o ∈ q.cuts, e.length < o then (s.claimed e.target .planMismatch).wasteMade e
  else if 24 < s.cut.xcut.length + q.cuts.length ∨ (s.cut.slitReference ≠ .known q.slits ∧ 6 ≤ s.cut.slit.length) then
    (s.claimed e.target .queueFull).wasteMade e
  else s.expandedNormally e q

/-! ### Words of the statements: links -/

/-- A link that enters PARKING (R165), with its LINK_UP level. -/
def Link.parked (k : Link) : Link :=
  { k with state := .parking, armTimer := none, flywheel := none, parkTimer := some 40 }

/-- The link replaced and its LINK_UP level, 5 + its number, passed; the link is not DOWN (R168, R192). -/
def State.linked (s : State) (l : LinkId) (k : Link) : State :=
  { s with links := s.links.set l k, notices := s.notices.passed (5 + linkNumber l) (decide (k.state = .active)) }

/-- An owed park served when an operation has been resolved (R147): the order becomes NONE, and a link still up parks. -/
def State.parkServed (s : State) (l : LinkId) : State :=
  if s.line.owed.get l = .park then
    let u : State := { s with line := { s.line with owed := s.line.owed.set l .nothing } }
    if (s.link l).state = .active ∨ (s.link l).state = .slipped then u.linked l (s.link l).parked else u
  else s

/-- The completion and the failure of a link's operation, as the block that asked for it takes them (R94, R109, R115; R95, R110,
R117). FEED carries no operation (R169). -/
def State.completedAt (s : State) : LinkId → State
  | .feed => s
  | .lam => s.lamCompleted
  | .slit => s.moveCompleted
  | .xcut => s.cutCompleted

def State.failedAt (s : State) : LinkId → State
  | .feed => s
  | .lam => s.lamFailed
  | .slit => s.moveFailed
  | .xcut => s.cutFailed

/-- The state t in which the fault has been reported goes on, where an operation was in flight, to its failure: to Line Control
first, then to its asker (R164, R171). -/
def State.failing (t : State) (l : LinkId) (op : Option LinkOp) : State :=
  if op = none then t else (t.parkServed l).failedAt l

/-- The order of R143 and R146 for one link as the line comes to rest: it parks, or owes its park. -/
def State.restOrdered (s : State) (l : LinkId) : State :=
  let k := s.link l
  if k.state = .armed ∨ ((k.state = .active ∨ k.state = .slipped) ∧ k.op = none) then s.linked l k.parked
  else if k.state = .active ∨ k.state = .slipped then { s with line := { s.line with owed := s.line.owed.set l .park } }
  else s

/-- Line Control in ARMING goes on arming as link l becomes ACTIVE (R142): after the go another link is not ACTIVE, before it another
is not up yet. -/
abbrev State.ArmsOn (s : State) (l : LinkId) : Prop :=
  s.line.state = .arming ∧
    if s.line.go then ∃ m, m ≠ l ∧ (s.link m).state ≠ .active
    else ∃ m, m ≠ l ∧ (s.link m).state ≠ .armed ∧ (s.link m).state ≠ .active ∧ (s.link m).state ≠ .slipped

/-- A start that fails (R143, R153): STOPPED, the go flag clear, no wake owed, every link ordered to rest, LINE_START_FAILED (19)
raised and LINE_STATE, level 0, false. -/
def State.startFailed (s : State) : State :=
  let rest : State := { s with line := { s.line with
    state := .stopped, go := false, owed := s.line.owed.map (fun o => if o = .wake then .nothing else o) } }
  let parked := [LinkId.feed, .lam, .slit, .xcut].foldl State.restOrdered rest
  ((parked.noticed 19).passed 0 false).steered

/-! ### Words of the statements: the web -/

/-- A SYNC point of the map stands at odometer value o (R13). -/
def State.SyncAt (s : State) (o : Nat) : Prop :=
  ∃ e ∈ s.map.entries, (s.tracker.syncMode ≠ .off ∧ e.head = o + s.tracker.syncLead) ∨
    (s.tracker.syncMode = .headTail ∧ e.head + e.length = o + s.tracker.syncLead)

/-- The SYNC output's pulse timer once the web stands at odometer value o: 1 ms anew where a SYNC point is met (R14). -/
def State.pulseAt (s : State) (o : Nat) (pulse : Timer) : Prop :=
  (s.SyncAt o → pulse = some 1) ∧ (¬ s.SyncAt o → pulse = s.tracker.syncPulse)

/-- The state as the web arrives at the next odometer value, with the pulse timer given, before any crossing is taken. -/
def State.arriving (s : State) (pulse : Timer) : State :=
  { s with tracker := { s.tracker with odometer := s.tracker.odometer + 1, syncPulse := pulse } }

/-- The step is an advance below the odometer's top, on which it takes the items given, and nothing else. `a` is the state in
which the first of them is taken, the counter of the free values having moved once (log 3); it moves once more before each
further one. -/
structure Meets (due : List Due) (s a : State) : Prop where
  advance : s.tracker.debt = 0 ∧ s.tracker.odometer + 1 < 4294967295
  arrival : ∃ pulse, s.pulseAt (s.tracker.odometer + 1) pulse ∧
    a = { s.arriving pulse with freeTick := s.freeTick + 1 }
  due : a.stepDue = due

/-- Some window crossing of the advance that led to s is left to a mark right behind the step (R66, log 25, the model's choice). -/
abbrev State.LeftToAMark (s : State) : Prop := s.pending.head? = some .mark ∧ s.windowsDue ≠ []

/-- The advance is over, its last crossing having led to s (R3): at the odometer's top the ODOMETER hold is requested, below it n is
s. -/
def AdvanceOver (s n : State) : Prop :=
  if s.tracker.odometer = 4294967295 then FaultReported .odometer noDetail s n else n = s

/-- The port after the settled reads waiting on entry e have been completed (R77). -/
def Port.settledBy (k : Port) (v : EntryView) : Port :=
  if k.settled = .waiting { slot := v.entry.slot, panel := v.entry.panel } then
    { k with
      settled := .ready v
      result := { code := 0x54, outcome := .ok, value := BitVec.ofNat 32 v.entry.slot, slot := none } }
  else k

end Sys2Proof.Machine

open Sys2Proof Sys2Proof.Machine

/-! ### Steps and resets -/

/-- A step takes the command at the front of the queue and leaves the rest; on an empty queue the part idles (log 17). -/
def Obligations.StepTakesTheFrontCommand : Prop :=
  (∀ (c : Instr) (rest : List Instr) (s : State),
    step { s with pending := c :: rest } = exec c { s with pending := rest }) ∧
  ∀ s : State, s.pending = [] → step s = .next s

/-- No command stops the part: the manual gives no behaviour that would (log 21, DEDUCED). None touches the queue of commands
waiting, HARDWARE_RESET among them (log 17, the model's choice). -/
def Obligations.EveryCommandAnswersNextAndKeepsTheQueue : Prop :=
  ∀ (c : Instr) (s : State), ∃ t, exec c s = .next t ∧ t.pending = s.pending

/-- The values after hardware reset that the rules give (R4, R5, R11, R16, R19, R35, R37, R41, R42, R45, R47, R63, R71, R75, R81,
R101, R119, R122, R124, R132, R139, R157, R158, R181, R182, R186, R191, R196). -/
def Sys2Proof.Machine.ResetValuesAreTheRules : Prop :=
  State.reset.tracker =
    { odometer := 0, debt := 0, zones := { mark := 2500, nip := 6000, commit := 7000, slit := 8000, knife := 9500 },
      syncMode := .off, syncLead := 0, syncPulse := none } ∧
  State.reset.map =
    { entries := [], lastTail := 0, lastClass := .bare, reprints := [], outcomes := [], high := 40, low := 4 } ∧
  State.reset.plans = { plans := [], spacing := 100 } ∧
  State.reset.reg = { halfWidth := 40, tolerance := 2, lock := .seeking, unreadRun := 0 } ∧
  State.reset.lam =
    { nip := .opened, op := none, reelLength := 0, remaining := 0, standby := none, request := .idle,
      reservation := none, filmLow := 20000, transitionGap := 300, spliceGap := 500 } ∧
  State.reset.cut = { xcut := [], slit := [], cutFlight := none, moveFlight := none, current := .known [] } ∧
  (∀ l, let k := State.reset.link l
    k.state = .down ∧ k.goGiven = false ∧ k.wakeTimer = none ∧ k.armTimer = none ∧ k.flywheel = none ∧
      k.parkTimer = none ∧ k.faults = 0 ∧ k.op = none ∧ k.nextTag = 1 ∧ k.lastSeen = none ∧ k.faultReport = 0 ∧
      k.testCount = 0 ∧ k.errorCount = 0 ∧ k.overflow = false) ∧
  (let k := State.reset.line
   k.state = .stopped ∧ k.setSpeed = 0 ∧ k.minSpeed = 150 ∧ k.target = 0 ∧ k.commanded = 0 ∧ k.ratio = 100 ∧
     k.atNip = none ∧ k.go = false ∧ k.owed = { feed := .nothing, lam := .nothing, slit := .nothing, xcut := .nothing }) ∧
  State.reset.hold = { stack := [], nextNumber := 1, overflow := false } ∧
  (∀ p, let k := State.reset.port p
    k.result = { code := 0, outcome := .ok, value := 0, slot := none } ∧ k.errorCount = 0 ∧ k.overflow = false ∧
      k.settled = .empty) ∧
  State.reset.busy = none ∧
  ∀ p, State.reset.notices.copies.get p =
    { latched := 0, mask := BitVec.allOnes 25, latchMasked := false, attn := false }

/-- HARDWARE_RESET brings back the reset values, with select and the emergency-stop input as the pins stand (log 8) and the
queue and the free values' counter, the model's own, as they were (log 17). A port selected at reset ignores all until the
release (R188). The records of frames that State.reset holds, and so those a hardware reset leaves, are log 15's choice. -/
def Sys2Proof.Machine.HardwareResetBringsThemBack : Prop :=
  ∀ s : State, ∃ t, exec .hardwareReset s = .next t ∧
    t = { State.reset with
      line := { State.reset.line with estop := s.line.estop }, ports := t.ports, freeTick := s.freeTick,
      pending := s.pending } ∧
    ∀ p, t.port p = { State.reset.port p with
      transaction := if (s.port p).transaction = .inactive then .inactive else .ignored }

/-- The values after hardware reset, and the row that brings them back. -/
def Obligations.HardwareResetRestoresTheResetState : Prop := ResetValuesAreTheRules ∧ HardwareResetBringsThemBack

/-! ### The web -/

/-- The lock state and unread run after an UNREAD (R72). -/
def Sys2Proof.Machine.unreadLock : LockState → Nat → LockState × Nat
  | .seeking, 0 => (.seeking, 1)
  | .seeking, _ => (.lost, 2)
  | .locked, _ => (.slipping, 1)
  | .slipping, _ => (.lost, 2)
  | .lost, _ => (.lost, 2)

/-- A window that closes without a mark takes state a to t (R68): UNREAD, with a scrap under policy REQUIRED, the lock state
moved as R72 says, REG_LOST pushed on the move into LOST (R73), and the settled reads waiting on the entry completed (R77). -/
def Sys2Proof.Machine.ClosedUnread (e : MapEntry) (a t : State) : Prop :=
  ∃ x, t.entry e.target = some x ∧
    x = { e with
      window := e.window.map (fun w => { w with status := .resolved }), regResult := some .unread, offset := 0
      scrap := if e.policy = .required then e.scrap.or (some .regUnread) else e.scrap } ∧
    (t.reg.lock, t.reg.unreadRun) = unreadLock a.reg.lock a.reg.unreadRun ∧
    (a.reg.lock ≠ .lost → t.reg.lock = .lost →
      FaultTaken .regLost { panel := some e.target, link := none } a t ∧ HaltTaken a t ∧ a.Latched t 17) ∧
    (a.reg.lock = .lost ∨ t.reg.lock ≠ .lost → t.hold = a.hold ∧ t.line = a.line) ∧
    (∃ v ∈ t.gapped, v.entry = x ∧ ∀ p, t.port p = (a.port p).settledBy v) ∧
    t = { a with
      map := t.map, reg := t.reg, cut := t.cut, links := t.links, hold := t.hold, line := t.line, ports := t.ports,
      notices := t.notices }

/-- Encoder steps that move no odometer: a reverse step builds debt up to 500 and then pushes WEB_REVERSE (R2); a forward
step pays debt (R1); at the odometer's top it is discarded and pushes ODOMETER (R3). -/
def Sys2Proof.Machine.DebtAndTheOdometersTop : Prop :=
  ∀ s : State,
    (s.tracker.debt < 500 →
      exec .encoderReverseStep s = .next { s with tracker := { s.tracker with debt := s.tracker.debt + 1 } }) ∧
    (500 ≤ s.tracker.debt → ∃ t, exec .encoderReverseStep s = .next t ∧ FaultReported .webReverse noDetail s t) ∧
    (0 < s.tracker.debt →
      exec .encoderForwardStep s = .next { s with tracker := { s.tracker with debt := s.tracker.debt - 1 } }) ∧
    (s.tracker.debt = 0 → 4294967295 ≤ s.tracker.odometer →
      ∃ t, exec .encoderForwardStep s = .next t ∧ FaultReported .odometer noDetail s t)

/-- An advance on which nothing is due moves the odometer by 1 and gives a SYNC pulse where a SYNC point is met; the one
that reaches the top pushes ODOMETER, unless crossings are left to a mark right behind it (R1, R3, R14, log 25). -/
def Sys2Proof.Machine.QuietAdvanceMovesTheOdometer : Prop :=
  ∀ (s : State) (pulse : Timer), s.tracker.debt = 0 → s.tracker.odometer < 4294967295 →
    s.pulseAt (s.tracker.odometer + 1) pulse → (s.arriving pulse).stepDue = [] →
    (s.tracker.odometer + 1 < 4294967295 ∨ (s.arriving pulse).LeftToAMark →
      exec .encoderForwardStep s = .next (s.arriving pulse)) ∧
    (s.tracker.odometer + 1 = 4294967295 → ¬ (s.arriving pulse).LeftToAMark →
      ∃ t, exec .encoderForwardStep s = .next t ∧ FaultReported .odometer noDetail (s.arriving pulse) t)

/-- Any advance moves the odometer by 1, gives its SYNC pulse, and takes what is due, each item once and each owner's items in
their order, the owners interleaved in an order that R9 leaves open (log 3); the one that reaches the top then pushes ODOMETER,
but where crossings are left to a mark right behind it, which then ends the advance (R1, R3, R9, R10, R14, log 25). -/
def Sys2Proof.Machine.AdvancesTakeWhatIsDue : Prop :=
  ∀ (s : State) (pulse : Timer), s.tracker.debt = 0 → s.tracker.odometer < 4294967295 →
    s.pulseAt (s.tracker.odometer + 1) pulse → ∃ order : List Due,
      (∀ o : Owner, order.filter (fun d => d.owner = o) = (s.arriving pulse).stepDue.filter (fun d => d.owner = o)) ∧
      let t := order.foldl (fun u d => takeDue d { u with freeTick := u.freeTick + 1 }) (s.arriving pulse)
      (t.LeftToAMark → exec .encoderForwardStep s = .next t) ∧
      (¬ t.LeftToAMark → ∃ n, exec .encoderForwardStep s = .next n ∧ AdvanceOver t n)

/-- What each item due does when it is taken, alone or among the others of its advance (R25 to R28, R55, R68, R83, R96 to R98, R105,
R107, R108, R116); one that an earlier item has ended does nothing. -/
def Sys2Proof.Machine.DueItemsHaveTheirEffect : Prop :=
  ∀ (s : State) (t : Target),
    let due (p : Point) : Prop := Due.point t p ∈ s.due
    let after (p : Point) : State := takeDue (.point t p) s
    (due .printLine →
      let u := s.changed t (fun e => { e with phase := .onWeb })
      after .printLine = u.passed 5 (decide (u.map.entries.countP (fun e => e.phase = .queued) ≤ u.map.low))) ∧
    (due .knifeHead → after .knifeHead = s.changed t (fun e => { e with phase := .atKnife })) ∧
    (due .windowOpen → after .windowOpen =
      s.changed t (fun e => { e with window := e.window.map (fun w => { w with status := .opened }) })) ∧
    (due .slitHead → after .slitHead = s.changed t (fun e => { e with slitter := .inside })) ∧
    (due .slitTail → after .slitTail = (s.changed t (fun e => { e with slitter := .past })).slitIssued) ∧
    (due .deadline → after .deadline = s.claimed t .slitLate) ∧
    (due .nipHead → after .nipHead = s.headAtNip t) ∧
    (due .nipTail → after .nipTail = s.tailAtNip t) ∧
    (∀ c rest, s.cut.xcut = c :: rest → c.position = s.tracker.odometer → due .cutPosition →
      after .cutPosition = s.cutReached c rest) ∧
    (∀ e, s.entry t = some e →
      (∀ p, ¬ due p → after p = s) ∧
      (due .windowClose → ClosedUnread e s (after .windowClose)) ∧
      (due .knifeTail → after .knifeTail =
        let u := s.changed t (fun x => { x with tailCleared := true })
        if e.cutsPending = 0 then u.retired t else u) ∧
      ∀ q, s.plan e.plan = some q → due .commit → after .commit =
        let u := (s.changed t (fun x => { x with phase := .committed })).expandedBy e q
        if e.scrap = none then u else u.converted t) ∧
    (Due.film ∈ s.due → s.lam.nip = .closed ∧ 0 < s.lam.remaining ∧
      (1 < s.lam.remaining → takeDue .film s = s.filmCounted) ∧
      (s.lam.remaining = 1 → ∃ h, FilmRanOut s h ∧ takeDue .film s = h.decided))

/-- Encoder steps: debt, the odometer's top, an advance on which nothing is due, any advance, and what each item due does. -/
def Obligations.EncoderStepsMoveTheWeb : Prop :=
  DebtAndTheOdometersTop ∧ QuietAdvanceMovesTheOdometer ∧ AdvancesTakeWhatIsDue ∧ DueItemsHaveTheirEffect

/-- An encoder step takes all that is due, but the window crossings where a MARK row waits right behind it: which of a mark and
a window crossing at one odometer value is taken first is open (R66), and they are left to that row (log 25, the model's
choice). -/
def Sys2Proof.Machine.StepsLeaveWindowsToAMark : Prop :=
  ∀ s : State,
    let window (d : Due) : Bool := match d with | .point _ .windowOpen => true | .point _ .windowClose => true | _ => false
    s.windowsDue = s.due.filter window ∧
    s.stepDue = if s.pending.head? = some .mark then s.due.filter (fun d => ! window d) else s.due

/-- What is due stands at the crossing values of R7's table, as long as the point is kept. The premises hold in every state
a run reaches: they keep R7's sums from falling below 0. -/
def Sys2Proof.Machine.CrossingsFollowTheTable : Prop :=
  ∀ (s : State) (e : MapEntry), NamesApart s.map → e ∈ s.map.entries → -100 ≤ e.offset →
    (∀ w ∈ e.window, w.halfWidth ≤ w.expected) → 100 ≤ s.tracker.zones.nip → 100 ≤ s.tracker.zones.commit →
    100 ≤ s.tracker.zones.slit → 100 ≤ s.tracker.zones.knife →
    let o : Int := s.tracker.odometer
    let z := s.tracker.zones
    let due := fun p => Due.point e.target p ∈ s.due
    let head : Int := e.head + e.offset
    let tail : Int := e.head + e.length + e.offset
    (due .printLine ↔ e.phase = .queued ∧ o = e.head) ∧
    (due .windowOpen ↔ ∃ w ∈ e.window, w.status = .notOpen ∧ o = w.expected - w.halfWidth) ∧
    (due .windowClose ↔ ∃ w ∈ e.window, w.status = .opened ∧ o = w.expected + w.halfWidth) ∧
    (due .nipHead ↔ e.nip = .ahead ∧ o = head + z.nip) ∧
    (due .nipTail ↔ e.nip ≠ .past ∧ o = tail + z.nip) ∧
    (due .commit ↔ e.phase = .onWeb ∧ o = head + z.commit) ∧
    (due .slitHead ↔ e.slitter = .ahead ∧ o = head + z.slit) ∧
    (due .slitTail ↔ e.slitter ≠ .past ∧ o = tail + z.slit) ∧
    (due .knifeHead ↔ e.phase = .committed ∧ o = head + z.knife) ∧
    (due .knifeTail ↔ e.tailCleared = false ∧ o = tail + z.knife) ∧
    (due .deadline ↔ ∃ x ∈ s.cut.slit, x.owner = e.target ∧ x.deadline = s.tracker.odometer) ∧
    (due .cutPosition ↔ ∃ c ∈ s.cut.xcut, c.owner = e.target ∧ c.position = s.tracker.odometer)

/-- What is due at an odometer value, and what of it an encoder step takes. -/
def Obligations.DuePointsStandAtTheirCrossingValues : Prop := CrossingsFollowTheTable ∧ StepsLeaveWindowsToAMark

/-- Crossings that mark their entry: head at print line (R25), head at knife (R27), window opening (R65), head and tail at the
slitters (R105), the tail followed by a slit issue attempt (R113), the head by the deadline of the entry's own slit entry on the
same advance, which scraps with SLIT_LATE (R106, R116). -/
def Obligations.MarkingCrossings : Prop :=
  ∀ (s a : State) (t : Target),
    (Meets [.point t .printLine] s a → ∃ n, exec .encoderForwardStep s = .next n ∧
      n = { a with map := n.map, notices := n.notices } ∧
      n.map = { a.map with entries := a.entriesWith t (fun e => { e with phase := .onWeb }) } ∧
      n.level .queueLow = decide (n.map.entries.countP (fun e => e.phase == .queued) ≤ n.map.low)) ∧
    (Meets [.point t .knifeHead] s a → exec .encoderForwardStep s = .next
      { a with map := { a.map with entries := a.entriesWith t (fun e => { e with phase := .atKnife }) } }) ∧
    (Meets [.point t .windowOpen] s a → exec .encoderForwardStep s = .next
      { a with map := { a.map with entries := a.entriesWith t (fun e =>
          { e with window := e.window.map (fun w => { w with status := .opened }) }) } }) ∧
    (Meets [.point t .slitHead] s a →
      exec .encoderForwardStep s = .next (a.changed t (fun e => { e with slitter := .inside }))) ∧
    (Meets [.point t .slitHead, .point t .deadline] s a → exec .encoderForwardStep s = .next
      (({ a.changed t (fun e => { e with slitter := .inside }) with freeTick := a.freeTick + 1 } : State).claimed t
        .slitLate)) ∧
    (Meets [.point t .slitTail] s a →
      exec .encoderForwardStep s = .next (a.changed t (fun e => { e with slitter := .past })).slitIssued)

/-- The tail at the knife (R28) and retirement (R30, R37): with cuts pending the entry waits with its tail cleared, with none
it leaves the map, and its outcome record is appended if there is room; Laminator Control (R91) and Cut Control (R103) forget
it, a splice request PLACED on it becoming WANTED again unless a SPLICE is in flight. -/
def Obligations.KnifeTailRetiresTheEntry : Prop :=
  ∀ (s a : State) (e : MapEntry), NamesApart s.map → s.entry e.target = some e →
    Meets [.point e.target .knifeTail] s a →
    (0 < e.cutsPending → exec .encoderForwardStep s = .next
      { a with map := { a.map with entries := a.entriesWith e.target (fun x => { x with tailCleared := true }) } }) ∧
    (e.cutsPending = 0 → exec .encoderForwardStep s =
      .next ((a.changed e.target (fun x => { x with tailCleared := true })).retired e.target)) ∧
    (e.cutsPending = 0 → s.lam.request ≠ .placed e.target → ∃ t, exec .encoderForwardStep s = .next t ∧
      t = { a with
        map := t.map, plans := t.plans, lam := t.lam, cut := t.cut, links := t.links, line := t.line,
        notices := t.notices } ∧
      t.map = { a.map with
        entries := s.map.entries.filter (fun x => x.slot ≠ e.slot),
        outcomes := if s.map.outcomes.length < 32 then s.map.outcomes ++
          [{ panel := e.panel, plan := e.plan, reason := e.scrap, regResult := e.regResult, cutsMade := e.cutsMade }]
          else s.map.outcomes } ∧
      t.plans = { s.plans with
        plans := s.plans.plans.map (fun q => if q.number = e.plan then { q with refs := q.refs - 1 } else q) } ∧
      t.level .nearFull = decide (t.map.high ≤ t.map.entries.length) ∧
      t.level .queueLow = decide (t.map.entries.countP (fun x => x.phase == .queued) ≤ t.map.low) ∧
      s.Latched t 10 ∧ (32 ≤ s.map.outcomes.length → s.Latched t 14))

/-- Normal expansion at the commit crossing (R26, R55, R58 to R61): the entry is COMMITTED, its cuts stand in the XCUT queue and
are counted pending, and where the slitters need a move its slit entry is queued and a slit issue attempt made (R113). -/
def Obligations.CommitExpandsTheClosedPlan : Prop :=
  ∀ (s a : State) (e : MapEntry) (q : Plan), s.entry e.target = some e → s.plan e.plan = some q → e.scrap = none →
    q.state = .closed → (∀ o ∈ q.cuts, o ≤ e.length) → s.cut.xcut.length + q.cuts.length ≤ 24 →
    Meets [.point e.target .commit] s a →
    let reference : SlitterSet := match s.cut.slit.getLast? with | some x => .known x.lanes | none => s.cut.current
    let map := { a.map with entries := a.entriesWith e.target (fun x =>
      { x with phase := .committed, cutsPending := x.cutsPending + q.cuts.length }) }
    let xcut := (plannedCuts s e q.cuts).foldl (fun queue c => cutInserted c queue) s.cut.xcut
    let deadline := ((e.head + s.tracker.zones.slit : Nat) + e.offset : Int).toNat
    (reference = .known q.slits →
      exec .encoderForwardStep s = .next { a with map := map, cut := { a.cut with xcut := xcut } }) ∧
    (reference ≠ .known q.slits → s.cut.slit.length < 6 →
      exec .encoderForwardStep s = .next (State.slitIssued { a with map := map, cut := { a.cut with
        xcut := xcut
        slit := slitInserted { owner := e.target, deadline := deadline, lanes := q.slits, issued := false } s.cut.slit } }))

/-- A plan still OPEN at the commit crossing (R56): the panel is scrapped with PLAN_UNDERRUN and given its two waste cuts; the
plan and its reference count stay. No entry of either queue is the panel's yet. -/
def Sys2Proof.Machine.AnOpenPlanScrapsThePanel : Prop :=
  ∀ (s a : State) (e : MapEntry) (q : Plan), s.entry e.target = some e → s.plan e.plan = some q → e.scrap = none →
    q.state = .opened → s.cut.xcut.length ≤ 22 →
    (∀ c ∈ s.cut.xcut, c.owner ≠ e.target) → (∀ x ∈ s.cut.slit, x.owner ≠ e.target) →
    Meets [.point e.target .commit] s a →
    let knife (n : Nat) : Nat := ((n + s.tracker.zones.knife : Nat) + e.offset : Int).toNat
    ∃ t, exec .encoderForwardStep s = .next t ∧
      t = { a with map := t.map, cut := t.cut, links := t.links, notices := t.notices } ∧
      t.map = { a.map with
        entries := a.entriesWith e.target (fun x =>
          { x with phase := .committed, scrap := some .planUnderrun, cutsPending := x.cutsPending + 2 })
        reprints := s.reprintsWith e .planUnderrun } ∧
      t.cut.xcut =
        cutInserted { position := knife (e.head + e.length), owner := e.target, step := .wasteTail, kind := .waste }
          (cutInserted { position := knife e.head, owner := e.target, step := .wasteHead, kind := .waste } s.cut.xcut) ∧
      t.cut.cutFlight = s.cut.cutFlight ∧ s.Latched t 11 ∧
      s.Latched t (if s.map.reprints.length < 16 then 12 else 13)

/-- Any commit crossing (R26, R55): COMMITTED, then expansion by R55's cases, a mismatch (R57) and a full queue (R60) scrapping
the panel and giving it as many waste cuts as fit; an entry that was scrapped already is then converted (R26). -/
def Sys2Proof.Machine.CommitFollowsTheCases : Prop :=
  ∀ (s a : State) (e : MapEntry) (q : Plan), s.entry e.target = some e → s.plan e.plan = some q →
    Meets [.point e.target .commit] s a →
    let t := (a.changed e.target (fun x => { x with phase := .committed })).expandedBy e q
    exec .encoderForwardStep s = .next (if e.scrap = none then t else t.converted e.target)

/-- The commit crossing at an OPEN plan, and by all the cases. -/
def Obligations.CommitScrapsAtAnOpenPlan : Prop := AnOpenPlanScrapsThePanel ∧ CommitFollowsTheCases

/-- The window-closing crossing of an entry. -/
def Obligations.WindowClosesUnread : Prop :=
  ∀ (s a : State) (e : MapEntry), s.entry e.target = some e → Meets [.point e.target .windowClose] s a →
    ∃ t, exec .encoderForwardStep s = .next t ∧ ClosedUnread e a t

/-- The head at the nip (R96): the entry is at the nip, and is scrapped by the first line of R96's table that applies. -/
def Sys2Proof.Machine.HeadAtNipChecksTheEntry : Prop :=
  ∀ (s a : State) (e : MapEntry), s.entry e.target = some e → Meets [.point e.target .nipHead] s a →
    let reason : Option ScrapReason :=
      if e.cls = .film ∧ s.lam.remaining = 0 then some .filmOut
      else if (∃ o, s.lam.op = some o ∧ o.target = some e.target) ∨ s.lam.request = .placed e.target ∨
        s.lam.nip ≠ (match e.cls with | .film => .closed | .bare => .opened) then some .lamLate
      else none
    ∃ t x, exec .encoderForwardStep s = .next t ∧ t.entry e.target = some x ∧ x.nip = .inside ∧
      x.scrap = e.scrap.or reason ∧
      t.line.atNip = (t.map.entries.find? (fun y => y.nip == .inside)).map (fun y => { slot := y.slot, panel := y.panel }) ∧
      (reason ≠ some .lamLate ∨ s.lam.request ≠ .placed e.target → t.lam = s.lam) ∧
      t = { a with
        map := t.map, lam := t.lam, cut := t.cut, links := t.links, line := t.line, notices := t.notices }

/-- The head at the nip to the last effect of R96, a splice request PLACED on the entry becoming WANTED with the search among them;
also on the usual advance with the nip CLOSED, on which the film is counted first (R83, log 10). -/
def Sys2Proof.Machine.HeadAtNipWithTheFilm : Prop :=
  ∀ (s a : State) (t : Target),
    let next (u : State) : State := { u with freeTick := a.freeTick + 1 }
    (Meets [.point t .nipHead] s a → exec .encoderForwardStep s = .next (a.headAtNip t)) ∧
    (Meets [.film, .point t .nipHead] s a →
      (1 < s.lam.remaining → exec .encoderForwardStep s = .next ((next a.filmCounted).headAtNip t)) ∧
      (s.lam.remaining = 1 → ∃ h, FilmRanOut a h ∧ exec .encoderForwardStep s = .next ((next h.decided).headAtNip t)))

/-- The tail at the nip (R97): PAST, the entry at the nip told anew to Line Control (R82, R148), and the transition decision, which
issues the operation that R92's table and R93 give. -/
def Sys2Proof.Machine.TailAtNipDecides : Prop :=
  ∀ (s a : State) (t : Target), Meets [.point t .nipTail] s a → exec .encoderForwardStep s = .next (a.tailAtNip t)

/-- The head and the tail at the nip. -/
def Obligations.NipHeadChecksTheEntry : Prop := HeadAtNipChecksTheEntry ∧ HeadAtNipWithTheFilm ∧ TailAtNipDecides

/-- The front cut entry's position is reached: the cut is issued to an ACTIVE XCUT link without an operation (R107, R169); to
any other it is missed, a CUT entry scrapping its panel (R108), and a panel whose tail has cleared and whose last cut it was is then
retired (R29). -/
def Obligations.CutPositionIssuesOrMisses : Prop :=
  ∀ (s a : State) (c : CutEntry) (rest : List CutEntry), s.cut.xcut = c :: rest →
    c.position = s.tracker.odometer + 1 → Meets [.point c.owner .cutPosition] s a →
    let k := s.link .xcut
    exec .encoderForwardStep s = .next (a.cutReached c rest) ∧
    (k.state = .active → k.op = none → exec .encoderForwardStep s = .next { a with
      cut := { a.cut with xcut := rest, cutFlight := some c }
      links := { a.links with xcut := { k with
        op := some { kind := .cut, tag := k.nextTag, params := [if c.kind = .waste then 1 else 0, 0, 0, 0, 0, 0]
                     target := some c.owner, remaining := 150 }
        nextTag := if k.nextTag < 15 then k.nextTag + 1 else 1 } } }) ∧
    (k.state ≠ .active ∨ k.op.isSome → ∀ e, s.entry c.owner = some e → e.tailCleared = false →
      ∃ t x, exec .encoderForwardStep s = .next t ∧ t.entry c.owner = some x ∧
        x = { e with
          cutsPending := e.cutsPending - 1
          scrap := if c.kind = .cut then e.scrap.or (some .cutMissed) else e.scrap } ∧
        t.cut.xcut.map (fun y => (y.position, y.owner, y.step)) = rest.map (fun y => (y.position, y.owner, y.step)) ∧
        t.cut.cutFlight = s.cut.cutFlight ∧ s.Latched t 21 ∧
        t = { a with map := t.map, cut := t.cut, links := t.links, notices := t.notices })

/-- Film is counted on an advance with the nip CLOSED, and FILM_LOW and the automatic splice condition evaluated (R83, R84). At 0
the panels at the nip are scrapped with FILM_OUT, the older first, unless another reason stands, the FILM_OUT hold is pushed and
the transition decision made (R98). The count comes before a tail at the nip on the same advance (R83, R97, log 10). -/
def Obligations.FilmIsCountedAndRunsOut : Prop :=
  ∀ s a : State,
    (Meets [.film] s a → s.lam.nip = .closed ∧ 0 < s.lam.remaining ∧
      (1 < s.lam.remaining → exec .encoderForwardStep s = .next a.filmCounted) ∧
      (s.lam.remaining = 1 → ∃ h, FilmRanOut a h ∧ exec .encoderForwardStep s = .next h.decided)) ∧
    ∀ t, Meets [.film, .point t .nipTail] s a →
      let next (u : State) : State := { u with freeTick := a.freeTick + 1 }
      (1 < s.lam.remaining → exec .encoderForwardStep s = .next ((next a.filmCounted).tailAtNip t)) ∧
      (s.lam.remaining = 1 → ∃ h, FilmRanOut a h ∧ exec .encoderForwardStep s = .next ((next h.decided).tailAtNip t))

/-! ### Marks, the emergency stop, the timers of the line -/

/-- An orphan mark (R69) raises ORPHAN_MARK, 16, with the line in RUN, HALTING or HELD (R192), and does nothing else. -/
def Sys2Proof.Machine.State.orphaned (s : State) : State :=
  if s.line.state = .run ∨ s.line.state = .halting ∨ s.line.state = .held then s.noticed 16 else s

/-- A mark compared with the open window of entry e takes state s to t (R67): the result and offset are written, the lock state
becomes LOCKED (R72, R74), and the settled reads waiting on the entry are completed (R77). -/
def Sys2Proof.Machine.ComparedMark (e : MapEntry) (w : Window) (s t : State) : Prop :=
  let delta : Int := (s.tracker.odometer : Int) - w.expected
  let tolerance : Int := s.reg.tolerance
  let x := { e with
    window := some { w with status := .resolved }
    regResult := some (if delta < -tolerance then .ahead delta else if tolerance < delta then .behind delta
      else .on delta)
    offset := if -tolerance ≤ delta ∧ delta ≤ tolerance then 0 else delta }
  t = { s with map := t.map, reg := t.reg, ports := t.ports, notices := t.notices } ∧
    t.map = { s.map with entries := s.map.entries.map (fun y => if y.slot = e.slot then x else y) } ∧
    t.reg = { s.reg with lock := .locked, unreadRun := 0 } ∧ t.level .regLock = true ∧
    ∃ v ∈ t.gapped, v.entry = x ∧ ∀ p, t.port p = (s.port p).settledBy v

/-- A mark with no window crossing left at its odometer value: an orphan with debt owed or with no window open, else compared
with the open window (R66). -/
def Sys2Proof.Machine.MarksAlone : Prop :=
  ∀ s : State, s.windowsDue = [] →
    (0 < s.tracker.debt ∨ (∀ e ∈ s.map.entries, ∀ w ∈ e.window, w.status ≠ .opened) →
      exec .mark s = .next s.orphaned) ∧
    ∀ (e : MapEntry) (w : Window), NamesApart s.map → s.tracker.debt = 0 → s.openWindow = some e → e.window = some w →
      ∃ t, exec .mark s = .next t ∧ ComparedMark e w s t

/-- A mark and a window crossing at the same odometer value, taken in either order, which R66 leaves open (log 25; the counter of
the free values moves): R66's table for an opening and for a closing window, and its three outcomes where one window closes
as the next opens; then the advance whose crossings they are is over (R3). At most one window is OPEN (R65), as WindowsInPlace says
of every state a run reaches. -/
def Sys2Proof.Machine.MarksMeetWindowCrossings : Prop :=
  ∀ (s : State) (e y : MapEntry) (w v : Window), NamesApart s.map → OneWindowOpen s → s.tracker.debt = 0 →
    let open' (u : State) : State := u.changed y.target (fun x => { x with window := some { v with status := .opened } })
    let u : State := { s with freeTick := s.freeTick + 1 }
    let ends (t : State) : Prop := ∃ n, exec .mark s = .next n ∧ AdvanceOver t n
    (s.openWindow = none → s.entry y.target = some y → y.window = some v →
      s.windowsDue = [.point y.target .windowOpen] →
      ends (open' u.orphaned) ∨
      ∃ t, ends t ∧ ComparedMark { y with window := some { v with status := .opened } } v (open' u) t) ∧
    (s.openWindow = some e → e.window = some w → s.windowsDue = [.point e.target .windowClose] →
      (∃ t, ends t ∧ ComparedMark e w u t) ∨
      ∃ t, ends t.orphaned ∧ ClosedUnread e u t) ∧
    (s.openWindow = some e → e.window = some w → s.entry y.target = some y → y.window = some v → y.target ≠ e.target →
      s.windowsDue = [.point e.target .windowClose, .point y.target .windowOpen] →
      (∃ t, ends (open' t) ∧ ComparedMark e w u t) ∨
      (∃ t, ends (open' t.orphaned) ∧ ClosedUnread e u t) ∨
      ∃ t n z, ends n ∧ ClosedUnread e u t ∧ t.entry y.target = some z ∧
        ComparedMark { z with window := some { v with status := .opened } } v (open' t) n)

/-- Marks, alone and beside window crossings. -/
def Obligations.MarksAreComparedOrOrphans : Prop := MarksAlone ∧ MarksMeetWindowCrossings

/-- The emergency-stop input (R152): going active, or reported active again, which is taken as going active anew (log 8, the
model's choice), it requests an ESTOP hold, sets the commanded speed to 0 and stops the ramp,
and takes the line to rest; going inactive it changes nothing but the input. -/
def Obligations.EmergencyStopBringsTheLineToRest : Prop :=
  ∀ s : State,
    exec .emergencyStopInactive s = .next { s with line := { s.line with estop := false } } ∧
    ∃ t, exec .emergencyStopActive s = .next t ∧ t.line.estop = true ∧ t.line.commanded = 0 ∧ t.line.rampTimer = none ∧
      t.line.state = (match s.line.state with
        | .run => .held
        | .halting => .held
        | .stopping => .stopped
        | st => st) ∧
      t.line.setSpeed = s.line.setSpeed ∧ FaultTaken .estop noDetail s t ∧ t.level .holdActive = true ∧ s.Latched t 17 ∧
      (s.line.state ≠ .stopping → t.links = s.links) ∧
      t = { s with hold := t.hold, line := t.line, links := t.links, notices := t.notices }

/-- The ramp (R149, R150): at each expiry the commanded speed moves 1 mm/s toward the target; reaching 0 it takes HALTING to
HELD and STOPPING to STOPPED. An expiry of a timer that does not run changes nothing (log 7). -/
def Sys2Proof.Machine.RampMovesTheCommandedSpeed : Prop :=
  ∀ s : State,
    (s.line.rampTimer = none → exec .rampTimerExpiry s = .next s) ∧
    (s.line.rampTimer.isSome → s.line.commanded ≠ s.line.target →
      let next := if s.line.commanded < s.line.target then s.line.commanded + 1 else s.line.commanded - 1
      (next ≠ 0 ∨ (s.line.state ≠ .halting ∧ s.line.state ≠ .stopping) → exec .rampTimerExpiry s = .next { s with
        line := { s.line with commanded := next, rampTimer := if next = s.line.target then none else some 5 }
        notices := speedNotices s next s.line.target }) ∧
      (next = 0 → s.line.state = .halting ∨ s.line.state = .stopping → ∃ t, exec .rampTimerExpiry s = .next t ∧
        t.line.state = (if s.line.state = .halting then .held else .stopped) ∧ t.line.commanded = 0 ∧
        t.line.target = 0 ∧ (s.line.target = 0 → s.Latched t 20) ∧
        t = { s with line := t.line, links := t.links, notices := t.notices }))

/-- The ends of the SYNC pulse (R14) and of the busy period of LINE RESET (R187). -/
def Sys2Proof.Machine.PulseAndBusyPeriodEnd : Prop :=
  ∀ s : State,
    exec .syncPulseEnd s = .next { s with tracker := { s.tracker with syncPulse := none } } ∧
    exec .busyTimerExpiry s =
      .next (if s.busy.isSome then { s with busy := none, notices := s.notices.took 24 } else s)

/-- The ramp timer, the SYNC pulse and the busy timer. -/
def Obligations.TimersOfTheLineExpire : Prop := RampMovesTheCommandedSpeed ∧ PulseAndBusyPeriodEnd

/-! ### The station links -/

/-- The command code a link state calls for (R154). -/
def Sys2Proof.Machine.commandCode (k : Link) : Nat :=
  match k.state with
  | .down | .unacked => 0
  | .waking => 1
  | .armed => if k.goGiven then 3 else 2
  | .active | .slipped => if k.op.isSome then 4 else 3
  | .parking => 5
  | .test => 6

/-- The six parameter words of a link's frame (R154, R169, R172). -/
def Sys2Proof.Machine.frameWords (l : LinkId) (commanded : Nat) (k : Link) : List Nat :=
  match commandCode k, k.op with
  | 4, some o => o.params
  | 3, _ => if l = .feed then [commanded, 0, 0, 0, 0, 0] else [0, 0, 0, 0, 0, 0]
  | _, _ => [0, 0, 0, 0, 0, 0]

/-- A frame to a station (R154, R169, R172, R201): sixteen bytes, the command code of the link's state, tag and kind and six
words of two bytes, and a check that makes the bytes before it and itself add up to 65535. -/
def Sys2Proof.Machine.FramesSentFollowTheLinkState : Prop :=
  ∀ (l : LinkId) (commanded : Nat) (k : Link), (∀ o ∈ k.op, o.params.length = 6) →
    let b := frameOf l commanded k
    b.length = 16 ∧ b.head? = some (BitVec.ofNat 8 (commandCode k)) ∧
    b[1]? = some (match commandCode k, k.op with
      | 4, some o => BitVec.ofNat 8 (o.tag * 16 + o.kind.code)
      | _, _ => 0#8) ∧
    (b.drop 2).take 12 = (frameWords l commanded k).flatMap (fun w => [BitVec.ofNat 8 (w / 256), BitVec.ofNat 8 w]) ∧
    ((b.take 14).map (fun x => x.toNat)).sum + u16 (b.getD 14 0) (b.getD 15 0) = 65535

/-- A frame from a station (R155, R201): missing below six bytes, and otherwise judged on its first six. -/
def Sys2Proof.Machine.FramesReceivedAreJudged : Prop :=
  (∀ bytes : Bytes, bytes.length < 6 → decodeFrame bytes = .missing) ∧
  ∀ (c t r1 r0 k1 k0 : Byte) (rest : Bytes),
    let sum := c.toNat + t.toNat + r1.toNat + r0.toNat
    let good := c.toNat ≤ 5 ∧ t.toNat ≤ 15 ∧ sum + (k1.toNat * 256 + k0.toNat) = 65535
    (good → ∃ code, code.code = c.toNat ∧
      decodeFrame (c :: t :: r1 :: r0 :: k1 :: k0 :: rest) = .valid code t.toNat (r1.toNat * 256 + r0.toNat)) ∧
    (¬ good → decodeFrame (c :: t :: r1 :: r0 :: k1 :: k0 :: rest) = .invalid)

/-- The frames to and from a station. -/
def Obligations.FramesAreCodedAndJudged : Prop := FramesSentFollowTheLinkState ∧ FramesReceivedAreJudged

/-- A link as a frame period goes by for it (R154, R155, R162, log 6): its timers run, a missing frame is a frame fault, and
the frame its state calls for is sent. -/
def Sys2Proof.Machine.State.nextPeriod (s : State) (l : LinkId) : Link :=
  let k := s.link l
  { k with
    wakeTimer := k.wakeTimer.map (fun n => n - 1), armTimer := k.armTimer.map (fun n => n - 1)
    flywheel := k.flywheel.map (fun n => n - 1), parkTimer := k.parkTimer.map (fun n => n - 1)
    op := k.op.map (fun o => { o with remaining := o.remaining - 1 })
    previous := if k.heard then k.previous else none
    faults := if k.heard = false ∧ k.state = .active then 1 else k.faults
    heard := false, sent := frameOf l s.line.commanded k }

/-- FRAME_PERIOD: where no ACTIVE link misses its second frame in a row, each link goes on as `nextPeriod` says and every
timer of the part runs (log 6, log 7); a link that does miss it slips (R162). -/
def Obligations.FramePeriodServesEveryLink : Prop :=
  ∀ s : State,
    ((∀ l, (s.link l).heard = true ∨ (s.link l).state ≠ .active ∨ (s.link l).faults = 0) →
      exec .framePeriod s = .next { s with
        links := { feed := s.nextPeriod .feed, lam := s.nextPeriod .lam, slit := s.nextPeriod .slit,
                   xcut := s.nextPeriod .xcut }
        line := { s.line with rampTimer := s.line.rampTimer.map (fun n => n - 1) }
        tracker := { s.tracker with syncPulse := s.tracker.syncPulse.map (fun n => n - 1) }
        busy := s.busy.map (fun n => n - 1) }) ∧
    ∀ l, (s.link l).heard = false → (s.link l).state = .active → 1 ≤ (s.link l).faults →
      ∃ t, exec .framePeriod s = .next t ∧ (t.link l).state = .slipped ∧ (t.link l).flywheel = some 20 ∧
        t.level (.linkUp l) = false

/-- The state with an invalid frame of link l counted (R157): on the link's error count, or, while ports send the reply of a READ
ERROR COUNT of that link, in the tally of each such port, to be counted after its clear (log 26). -/
def Sys2Proof.Machine.State.miscounted (s : State) (l : LinkId) : State :=
  let sending (q : Port) : Bool := match q.transaction with | .readTaken (.clearLink m _) => m = l | _ => false
  let tallied (q : Port) : Port :=
    match q.transaction with
    | .readTaken (.clearLink m late) => if m = l then { q with transaction := .readTaken (.clearLink m (late + 1)) } else q
    | _ => q
  let k := s.link l
  if sending s.ports.print ∨ sending s.ports.plan ∨ sending s.ports.console then
    { s with ports := { print := tallied s.ports.print, plan := tallied s.ports.plan, console := tallied s.ports.console } }
  else if k.errorCount < 127 then { s with links := s.links.set l { k with errorCount := k.errorCount + 1 } }
  else { s with links := s.links.set l { k with overflow := true } }

/-- Line Control in ARMING has given the go, or waits for a link other than l to arm (R142): then a report of l that neither
fails the start nor completes the arming moves nothing. Outside ARMING this is met. -/
abbrev Sys2Proof.Machine.State.Waits (s : State) (l : LinkId) : Prop :=
  s.line.state = .arming → s.line.go = true ∨
    ∃ m, m ≠ l ∧ (s.link m).state ≠ .armed ∧ (s.link m).state ≠ .active ∧ (s.link m).state ≠ .slipped

/-- Frames that are no recognition (R155 to R157, R161, R162, R167): a missing one, invalid ones, of which the second in a row
in ACTIVE makes the link slip, and a valid one unlike the one before it. That a missing frame does nothing as it arrives, and
that a second frame of one period is the next period's, is log 6's choice. -/
def Obligations.FramesWithoutRecognition : Prop :=
  ∀ (l : LinkId) (bytes : Bytes) (s : State),
    let k := s.link l
    let u := s.miscounted l
    let heard : Link := { u.link l with heard := true, previous := none }
    (decodeFrame bytes = .missing → exec (.stationFrame l bytes) s = .next s) ∧
    (decodeFrame bytes = .invalid → k.state ≠ .active →
      exec (.stationFrame l bytes) s = .next { u with links := u.links.set l heard }) ∧
    (decodeFrame bytes = .invalid → k.state = .active → k.faults = 0 →
      exec (.stationFrame l bytes) s = .next { u with links := u.links.set l { heard with faults := 1 } }) ∧
    (decodeFrame bytes = .invalid → k.state = .active → 1 ≤ k.faults → s.Waits l → exec (.stationFrame l bytes) s =
      .next (u.linked l { heard with state := .slipped, flywheel := some 20, faults := 2 })) ∧
    (∀ code tag report, decodeFrame bytes = .valid code tag report → k.previous ≠ some (code, tag) →
      exec (.stationFrame l bytes) s = .next { s with links := s.links.set l { k with
        heard := true, previous := some (code, tag)
        faults := if k.state = .active then 0 else k.faults
        testCount := if k.state = .test then min 65535 (k.testCount + 1) else k.testCount } })

/-- A link after a recognition, before its state takes it (R156, R161, R167). The second of two frames that no FRAME_PERIOD parts
is taken as the next period's (log 6, the model's choice). -/
def Sys2Proof.Machine.Link.saw (k : Link) (code : Indication) (tag report : Nat) : Link :=
  { k with
    heard := true, previous := some (code, tag), lastSeen := some (code, tag)
    faultReport := if code = .fault then report else k.faultReport
    faults := if k.state = .active then 0 else k.faults
    testCount := if k.state = .test then min 65535 (k.testCount + 1) else k.testCount }

/-- The arming ends as the last of the four links becomes ACTIVE (R142): the go flag is cleared, and the line enters HELD over a
stack that is not empty, else RUN, or HELD with an ESTOP hold where the emergency stop is active (R152). -/
def Sys2Proof.Machine.ArmingEnded (s t : State) : Prop :=
  t.line.go = false ∧ t.line.state = (if s.hold.stack = [] ∧ s.line.estop = false then .run else .held) ∧
    t.line.commanded = s.line.commanded ∧ t.line.setSpeed = s.line.setSpeed ∧
    t.line.target = speedGoal t.line.state s.line.setSpeed s.ratioAtNip s.line.minSpeed ∧
    (if s.hold.stack = [] ∧ s.line.estop = true then FaultTaken .estop noDetail s t ∧ s.Latched t 17
      else t.hold = s.hold) ∧
    t = { s with line := t.line, hold := t.hold, notices := t.notices }

/-- Recognitions in DOWN, UNACKED and TEST, in WAKING, ARMED and PARKING (R156, R159, R160, R165), with the go of R142 and
R144, the parking in STOPPED (R144), the failing of a start (R143), and the end of the arming (R142). That Line Control takes the
report of a link that becomes ACTIVE before Cut Control makes its slit issue attempt is log 11 (DEDUCED). -/
def Sys2Proof.Machine.RecognitionsOfALinkNotUp : Prop :=
  ∀ (l : LinkId) (bytes : Bytes) (s : State) (code : Indication) (tag report : Nat),
    decodeFrame bytes = .valid code tag report → (s.link l).previous = some (code, tag) →
    s.level (.linkUp l) = ((s.link l).state == .active) →
    let k := (s.link l).saw code tag report
    let run := exec (.stationFrame l bytes) s
    let only : State := { s with links := s.links.set l k }
    let running := s.line.state = .run ∨ s.line.state = .halting ∨ s.line.state = .held
    let arming := s.line.state = .arming
    let armed : Link := { k with state := .armed, wakeTimer := none, goGiven := false }
    let gone (x : Link) : Link := { x with goGiven := true, armTimer := some 250 }
    let engaged : Link := { k with state := .active, armTimer := none, flywheel := none, faults := 0 }
    let down : State := { s with
      links := s.links.set l { k with state := .down, wakeTimer := none }, notices := s.notices.took 18 }
    let failed : State := { s with links := s.links.set l k.parked, notices := s.notices.took 18 }
    let idle : State := { s with links := s.links.set l { k with state := .down, parkTimer := none } }
    let up (m : LinkId) : Prop :=
      m = l ∨ (s.link m).state = .armed ∨ (s.link m).state = .active ∨ (s.link m).state = .slipped
    (k.state = .down ∨ k.state = .unacked ∨ k.state = .test → run = .next only) ∧
    -- WAKING
    (k.state = .waking → code = .off ∨ code = .engaged ∨ code = .busy ∨ code = .parked → run = .next only) ∧
    (k.state = .waking → code = .ready →
      (s.line.state = .stopping → run = .next { s with links := s.links.set l armed }) ∧
      (running → run = .next { s with links := s.links.set l (gone armed) }) ∧
      (s.line.state = .stopped → k.op = none → run = .next { s with links := s.links.set l armed.parked }) ∧
      (arming → s.line.go = true → run = .next { s with links := s.links.set l (gone armed) }) ∧
      (arming → s.line.go = false → (∀ m, up m) → ∃ t, run = .next t ∧
        (∀ m, t.link m = (let x := if m = l then armed else s.link m; if x.state = .armed then gone x else x)) ∧
        t = { s with links := t.links, line := { s.line with go := true } }) ∧
      (arming → s.line.go = false → ¬ (∀ m, up m) → run = .next { s with links := s.links.set l armed })) ∧
    (k.state = .waking → code = .fault → (¬ arming → run = .next down) ∧ (arming → run = .next down.startFailed)) ∧
    -- ARMED
    (k.state = .armed → code = .ready ∨ code = .busy ∨ (code = .engaged ∧ k.goGiven = false) → run = .next only) ∧
    (k.state = .armed → code = .off ∨ code = .parked ∨ code = .fault →
      (¬ arming → run = .next failed) ∧ (arming → run = .next failed.startFailed)) ∧
    (k.state = .armed → k.goGiven = true → code = .engaged →
      (running ∨ s.line.state = .stopping → run = .next
        (if l = .slit then (s.linked l engaged).slitIssued else s.linked l engaged)) ∧
      (s.line.state = .stopped → k.op = none → run = .next ((s.linked l engaged).linked l engaged.parked)) ∧
      (s.ArmsOn l → run = .next
        (if l = .slit then (s.linked l engaged).slitIssued else s.linked l engaged)) ∧
      (arming → (∀ m, m ≠ l → (s.link m).state = .active) → ∃ t, ArmingEnded (s.linked l engaged) t ∧
        run = .next (if l = .slit then t.slitIssued else t))) ∧
    -- PARKING
    (k.state = .parking → code ≠ .parked → run = .next only) ∧
    (k.state = .parking → code = .parked →
      (¬ arming ∨ (s.line.owed.get l ≠ .wake) → run = .next idle) ∧
      (arming → s.line.owed.get l = .wake → run = .next { s with
        links := s.links.set l
          { k with state := .waking, parkTimer := none, goGiven := false, faults := 0, wakeTimer := some 250 }
        line := { s.line with owed := s.line.owed.set l .nothing } }))

/-- Recognitions in ACTIVE (R162) and SLIPPED (R163) that complete no operation, and the station fault (R164). That Line Control takes
the report of a link that becomes ACTIVE before Cut Control makes its slit issue attempt is log 11 (DEDUCED). -/
def Sys2Proof.Machine.RecognitionsOfALinkUp : Prop :=
  ∀ (l : LinkId) (bytes : Bytes) (s : State) (code : Indication) (tag report : Nat),
    decodeFrame bytes = .valid code tag report → (s.link l).previous = some (code, tag) →
    let k := (s.link l).saw code tag report
    let run := exec (.stationFrame l bytes) s
    let only : State := { s with links := s.links.set l k }
    let engaged : Link := { k with state := .active, armTimer := none, flywheel := none, faults := 0 }
    let parked := s.linked l { k.parked with op := none }
    let detail : FaultDetail := { panel := k.op.bind (fun o => o.target), link := some l }
    let completes := code = .engaged ∧ ∃ o ∈ k.op, o.tag = tag
    (k.state = .active → (code = .engaged ∧ ¬ completes) ∨ code = .busy → run = .next only) ∧
    (k.state = .active → code = .off ∨ code = .ready ∨ code = .parked → s.Waits l →
      run = .next (s.linked l { k with state := .slipped, flywheel := some 20 })) ∧
    (k.state = .slipped → code = .off ∨ code = .ready ∨ code = .parked → run = .next only) ∧
    (k.state = .slipped → (code = .engaged ∧ ¬ completes) ∨ code = .busy →
      (s.line.state = .run ∨ s.line.state = .halting ∨ s.line.state = .held ∨ s.line.state = .stopping ∨ s.ArmsOn l →
        run = .next (if l = .slit then (s.linked l engaged).slitIssued else s.linked l engaged)) ∧
      (s.line.state = .arming → (∀ m, m ≠ l → (s.link m).state = .active) → ∃ t, ArmingEnded (s.linked l engaged) t ∧
        run = .next (if l = .slit then t.slitIssued else t)) ∧
      (s.line.state = .stopped → k.op = none → run = .next ((s.linked l engaged).linked l engaged.parked)) ∧
      (s.line.state = .stopped → k.op ≠ none → run = .next (s.linked l engaged))) ∧
    (k.state = .active ∨ k.state = .slipped → code = .fault → ∃ h,
      FaultReported .linkFault detail (if s.line.state = .arming then parked.startFailed else parked) h ∧
      run = .next (h.failing l k.op))

/-- Recognitions by the link's state. -/
def Obligations.RecognitionsMoveTheLink : Prop := RecognitionsOfALinkNotUp ∧ RecognitionsOfALinkUp

/-- ENGAGED with the tag of the operation in flight completes it, on an ACTIVE link (R162) and on a SLIPPED one, which enters
ACTIVE first (R163): the operation becomes absent, an owed park is served (R147), and the asker takes the completion (R170):
a nip operation (R94), a slitter move (R115), a cut (R109), which may retire its panel (R29). -/
def Obligations.EngagedWithTheTagCompletesTheOperation : Prop :=
  ∀ (l : LinkId) (bytes : Bytes) (s : State) (o : LinkOp) (report : Nat),
    decodeFrame bytes = .valid .engaged o.tag report → (s.link l).previous = some (.engaged, o.tag) →
    (s.link l).op = some o →
    let k := (s.link l).saw .engaged o.tag report
    (k.state = .active → exec (.stationFrame l bytes) s =
      .next ((State.parkServed { s with links := s.links.set l { k with op := none } } l).completedAt l)) ∧
    (k.state = .slipped →
      let engaged : Link := { k with state := .active, armTimer := none, flywheel := none, faults := 0, op := none }
      ((s.line.state = .arming → s.ArmsOn l) →
        exec (.stationFrame l bytes) s = .next (((s.linked l engaged).parkServed l).completedAt l)) ∧
      (s.line.state = .arming → (∀ m, m ≠ l → (s.link m).state = .active) → ∃ t, ArmingEnded (s.linked l engaged) t ∧
        exec (.stationFrame l bytes) s = .next ((t.parkServed l).completedAt l)))

/-- The wake, arm and park timers expire (R159, R160, R165) outside ARMING; LINK_WAKE_FAILED is notice 18. An expiry of a timer
that does not run changes nothing (log 7). -/
def Obligations.WakeArmAndParkTimersExpire : Prop :=
  ∀ (l : LinkId) (s : State),
    let k := s.link l
    (s.line.state ≠ .arming → s.level (.linkUp l) = false →
      (k.state = .waking → k.wakeTimer.isSome → exec (.wakeTimerExpiry l) s = .next { s with
        links := s.links.set l { k with state := .down, wakeTimer := none }, notices := s.notices.took 18 }) ∧
      (k.state = .armed → k.armTimer.isSome → exec (.armTimerExpiry l) s = .next { s with
        links := s.links.set l { k with state := .parking, armTimer := none, flywheel := none, parkTimer := some 40 }
        notices := s.notices.took 18 }) ∧
      (k.state = .parking → k.parkTimer.isSome → exec (.parkTimerExpiry l) s = .next { s with
        links := s.links.set l { k with state := .unacked, parkTimer := none } })) ∧
    (k.wakeTimer = none → exec (.wakeTimerExpiry l) s = .next s) ∧
    (k.armTimer = none → exec (.armTimerExpiry l) s = .next s) ∧
    (k.flywheel = none → exec (.flywheelTimerExpiry l) s = .next s) ∧
    (k.parkTimer = none → exec (.parkTimerExpiry l) s = .next s) ∧
    (k.op = none → exec (.operationTimeout l) s = .next s)

/-- A wake failure in ARMING fails the start (R143): the line is STOPPED, every link that is up parks or owes its park, and
LINE_START_FAILED, notice 19, is raised. -/
def Sys2Proof.Machine.WakingLinkFailsTheStart : Prop :=
  ∀ (l : LinkId) (s : State), s.line.state = .arming → (s.link l).state = .waking → (s.link l).wakeTimer.isSome →
    ∃ t, exec (.wakeTimerExpiry l) s = .next t ∧ t.line.state = .stopped ∧ t.line.go = false ∧ t.line.target = 0 ∧
      (t.link l).state = .down ∧ t.level .lineState = false ∧ s.Latched t 18 ∧ s.Latched t 19 ∧
      (∀ l', l' ≠ l →
        let k := s.link l'
        let up := k.state = .active ∨ k.state = .slipped
        (k.state = .armed ∨ (up ∧ k.op = none) → t.link l' = { k with
          state := .parking, armTimer := none, flywheel := none, parkTimer := some 40 }) ∧
        (up ∧ k.op.isSome → t.link l' = k ∧ t.line.owed.get l' = .park) ∧
        (k.state ≠ .armed ∧ ¬ up → t.link l' = k ∧
          t.line.owed.get l' = (if s.line.owed.get l' = .wake then .nothing else s.line.owed.get l'))) ∧
      t = { s with line := t.line, links := t.links, notices := t.notices }

/-- The expiries that fail a start (R143): of the wake timer and of the arm timer, wake failures (R159, R160); of the flywheel
timer, a link loss (R164), whose hold is pushed after; of the park timer, which leads to UNACKED (R165). -/
def Sys2Proof.Machine.ExpiriesFailTheStart : Prop :=
  ∀ (l : LinkId) (s : State), s.line.state = .arming →
    let k := s.link l
    (k.state = .waking → k.wakeTimer ≠ none → s.level (.linkUp l) = false → exec (.wakeTimerExpiry l) s =
      .next (State.startFailed { s with
        links := s.links.set l { k with state := .down, wakeTimer := none }, notices := s.notices.took 18 })) ∧
    (k.state = .armed → k.armTimer ≠ none →
      exec (.armTimerExpiry l) s = .next ((s.noticed 18).linked l k.parked).startFailed) ∧
    (k.state = .slipped → k.flywheel ≠ none → ∃ h,
      FaultReported .linkLost { panel := k.op.bind (fun o => o.target), link := some l }
        (s.linked l { k.parked with op := none }).startFailed h ∧
      exec (.flywheelTimerExpiry l) s = .next (h.failing l k.op)) ∧
    (k.state = .parking → k.parkTimer ≠ none →
      exec (.parkTimerExpiry l) s = .next (s.linked l { k with state := .unacked, parkTimer := none }).startFailed)

/-- What fails a start. -/
def Obligations.WakeFailureFailsTheStart : Prop := WakingLinkFailsTheStart ∧ ExpiriesFailTheStart

/-- A lost link parks and requests LINK_LOST (R163, R164), outside ARMING; an operation's timeout requests STATION_TIMEOUT and
leaves the link as it is (R171). What was in flight becomes absent and has then failed: at Line Control, which serves an owed
park (R147), and at its asker: the nip operation of R95, with a SPLICE WANTED again; the cut of R110, its panel scrapped with
STATION_FAIL and one cut fewer pending; the move of R117, the set UNKNOWN and the owner scrapped with STATION_FAIL. -/
def Obligations.LinkLossAndOperationTimeoutFail : Prop :=
  ∀ (l : LinkId) (s : State),
    let k := s.link l
    (k.state = .slipped → k.flywheel ≠ none → s.line.state ≠ .arming → ∃ h,
      FaultReported .linkLost { panel := k.op.bind (fun o => o.target), link := some l }
        (s.linked l { k.parked with op := none }) h ∧
      exec (.flywheelTimerExpiry l) s = .next (h.failing l k.op)) ∧
    (∀ o, k.op = some o → k.state = .active ∨ k.state = .slipped → ∃ h,
      FaultReported .stationTimeout { panel := o.target, link := some l }
        { s with links := s.links.set l { k with op := none } } h ∧
      exec (.operationTimeout l) s = .next (h.failing l k.op))

/-! ### The ports: checks, lengths, transactions -/

/-- The port a command is sent on and its row of the command code table; none for the rows that are no port command. -/
def Sys2Proof.Instr.sentOn : Instr → Option (PortId × CommandRow)
  | .announcePanel p .. => some (p, rowAnnouncePanel)
  | .withdrawPanel p .. => some (p, rowWithdrawPanel)
  | .takeReprint p => some (p, rowTakeReprint)
  | .planOpen p .. => some (p, rowPlanOpen)
  | .planAppend p .. => some (p, rowPlanAppend)
  | .planClose p .. => some (p, rowPlanClose)
  | .planDiscard p .. => some (p, rowPlanDiscard)
  | .takeOutcome p => some (p, rowTakeOutcome)
  | .lineStart p => some (p, rowLineStart)
  | .lineStop p => some (p, rowLineStop)
  | .speedSet p .. => some (p, rowSpeedSet)
  | .minSpeedSet p .. => some (p, rowMinSpeedSet)
  | .filmStandby p .. => some (p, rowFilmStandby)
  | .filmThread p .. => some (p, rowFilmThread)
  | .spliceRequest p => some (p, rowSpliceRequest)
  | .linkAcknowledge p .. => some (p, rowLinkAcknowledge)
  | .linkTest p .. => some (p, rowLinkTest)
  | .linkTestEnd p .. => some (p, rowLinkTestEnd)
  | .zoneDefine p .. => some (p, rowZoneDefine)
  | .syncSet p .. => some (p, rowSyncSet)
  | .thresholdSet p .. => some (p, rowThresholdSet)
  | .registrationSet p .. => some (p, rowRegistrationSet)
  | .gapSet p .. => some (p, rowGapSet)
  | .scrapPanel p .. => some (p, rowScrapPanel)
  | .lineReset p => some (p, rowLineReset)
  | .hold p => some (p, rowHold)
  | .release p .. => some (p, rowRelease)
  | .readStatus p => some (p, rowReadStatus)
  | .readMapEntry p .. => some (p, rowReadMapEntry)
  | .readMapEntrySettled p .. => some (p, rowReadMapEntrySettled)
  | .readPlan p .. => some (p, rowReadPlan)
  | .readHoldContext p .. => some (p, rowReadHoldContext)
  | .readResult p => some (p, rowReadResult)
  | .readNotices p => some (p, rowReadNotices)
  | .clearNotices p .. => some (p, rowClearNotices)
  | .setNoticeMask p .. => some (p, rowSetNoticeMask)
  | .setLatchMasked p .. => some (p, rowSetLatchMasked)
  | .readErrorCount p .. => some (p, rowReadErrorCount)
  | .readIdent p => some (p, rowReadIdent)
  | _ => none

/-- The commands of the PRINT and of the PLAN port; those of every port; the others are of CONSOLE (R180). -/
def Sys2Proof.Machine.permittedTo (code : Nat) (p : PortId) : Bool :=
  if code ≤ 0x12 then p == .print else if code ≤ 0x24 then p == .plan else if code ≤ 0x40 then p == .console else true

/-- The line states in which a command is accepted (R180). -/
def Sys2Proof.Machine.acceptedIn (code : Nat) (st : LineState) : Bool :=
  if code = 0x30 ∨ code = 0x38 ∨ code = 0x40 ∨ code = 0x3A then st == .stopped
  else if code = 0x35 then st == .stopped || st == .held
  else if code = 0x31 ∨ code = 0x50 then st != .stopped
  else true

/-- The outcome of the first of checks 3 to 5 of R179 that fails. -/
def Sys2Proof.Machine.State.firstFailure (s : State) (p : PortId) (code : Nat) : Option PortOutcome :=
  if s.busy.isSome ∧ code ≠ 0x52 ∧ code ≠ 0x5D then some .busy
  else if permittedTo code p = false then some .role
  else if acceptedIn code s.line.state = false then some .state
  else none

/-- BUSY, then ROLE, then STATE, with result value 0 (R179, R180): a refused command changes nothing but its port's result
record; a read so refused sends the dummy byte and a record of zeros (R178). -/
def Obligations.CommandsAreRefusedInOrder : Prop :=
  ∀ (c : Instr) (p : PortId) (r : CommandRow) (s : State) (o : PortOutcome), c.sentOn = some (p, r) →
    c.WellFormed = true → (s.port p).transaction = .inactive → s.firstFailure p r.code.toNat = some o →
    exec c s = .next { s with
      ports := s.ports.set p { (s.port p).answered r.code o 0 none with
        reply := match r.reply with | some n => List.replicate (n + 1) 0#8 | none => [] }
      notices := s.notices.took 22 }

/-- Short and long transactions of the two commands with a counted list (R177): short, FORMAT with the number of parameter
bytes received; long, the command as if the extra items had not been sent; either way an error. -/
def Obligations.ShortAndLongTransactions : Prop :=
  ∀ (p : PortId) (plan ratio count : Byte) (items : List (BitVec 16)) (s : State), Listening p s →
    (items.length < min count.toNat 5 →
      exec (.planOpen p plan ratio count items) s =
        .next ((s.erred p).refused p 0x20 .format (3 + 2 * items.length))) ∧
    (min count.toNat 5 < items.length →
      exec (.planOpen p plan ratio count items) s =
        exec (.planOpen p plan ratio count (items.take (min count.toNat 5))) (s.erred p)) ∧
    (items.length < min count.toNat 4 →
      exec (.planAppend p plan count items) s =
        .next ((s.erred p).refused p 0x21 .format (2 + 2 * items.length))) ∧
    (min count.toNat 4 < items.length →
      exec (.planAppend p plan count items) s =
        exec (.planAppend p plan count (items.take (min count.toNat 4))) (s.erred p))

/-- The port with its transaction over; and over without a reply. -/
def Sys2Proof.Machine.State.closed (s : State) (p : PortId) : State :=
  { s with ports := s.ports.set p { s.port p with transaction := .inactive, assembly := [] } }
def Sys2Proof.Machine.State.silenced (s : State) (p : PortId) : State :=
  { s with ports := s.ports.set p { s.port p with transaction := .inactive, assembly := [], reply := [] } }

/-- The length of a command with these parameter bytes (R177): a count is reckoned up to its largest, and as 0 where it is missing. -/
def Sys2Proof.Machine.CommandRow.callsFor (r : CommandRow) (bytes : Bytes) : Nat :=
  match r.params with
  | .fixed n => n
  | .counted head most => head + 2 * min (bytes.getD (head - 1) 0#8).toNat most

/-- Select (R176): asserted, it begins a transaction; released, it ends it. One without a complete byte has no effect but for
an incomplete byte, an unknown command byte gives UNKNOWN (R179), too few parameter bytes give FORMAT with their number (R177,
R179), and all these send 0 on data-out, as the part does while it receives (R176, R178, R179). Extra bytes are ignored: those of a
write are one error, counted first (log 21), and the command is taken (R177); those of a read are none (R178).
A read already taken ends with what it has left to do: the port's own count is cleared, and an incomplete byte then counts
(R181, log 20); a link's count is cleared, and the invalid frames that came in the meantime then count (R157). A port selected
since before hardware reset ignores its bytes (R188). Further edges of a pin that stands there already change nothing (log 8). -/
def Obligations.SelectBeginsAndEndsTransactions : Prop :=
  ∀ (p : PortId) (bytes : Bytes) (incomplete : Bool) (s : State),
    let k := s.port p
    let released := exec (.selectRelease p bytes incomplete) s
    (k.transaction = .inactive → exec (.selectAssert p) s =
      .next { s with ports := s.ports.set p { k with transaction := .receiving, assembly := [], reply := [] } }) ∧
    (∀ x : Port, x.reply = [] → ∀ i, x.dataOut i = 0) ∧
    (k.transaction ≠ .inactive → exec (.selectAssert p) s = .next s) ∧
    (k.transaction = .inactive → released = .next s) ∧
    (k.transaction = .receiving → k.assembly ++ bytes = [] →
      released = .next (let t := s.silenced p; if incomplete then t.erred p else t)) ∧
    (∀ code rest, k.transaction = .receiving → k.assembly ++ bytes = code :: rest → commandRow code = none →
      released = .next (let t := ((s.erred p).refused p code .unknown 0)
        if incomplete then t.erred p else t)) ∧
    (∀ code rest r, k.transaction = .receiving → k.assembly ++ bytes = code :: rest → commandRow code = some r →
      (rest.length < r.callsFor rest → released = .next
        (let t := ((s.erred p).refused p code .format rest.length)
          if incomplete then t.erred p else t)) ∧
      (r.callsFor rest < rest.length → released =
        exec (.selectRelease p (code :: rest.take (r.callsFor rest)) incomplete)
          (let t := if r.reply = none then s.erred p else s
           { t with ports := t.ports.set p { t.port p with assembly := [] } }))) ∧
    (k.transaction = .readTaken .keep ∨ k.transaction = .ignored → released = .next (s.closed p)) ∧
    (k.transaction = .readTaken .clearPort → released = .next
      (let t : State := { s with
          ports := s.ports.set p { k with transaction := .inactive, assembly := [], errorCount := 0, overflow := false } }
        if incomplete then t.erred p else t)) ∧
    ∀ l late, k.transaction = .readTaken (.clearLink l late) → released = .next { s.closed p with
      links := s.links.set l { s.link l with errorCount := min late 127, overflow := decide (127 < late) } }

/-- A command's bytes in a transaction whose read has been taken, or at a port selected since before hardware reset, are
ignored (R178, R188): the row of a write command then only releases select, that of a read command does nothing (log 1). -/
def Obligations.CommandsInASpentTransactionAreIgnored : Prop :=
  ∀ (c : Instr) (p : PortId) (r : CommandRow) (s : State), c.sentOn = some (p, r) →
    (s.port p).transaction ≠ .inactive → (s.port p).transaction ≠ .receiving →
    (r.reply = none → exec c s = exec (.selectRelease p [] false) s) ∧ (r.reply.isSome → exec c s = .next s)

/-- Two and four bytes, most significant first (R198). -/
def Sys2Proof.Machine.wire16 (w : BitVec 16) : Bytes := [w.extractLsb' 8 8, w.extractLsb' 0 8]
def Sys2Proof.Machine.wire32 (w : BitVec 32) : Bytes :=
  [w.extractLsb' 24 8, w.extractLsb' 16 8, w.extractLsb' 8 8, w.extractLsb' 0 8]

/-- The parameter bytes of a port command (12, section 12.1). -/
def Sys2Proof.Instr.parameters : Instr → Bytes
  | .announcePanel _ panel length cls policy plan gap => wire16 panel ++ wire16 length ++ [cls, policy, plan] ++ wire16 gap
  | .withdrawPanel _ panel => wire16 panel
  | .planOpen _ plan ratio count slits => [plan, ratio, count] ++ slits.flatMap wire16
  | .planAppend _ plan count offsets => [plan, count] ++ offsets.flatMap wire16
  | .planClose _ plan => [plan]
  | .planDiscard _ plan => [plan]
  | .speedSet _ speed => wire16 speed
  | .minSpeedSet _ speed => wire16 speed
  | .filmStandby _ length => wire32 length
  | .filmThread _ length => wire32 length
  | .linkAcknowledge _ link => [link]
  | .linkTest _ link => [link]
  | .linkTestEnd _ link => [link]
  | .zoneDefine _ d1 d2 d3 d4 d5 => wire16 d1 ++ wire16 d2 ++ wire16 d3 ++ wire16 d4 ++ wire16 d5
  | .syncSet _ mode lead => mode :: wire16 lead
  | .thresholdSet _ high low => [high, low]
  | .registrationSet _ halfWidth tolerance => [halfWidth, tolerance]
  | .gapSet _ transition splice spacing => wire16 transition ++ wire16 splice ++ wire16 spacing
  | .scrapPanel _ panel => wire16 panel
  | .release _ number => [number]
  | .readMapEntry _ selector key => selector :: wire16 key
  | .readMapEntrySettled _ selector key => selector :: wire16 key
  | .readPlan _ selector key => [selector, key]
  | .readHoldContext _ depth => [depth]
  | .clearNotices _ set => wire32 set
  | .setNoticeMask _ mask => wire32 mask
  | .setLatchMasked _ option => [option]
  | .readErrorCount _ source => [source]
  | _ => []

/-- The bytes of a command, clocked between the assertion and the release of select, are the command (R176 to R179, R198): a
write command's bytes do at the release what its row does; a read command's do what its row does and the release after it. That a
row stands for its command's bytes is log 1, that SELECT_RELEASE carries the bytes clocked log 2: the model's choices. -/
def Obligations.WireBytesRunTheCommand : Prop :=
  ∀ (c : Instr) (p : PortId) (r : CommandRow) (s : State), c.sentOn = some (p, r) → c.WellFormed = true →
    (s.port p).transaction = .receiving → (s.port p).assembly = [] →
    (r.reply = none → exec (.selectRelease p (r.code :: c.parameters) false) s = exec c s) ∧
    (r.reply.isSome → ∃ t, exec c s = .next t ∧
      exec (.selectRelease p (r.code :: c.parameters) false) s = exec (.selectRelease p [] false) t)

/-! ### The PRINT port -/

/-- The checks of ANNOUNCE PANEL in R21's order, each with what its failure answers. -/
def Sys2Proof.Machine.announceChecks (panel length cls policy plan gap : Nat) (s : State) :
    List (Bool × PortOutcome × Nat) :=
  let head := max s.map.lastTail s.tracker.odometer + gap
  let distance := head - s.map.lastTail
  [(48 ≤ s.map.entries.length, .full, 48), (panel = 0, .range, 1), (length < 200 ∨ 30000 < length, .range, 2),
    (1 < cls, .range, 3), (2 < policy, .range, 4), (10000 < gap, .range, 5), (4294967295 < head + length, .range, 6),
    (match s.map.entries.find? (fun e => e.panel == panel) with
      | some e => (true, .duplicate, e.slot)
      | none => (false, .duplicate, 0)),
    (s.plans.plans.all (fun q => q.number ≠ plan), .unknown, plan),
    (¬ (cls = 1 ↔ s.map.lastClass = .film) ∧ distance < s.lam.transitionGap, .gap, distance),
    (s.lam.reservation.isSome ∧ distance < s.lam.spliceGap, .reserved, distance)]

/-- A refused ANNOUNCE PANEL: the first failing check of R21 gives the outcome and the value, and nothing else changes. -/
def Obligations.AnnouncementsAreRefusedInOrder : Prop :=
  ∀ (panel length : BitVec 16) (cls policy plan : Byte) (gap : BitVec 16) (s : State) (o : PortOutcome) (value : Nat),
    Ready .print s →
    (announceChecks panel.toNat length.toNat cls.toNat policy.toNat plan.toNat gap.toNat s).find? (fun x => x.1) =
      some (true, o, value) →
    exec (.announcePanel .print panel length cls policy plan gap) s = .next (s.refused .print 0x10 o value)

/-- An accepted ANNOUNCE PANEL (R17, R18, R22): the new entry at the end of the map, on the lowest free slot, the registers, the
plan's count, the reservation taken (R90), a SYNC pulse where a SYNC point of the entry stands at the odometer value (R13), the
splice search (R89), the transition decision where the entry's gap is open at the nip (R90), the levels, and the answer. -/
def Obligations.AnnouncementsAppendTheEntry : Prop :=
  ∀ (panel length : BitVec 16) (cls policy plan : Byte) (gap : BitVec 16) (s : State), Ready .print s →
    (announceChecks panel.toNat length.toNat cls.toNat policy.toNat plan.toNat gap.toNat s).all (fun x => x.1 = false) →
    ∃ slot ≤ 47, (∀ x ∈ s.map.entries, x.slot ≠ slot) ∧ (∀ n < slot, ∃ x ∈ s.map.entries, x.slot = n) ∧
      let head := max s.map.lastTail s.tracker.odometer + gap.toNat
      let lam := if cls.toNat = 1 then LamClass.film else LamClass.bare
      let e : MapEntry :=
        { slot := slot, panel := panel.toNat, head := head, length := length.toNat, cls := lam
          policy := if policy.toNat = 0 then .unmarked else if policy.toNat = 1 then .optional else .required
          plan := plan.toNat, tailBefore := s.map.lastTail
          phase := if head = s.tracker.odometer then .onWeb else .queued
          tailCleared := false, regResult := none, offset := 0, spliceGap := s.lam.reservation.isSome, scrap := none
          cutsMade := 0, cutsPending := 0
          window := if policy.toNat = 0 then none else
            some { expected := head + s.tracker.zones.mark, halfWidth := s.reg.halfWidth, status := .notOpen }
          nip := .ahead, slitter := .ahead }
      let point := s.tracker.odometer + s.tracker.syncLead
      let synced := (s.tracker.syncMode ≠ .off ∧ head = point) ∨ (s.tracker.syncMode = .headTail ∧ head + length.toNat = point)
      let u : State := State.searched { s with
        tracker := { s.tracker with syncPulse := if synced then some 1 else s.tracker.syncPulse }
        map := { s.map with entries := s.map.entries ++ [e], lastTail := head + length.toNat, lastClass := lam }
        plans := { s.plans with plans := s.plans.plans.map (fun q =>
          if q.number = plan.toNat then { q with refs := q.refs + 1 } else q) }
        lam := if s.lam.reservation.isSome then { s.lam with reservation := none, request := .placed e.target } else s.lam }
      let v := if u.atGap.map MapEntry.target = some e.target then u.decided else u
      exec (.announcePanel .print panel length cls policy plan gap) s = .next { v.mapLevels with
        ports := s.ports.set .print ((s.port .print).answered 0x10 .ok head (some slot)) }

/-- WITHDRAW PANEL (R19, R23, R24): only a QUEUED entry is withdrawn; the map closes up, the registers are those of the entry
then last, the plan's count falls, Laminator Control takes back a splice placed on it and searches anew (R91), and NEAR_FULL and
QUEUE_LOW are evaluated. -/
def Obligations.WithdrawalRemovesAQueuedEntry : Prop :=
  ∀ (panel : BitVec 16) (s : State), NamesApart s.map → Ready .print s →
    let run := exec (.withdrawPanel .print panel) s
    ((∀ e ∈ s.map.entries, e.panel ≠ panel.toNat) → run = .next (s.refused .print 0x11 .notFound 0)) ∧
    ∀ e ∈ s.map.entries, e.panel = panel.toNat →
      (e.phase ≠ .queued → run = .next (s.refused .print 0x11 .state e.slot)) ∧
      (e.phase = .queued →
        let left := s.map.entries.filter (fun x => x.slot ≠ e.slot)
        let u : State := { s.unreferenced e.plan with map := { s.map with
          entries := left
          lastTail := match left.getLast? with | some x => x.head + x.length | none => s.map.lastTail
          lastClass := match left.getLast? with | some x => x.cls | none => s.map.lastClass } }
        run = .next ((u.lamFreed e.target true).mapLevels.accepted .print 0x11 e.slot))

/-- The three bytes of a registration result: its flag, code and signed delta (R200). With UNREAD, which has no delta, the byte
sent is free (log 5). -/
def Sys2Proof.Machine.ResultBytes (r : Option RegResult) (b : Bytes) : Prop :=
  match r with
  | none => b = [0, 0, 0]
  | some (.on d) => b = [1, 0, BitVec.ofInt 8 d]
  | some (.ahead d) => b = [1, 1, BitVec.ofInt 8 d]
  | some (.behind d) => b = [1, 2, BitVec.ofInt 8 d]
  | some .unread => ∃ free, b = [1, 3, free]

/-- TAKE REPRINT (R36) and TAKE OUTCOME (R38): the oldest record is removed and sent, with the number left as result value; an
empty list answers EMPTY and a record of zeros. -/
def Obligations.TakesRemoveTheOldestRecord : Prop :=
  ∀ s : State,
    (s.busy = none → Listening .print s → s.map.reprints = [] → exec (.takeReprint .print) s = .next
      ({ s.resulted .print 0x12 .empty 0 with notices := s.notices.took 22 }.told .print [0x12] (List.replicate 8 0#8))) ∧
    (∀ r rest, s.busy = none → Listening .print s → s.map.reprints = r :: rest → exec (.takeReprint .print) s = .next
      (({ s with map := { s.map with reprints := rest } }.resulted .print 0x12 .ok rest.length).told .print [0x12]
        [1, BitVec.ofNat 8 (r.panel / 256), BitVec.ofNat 8 r.panel, BitVec.ofNat 8 r.plan,
          BitVec.ofNat 8 (r.length / 256), BitVec.ofNat 8 r.length, BitVec.ofNat 8 r.cls.code,
          BitVec.ofNat 8 r.reason.code])) ∧
    (s.busy = none → Listening .plan s → s.map.outcomes = [] → exec (.takeOutcome .plan) s = .next
      ({ s.resulted .plan 0x24 .empty 0 with notices := s.notices.took 22 }.told .plan [0x24] (List.replicate 11 0#8))) ∧
    (∀ r rest, s.busy = none → Listening .plan s → s.map.outcomes = r :: rest → ∃ b, ResultBytes r.regResult b ∧
      exec (.takeOutcome .plan) s = .next
        (({ s with map := { s.map with outcomes := rest } }.resulted .plan 0x24 .ok rest.length).told .plan [0x24]
          ([1, BitVec.ofNat 8 (r.panel / 256), BitVec.ofNat 8 r.panel, BitVec.ofNat 8 r.plan] ++
            (match r.reason with | some x => [1, 1, BitVec.ofNat 8 x.code] | none => [0, 0, 0]) ++ b ++
            [BitVec.ofNat 8 r.cutsMade])))

/-! ### The PLAN port -/

/-- PLAN OPEN (R49): its checks in order, and the plan made or made anew. -/
def Obligations.PlanOpenMakesAnOpenPlan : Prop :=
  ∀ (plan ratio count : Byte) (slits : List (BitVec 16)) (s : State), Ready .plan s →
    slits.length = min count.toNat 5 →
    let set := slits.map (fun x => x.toNat)
    let run := exec (.planOpen .plan plan ratio count slits) s
    let item := if ratio.toNat < 30 ∨ 100 < ratio.toNat then 1 else if 5 < count.toNat then 2
      else if ∃ x ∈ set, 5000 < x then 3 else 0
    (item ≠ 0 → run = .next (s.refused .plan 0x20 .range item)) ∧
    (item = 0 → ∀ q, s.plan plan.toNat = some q → 0 < q.refs → run = .next (s.refused .plan 0x20 .inUse q.refs)) ∧
    (item = 0 → s.plan plan.toNat = none → 24 ≤ s.plans.plans.length → run = .next (s.refused .plan 0x20 .full 24)) ∧
    (item = 0 → (∀ q, s.plan plan.toNat = some q → q.refs = 0) →
      (s.plan plan.toNat = none → s.plans.plans.length < 24) → ∃ t, run = .next t ∧
      t.plan plan.toNat = some
        { number := plan.toNat, state := .opened, ratio := ratio.toNat, slits := set, cuts := [], refs := 0 } ∧
      (∀ n, n ≠ plan.toNat → t.plan n = s.plan n) ∧ t.plans.spacing = s.plans.spacing ∧
      t.plans.plans.length = s.plans.plans.length + (if s.plan plan.toNat = none then 1 else 0) ∧
      t = { (s.accepted .plan 0x20 t.plans.plans.length) with plans := t.plans })

/-- PLAN APPEND (R50): its checks in order, and the offsets appended in the order given. -/
def Sys2Proof.Machine.PlanAppendAddsTheOffsets : Prop :=
  ∀ (plan count : Byte) (offsets : List (BitVec 16)) (s : State), Ready .plan s → offsets.length = min count.toNat 4 →
    let more := offsets.map (fun x => x.toNat)
    let run := exec (.planAppend .plan plan count offsets) s
    (s.plan plan.toNat = none → run = .next (s.refused .plan 0x21 .notFound 0)) ∧
    ∀ q, s.plan plan.toNat = some q →
      (q.state = .closed → run = .next (s.refused .plan 0x21 .state 0)) ∧
      (q.state = .opened → count.toNat < 1 ∨ 4 < count.toNat → run = .next (s.refused .plan 0x21 .range 1)) ∧
      (q.state = .opened → 1 ≤ count.toNat → count.toNat ≤ 4 →
        ((∃ x ∈ more, 30000 < x) → run = .next (s.refused .plan 0x21 .range 2)) ∧
        ((∀ x ∈ more, x ≤ 30000) → 12 < q.cuts.length + more.length →
          run = .next (s.refused .plan 0x21 .full q.cuts.length)) ∧
        ((∀ x ∈ more, x ≤ 30000) → q.cuts.length + more.length ≤ 12 →
          run = .next { (s.accepted .plan 0x21 (q.cuts.length + more.length)) with
            plans := { s.plans with plans := s.plans.plans.map (fun x =>
              if x.number = plan.toNat then { x with cuts := x.cuts ++ more } else x) } }))

/-- Item k of a list, counting from 1, is the first that stands wrongly after the one before it (R51). -/
def Sys2Proof.Machine.FirstWrong (ok : Nat → Nat → Prop) (xs : List Nat) (k : Nat) : Prop :=
  2 ≤ k ∧ k ≤ xs.length ∧ ¬ ok (xs.getD (k - 2) 0) (xs.getD (k - 1) 0) ∧
    ∀ j, 2 ≤ j → j < k → ok (xs.getD (j - 2) 0) (xs.getD (j - 1) 0)

/-- Every item stands rightly after the one before it (R51). -/
def Sys2Proof.Machine.NoneWrong (ok : Nat → Nat → Prop) (xs : List Nat) : Prop :=
  ∀ j, 2 ≤ j → j ≤ xs.length → ok (xs.getD (j - 2) 0) (xs.getD (j - 1) 0)

/-- PLAN CLOSE (R51): the five checks in order, the value of the first that fails, and a CLOSED plan when all pass. -/
def Obligations.PlanCloseChecksThePlan : Prop :=
  ∀ (plan : Byte) (s : State), Ready .plan s →
    let run := exec (.planClose .plan plan) s
    (s.plan plan.toNat = none → run = .next (s.refused .plan 0x22 .notFound 0)) ∧
    ∀ q, s.plan plan.toNat = some q →
      let apart (d : Nat) (x y : Nat) : Prop := x + d ≤ y
      let fails (value : Nat) : Prop := run = .next (s.refused .plan 0x22 .range value)
      let good2 := NoneWrong (apart 1) q.cuts
      let good3 := NoneWrong (apart s.plans.spacing) q.cuts
      let good4 := NoneWrong (apart 1) q.slits
      (q.state = .closed → run = .next (s.refused .plan 0x22 .state 0)) ∧
      (q.state = .opened →
        (q.cuts = [] → fails 100) ∧
        (q.cuts ≠ [] → ∀ k, FirstWrong (apart 1) q.cuts k → fails (200 + k)) ∧
        (q.cuts ≠ [] → good2 → ∀ k, FirstWrong (apart s.plans.spacing) q.cuts k → fails (300 + k)) ∧
        (q.cuts ≠ [] → good2 → good3 → ∀ k, FirstWrong (apart 1) q.slits k → fails (400 + k)) ∧
        (q.cuts ≠ [] → good2 → good3 → good4 → ∀ k, FirstWrong (apart 50) q.slits k → fails (500 + k)) ∧
        (q.cuts ≠ [] → good2 → good3 → good4 → NoneWrong (apart 50) q.slits →
          run = .next { (s.accepted .plan 0x22 q.cuts.length) with
            plans := { s.plans with plans := s.plans.plans.map (fun x =>
              if x.number = plan.toNat then { x with state := .closed } else x) } }))

/-- PLAN DISCARD (R52). The numbers in the store are distinct (R45). -/
def Sys2Proof.Machine.PlanDiscardRemovesAnUnusedPlan : Prop :=
  ∀ (plan : Byte) (s : State), (s.plans.plans.map (fun q => q.number)).Nodup → Ready .plan s →
    let run := exec (.planDiscard .plan plan) s
    let left := s.plans.plans.filter (fun x => x.number ≠ plan.toNat)
    (s.plan plan.toNat = none → run = .next (s.refused .plan 0x23 .notFound 0)) ∧
    ∀ q, s.plan plan.toNat = some q →
      (0 < q.refs → run = .next (s.refused .plan 0x23 .inUse q.refs)) ∧
      (q.refs = 0 → run = .next
        { (s.accepted .plan 0x23 left.length) with plans := { s.plans with plans := left } })

/-- PLAN APPEND and PLAN DISCARD. -/
def Obligations.PlansAreAppendedToAndDiscarded : Prop := PlanAppendAddsTheOffsets ∧ PlanDiscardRemovesAnUnusedPlan

/-! ### The CONSOLE port: the line -/

/-- LINE START (R71, R141): refused while a link is UNACKED or TEST; else ARMING, with its order for each link. -/
def Obligations.LineStartArmsTheLinks : Prop :=
  ∀ s : State, Ready .console s → s.line.state = .stopped →
    let blocked (l : LinkId) : Bool := (s.link l).state == .unacked || (s.link l).state == .test
    let run := exec (.lineStart .console) s
    (∀ l, [LinkId.feed, .lam, .slit, .xcut].find? blocked = some l →
      run = .next (s.refused .console 0x30 .condition (linkNumber l))) ∧
    ((∀ l, blocked l = false) → ∃ t, run = .next t ∧
      t.line.state = .arming ∧ t.line.go = false ∧ t.line.commanded = s.line.commanded ∧ t.line.target = 0 ∧
      t.line.setSpeed = s.line.setSpeed ∧ t.line.minSpeed = s.line.minSpeed ∧
      (∀ l, t.line.owed.get l = (if (s.link l).state = .parking then .wake else .nothing) ∧
        t.link l = (if (s.link l).state = .down then
          { s.link l with state := .waking, goGiven := false, faults := 0, wakeTimer := some 250 } else s.link l)) ∧
      t.reg = { s.reg with lock := .seeking, unreadRun := 0 } ∧ t.level .lineState = true ∧ t.level .regLock = false ∧
      t.ports = s.ports.set .console ((s.port .console).answered 0x30 .ok 0 none) ∧
      t = { s with line := t.line, links := t.links, reg := t.reg, ports := t.ports, notices := t.notices })

/-- LINE STOP (R136, R145, R146): the stack is emptied, wakes owed are dropped, and the line goes to rest: at once, with its
links parked or owing their park, where the commanded speed is 0. The ratio is read again and the ramp timer goes with the new
target (R148, R149); the rest of Line Control is as it was. -/
def Obligations.LineStopEmptiesTheStackAndStops : Prop :=
  ∀ s : State, Ready .console s → s.line.state ≠ .stopped → ∃ t, exec (.lineStop .console) s = .next t ∧
    t.hold = { s.hold with stack := [], overflow := false } ∧ t.level .holdActive = false ∧ t.reg = s.reg ∧
    t.line.go = false ∧ t.line.target = 0 ∧ t.line.commanded = s.line.commanded ∧ t.line.setSpeed = s.line.setSpeed ∧
    t.line.state = (if s.line.commanded = 0 then .stopped else .stopping) ∧
    t.line = { s.line with
      state := if s.line.commanded = 0 then .stopped else .stopping
      go := false, owed := t.line.owed, ratio := s.ratioAtNip }.steered s.line.commanded 0 ∧
    (s.line.commanded ≠ 0 → t.links = s.links) ∧
    (s.line.commanded = 0 → t.level .lineState = false ∧ ∀ l,
      let k := s.link l
      let up := k.state = .active ∨ k.state = .slipped
      (k.state = .armed ∨ (up ∧ k.op = none) → t.link l =
        { k with state := .parking, armTimer := none, flywheel := none, parkTimer := some 40 }) ∧
      (up ∧ k.op.isSome → t.link l = k ∧ t.line.owed.get l = .park) ∧
      (k.state ≠ .armed ∧ ¬ up → t.link l = k)) ∧
    (∀ l, t.line.owed.get l ≠ .wake) ∧
    (∀ l, let k := s.link l
      s.line.commanded ≠ 0 ∨ k.op = none ∨ (k.state ≠ .active ∧ k.state ≠ .slipped) →
        t.line.owed.get l = if s.line.owed.get l = .wake then .nothing else s.line.owed.get l) ∧
    t.ports = s.ports.set .console ((s.port .console).answered 0x31 .ok 0 none) ∧
    t = { s with line := t.line, links := t.links, hold := t.hold, ports := t.ports, notices := t.notices }

/-- SPEED SET and MIN SPEED SET (R148 to R151): the setting is stored, a commanded speed above a new S is lowered to it at
once, and the target is computed again. -/
def Obligations.SpeedSettingsSteerTheLine : Prop :=
  ∀ (v : BitVec 16) (s : State), Ready .console s →
    (1000 < v.toNat → exec (.speedSet .console v) s = .next (s.refused .console 0x32 .range 1)) ∧
    (v.toNat ≤ 1000 → s.line.commanded ≤ v.toNat →
      (s.line.state = .halting ∨ s.line.state = .stopping → s.line.commanded ≠ 0) →
      exec (.speedSet .console v) s = .next
        (({ s with line := { s.line with setSpeed := v.toNat } } : State).steered.accepted .console 0x32 v.toNat)) ∧
    (v.toNat ≤ 1000 → v.toNat < s.line.commanded → (s.line.rampTimer.isSome ↔ s.line.commanded ≠ s.line.target) →
      ∃ t, exec (.speedSet .console v) s = .next t ∧
      t.line.setSpeed = v.toNat ∧ t.line.commanded = v.toNat ∧
      t.line.state = (if v.toNat = 0 ∧ s.line.state = .halting then .held
        else if v.toNat = 0 ∧ s.line.state = .stopping then .stopped else s.line.state) ∧
      t.line.ratio = s.ratioAtNip ∧ t.line.target = speedGoal t.line.state v.toNat s.ratioAtNip s.line.minSpeed ∧
      (t.line.rampTimer.isSome ↔ t.line.commanded ≠ t.line.target) ∧
      t.ports = s.ports.set .console ((s.port .console).answered 0x32 .ok v.toNat none) ∧
      t = { s with line := t.line, links := t.links, ports := t.ports, notices := t.notices }) ∧
    (v.toNat < 50 ∨ 600 < v.toNat →
      exec (.minSpeedSet .console v) s = .next (s.refused .console 0x33 .range 1)) ∧
    (50 ≤ v.toNat → v.toNat ≤ 600 → exec (.minSpeedSet .console v) s = .next
      (({ s with line := { s.line with minSpeed := v.toNat } } : State).steered.accepted .console 0x33 v.toNat))

/-! ### The CONSOLE port: film -/

/-- FILM STANDBY (R86) and FILM THREAD (R85): the reel loaded; FILM_LOW and the automatic splice condition evaluated, which runs the
splice search where it holds (R84, R89); and for FILM THREAD the transition decision made again (R92). -/
def Obligations.FilmCommandsLoadTheReels : Prop :=
  ∀ (length : BitVec 32) (s : State), Ready .console s →
    let n := length.toNat
    let splicing := ∃ o, s.lam.op = some o ∧ o.kind = .splice
    (n < 1 ∨ 4000000 < n →
      exec (.filmStandby .console length) s = .next (s.refused .console 0x34 .range 1) ∧
      (s.line.state = .stopped ∨ s.line.state = .held →
        exec (.filmThread .console length) s = .next (s.refused .console 0x35 .range 1))) ∧
    (1 ≤ n → n ≤ 4000000 →
      (splicing → exec (.filmStandby .console length) s = .next (s.refused .console 0x34 .busy 0)) ∧
      (¬ splicing → exec (.filmStandby .console length) s = .next
        ((State.filmChecked { s with lam := { s.lam with standby := some n } }).accepted .console 0x34 n)) ∧
      (s.line.state = .stopped ∨ s.line.state = .held →
        (s.lam.op.isSome → exec (.filmThread .console length) s = .next (s.refused .console 0x35 .busy 0)) ∧
        (s.lam.op = none → exec (.filmThread .console length) s = .next
          ((State.filmChecked { s with lam := { s.lam with reelLength := n, remaining := n } }).decided.accepted
            .console 0x35 n))))

/-- SPLICE REQUEST (R87) and the splice search it runs (R89): the first entry, in web order, whose gap (R32) is long enough, which
is AHEAD of the nip and carries no splice gap yet, gets the splice; where there is none, a reservation is posted. -/
def Obligations.SpliceRequestSearchesForAGap : Prop :=
  ∀ s : State, Ready .console s →
    let run := exec (.spliceRequest .console) s
    let fits (v : EntryView) : Prop := s.lam.spliceGap ≤ v.gap ∧ v.entry.nip = .ahead ∧ v.entry.spliceGap = false
    (s.lam.standby = none → run = .next (s.refused .console 0x36 .condition 0)) ∧
    (s.lam.standby.isSome → s.lam.request ≠ .idle → run = .next (s.accepted .console 0x36 0)) ∧
    (s.lam.standby.isSome → s.lam.request = .idle →
      run = .next (s.wanting.accepted .console 0x36 1) ∧
      (∀ before v after, s.gapped = before ++ v :: after → fits v → (∀ u ∈ before, ¬ fits u) → ∃ t, run = .next t ∧
        t.lam.request = .placed v.entry.target ∧ t.lam.reservation = none ∧
        t.map = { s.map with entries := s.entriesWith v.entry.target (fun e => { e with spliceGap := true }) } ∧
        t.ports = s.ports.set .console ((s.port .console).answered 0x36 .ok 1 none) ∧
        t = { s with map := t.map, lam := t.lam, links := t.links, ports := t.ports, notices := t.notices }) ∧
      ((∀ v ∈ s.gapped, ¬ fits v) → run = .next { (s.accepted .console 0x36 1) with
        lam := { s.lam with request := .wanted, reservation := some (s.lam.reservation.getD s.lam.spliceGap) }
        notices := if s.lam.reservation.isSome then s.notices else s.notices.took 15 }))

/-! ### The CONSOLE port: links and settings -/

/-- LINK ACKNOWLEDGE (R166), which wakes the link where the line is not STOPPED; LINK TEST (R167), which fails an operation in flight
at Line Control (R147) and its asker (R95, R110, R117) without a fault hold; LINK TEST END. The held LINK_UP level agrees with
the link (R189). -/
def Obligations.LinkCommandsMoveTheLink : Prop :=
  ∀ (number : Byte) (s : State), Ready .console s →
    (number.toNat < 1 ∨ 4 < number.toNat →
      exec (.linkAcknowledge .console number) s = .next (s.refused .console 0x37 .range 1) ∧
      (s.line.state = .stopped → exec (.linkTest .console number) s = .next (s.refused .console 0x38 .range 1)) ∧
      exec (.linkTestEnd .console number) s = .next (s.refused .console 0x39 .range 1)) ∧
    ∀ l, number.toNat = linkNumber l → s.level (.linkUp l) = ((s.link l).state == .active) →
      let k := s.link l
      (k.state ≠ .unacked → exec (.linkAcknowledge .console number) s = .next (s.refused .console 0x37 .state 0)) ∧
      (k.state = .unacked → s.line.state = .stopped → exec (.linkAcknowledge .console number) s = .next
        { (s.accepted .console 0x37 number.toNat) with links := s.links.set l { k with state := .down } }) ∧
      (k.state = .unacked → s.line.state ≠ .stopped →
        exec (.linkAcknowledge .console number) s = .next
          { (s.accepted .console 0x37 number.toNat) with
            links := s.links.set l { k with state := .waking, goGiven := false, faults := 0, wakeTimer := some 250 }
            line := if s.line.state = .arming ∧ s.line.owed.get l = .wake then
                { s.line with owed := s.line.owed.set l .nothing }
              else s.line }) ∧
      (s.line.state = .stopped → exec (.linkTest .console number) s = .next
        (((s.linked l { k with
          state := .test, wakeTimer := none, armTimer := none, flywheel := none, parkTimer := none, op := none
          testCount := 0 }).failing l k.op).accepted .console 0x38 number.toNat)) ∧
      (k.state ≠ .test → exec (.linkTestEnd .console number) s = .next (s.refused .console 0x39 .state 0)) ∧
      (k.state = .test → s.line.state ≠ .arming → exec (.linkTestEnd .console number) s = .next
        { (s.accepted .console 0x39 k.testCount) with links := s.links.set l { k with state := .down } })

/-- ZONE DEFINE (R6): taken with the line STOPPED and the map empty, refused by the first of its six checks that fails. -/
def Sys2Proof.Machine.ZoneDefineChecksTheSeparations : Prop :=
  ∀ (d1 d2 d3 d4 d5 : BitVec 16) (s : State), Ready .console s →
    let run := exec (.zoneDefine .console d1 d2 d3 d4 d5) s
    let checks : List Bool := [d1.toNat < 200, d2.toNat < d1.toNat + 200, d3.toNat < d2.toNat + 100,
      d4.toNat < d3.toNat + 200, d5.toNat < d4.toNat + 100, 30000 < d5.toNat]
    let fails := checks.findIdx? (fun x => x)
    (s.line.state ≠ .stopped ∨ s.map.entries ≠ [] → run = .next (s.refused .console 0x3A .state 0)) ∧
    (s.line.state = .stopped → s.map.entries = [] →
      (∀ i, fails = some i → run = .next (s.refused .console 0x3A .range (i + 1))) ∧
      (fails = none → run = .next { (s.accepted .console 0x3A 0) with tracker := { s.tracker with
        zones := { mark := d1.toNat, nip := d2.toNat, commit := d3.toNat, slit := d4.toNat, knife := d5.toNat } } }))

/-- SYNC SET (R12, R13): both settings replaced; a new SYNC point at the present odometer gives its pulse at once, and a pulse
in progress goes on. Not at the odometer's top, where nothing is crossed (R3, log 12). -/
def Obligations.SyncSetReplacesTheSyncPoints : Prop :=
  ∀ (mode : Byte) (lead : BitVec 16) (s : State), Ready .console s →
    let run := exec (.syncSet .console mode lead) s
    (2 < mode.toNat → run = .next (s.refused .console 0x3B .range 1)) ∧
    (mode.toNat ≤ 2 → 2000 < lead.toNat → run = .next (s.refused .console 0x3B .range 2)) ∧
    (mode.toNat ≤ 2 → lead.toNat ≤ 2000 →
      let m := if mode.toNat = 0 then SyncMode.off else if mode.toNat = 1 then .head else .headTail
      let u : State := { s with tracker := { s.tracker with syncMode := m, syncLead := lead.toNat } }
      (4294967295 ≤ s.tracker.odometer → run = .next (u.accepted .console 0x3B 0)) ∧
      (s.tracker.odometer < 4294967295 → ∀ pulse, u.pulseAt s.tracker.odometer pulse →
        run = .next { (u.accepted .console 0x3B 0) with tracker := { u.tracker with syncPulse := pulse } }))

/-- THRESHOLD SET (R43). -/
def Sys2Proof.Machine.ThresholdSetReplacesBothThresholds : Prop :=
  ∀ (high low : Byte) (s : State), Ready .console s →
    let run := exec (.thresholdSet .console high low) s
    (high.toNat < 1 ∨ 47 < high.toNat → run = .next (s.refused .console 0x3C .range 1)) ∧
    (1 ≤ high.toNat → high.toNat ≤ 47 → 47 < low.toNat → run = .next (s.refused .console 0x3C .range 2)) ∧
    (1 ≤ high.toNat → high.toNat ≤ 47 → low.toNat ≤ 47 → ∃ t, run = .next t ∧
      t = { (s.accepted .console 0x3C 0) with
        map := { s.map with high := high.toNat, low := low.toNat }, notices := t.notices } ∧
      t.level .nearFull = decide (high.toNat ≤ s.map.entries.length) ∧
      t.level .queueLow = decide (s.map.entries.countP (fun e => e.phase == .queued) ≤ low.toNat) ∧
      (t.level .nearFull ≠ s.level .nearFull → s.Latched t 4) ∧ (t.level .queueLow ≠ s.level .queueLow → s.Latched t 5))

/-- REGISTRATION SET (R64). -/
def Sys2Proof.Machine.RegistrationSetReplacesBothSettings : Prop :=
  ∀ (w tolerance : Byte) (s : State), Ready .console s →
    let run := exec (.registrationSet .console w tolerance) s
    let wGood := 5 ≤ w.toNat ∧ w.toNat ≤ 100
    (¬ wGood → run = .next (s.refused .console 0x3D .range 1)) ∧
    (wGood → 20 < tolerance.toNat → run = .next (s.refused .console 0x3D .range 2)) ∧
    (wGood → tolerance.toNat ≤ 20 → w.toNat ≤ tolerance.toNat → run = .next (s.refused .console 0x3D .range 3)) ∧
    (wGood → tolerance.toNat ≤ 20 → tolerance.toNat < w.toNat → run = .next { (s.accepted .console 0x3D 0) with
      reg := { s.reg with halfWidth := w.toNat, tolerance := tolerance.toNat } })

/-- GAP SET (R47, R88). -/
def Sys2Proof.Machine.GapSetReplacesTheThreeSettings : Prop :=
  ∀ (transition splice spacing : BitVec 16) (s : State), Ready .console s →
    let run := exec (.gapSet .console transition splice spacing) s
    let good1 := 100 ≤ transition.toNat ∧ transition.toNat ≤ 2000
    let good2 := 200 ≤ splice.toNat ∧ splice.toNat ≤ 2000
    let good3 := 40 ≤ spacing.toNat ∧ spacing.toNat ≤ 1000
    (¬ good1 → run = .next (s.refused .console 0x3E .range 1)) ∧
    (good1 → ¬ good2 → run = .next (s.refused .console 0x3E .range 2)) ∧
    (good1 → good2 → ¬ good3 → run = .next (s.refused .console 0x3E .range 3)) ∧
    (good1 → good2 → good3 → run = .next { (s.accepted .console 0x3E 0) with
      lam := { s.lam with
        transitionGap := transition.toNat, spliceGap := splice.toNat
        reservation := if s.lam.reservation.isSome then some splice.toNat else none }
      plans := { s.plans with spacing := spacing.toNat } })

/-- ZONE DEFINE, THRESHOLD SET, REGISTRATION SET and GAP SET. -/
def Obligations.ZoneThresholdRegistrationAndGapSettings : Prop :=
  ZoneDefineChecksTheSeparations ∧ ThresholdSetReplacesBothThresholds ∧ RegistrationSetReplacesBothSettings ∧
    GapSetReplacesTheThreeSettings

/-- SCRAP PANEL and the scrap claim it makes (R33, R34, R111, R112): the first reason stays; a new one writes a reprint record,
raises PANEL_SCRAPPED, turns the CUT entries of a panel past its commit point to WASTE, and hands on or removes its UNISSUED slit
entry. -/
def Obligations.ScrapPanelClaimsThePanel : Prop :=
  ∀ (panel : BitVec 16) (s : State), NamesApart s.map → Ready .console s →
    let run := exec (.scrapPanel .console panel) s
    ((∀ e ∈ s.map.entries, e.panel ≠ panel.toNat) → run = .next (s.refused .console 0x3F .notFound 0)) ∧
    ∀ e ∈ s.map.entries, e.panel = panel.toNat →
      (e.scrap.isSome → run = .next (s.accepted .console 0x3F 0)) ∧
      (e.scrap = none → run = .next ((s.claimed e.target .operator).accepted .console 0x3F 1)) ∧
      (e.scrap = none → ∃ t, run = .next t ∧
        (e.phase = .queued ∨ e.phase = .onWeb → t.map = { s.map with
            entries := s.entriesWith e.target (fun x => { x with scrap := some .operator })
            reprints := s.reprintsWith e .operator } ∧ t.cut = s.cut ∧ t.links = s.links) ∧
        t.entry e.target = some { e with scrap := some .operator } ∧
        (t.map.reprints.take (s.reprintsWith e .operator).length = s.reprintsWith e .operator) ∧
        (e.phase = .committed ∨ e.phase = .atKnife → ∀ c ∈ t.cut.xcut, c.owner = e.target → c.kind = .waste) ∧
        t.cut.xcut.map (fun c => (c.position, c.owner, c.step)) = s.cut.xcut.map (fun c => (c.position, c.owner, c.step)) ∧
        s.Latched t 11 ∧ s.Latched t (if s.map.reprints.length < 16 then 12 else 13) ∧
        t.ports = s.ports.set .console ((s.port .console).answered 0x3F .ok 1 none) ∧
        t = { s with map := t.map, cut := t.cut, links := t.links, ports := t.ports, notices := t.notices })

/-- LINE RESET (R186, and R4, R11, R44, R62, R78, R80, R99, R119, R137, R139, R173, R196): what each block clears and keeps, the
raw levels of the cleared blocks, no notice left latched, and the busy period begun. -/
def Obligations.LineResetClearsTheBlocks : Prop :=
  ∀ s : State, Ready .console s → s.line.state = .stopped →
    let auto := s.lam.remaining ≤ 20000 ∧ s.lam.standby.isSome
    ∃ t, exec (.lineReset .console) s = .next t ∧
      t.tracker = { odometer := 0, debt := 0, zones := s.tracker.zones, syncMode := .off, syncLead := 0, syncPulse := none } ∧
      t.map = { entries := [], lastTail := 0, lastClass := .bare, reprints := [], outcomes := [], high := 40, low := 4 } ∧
      t.plans = { plans := s.plans.plans.map (fun q => { q with refs := 0 }), spacing := 100 } ∧
      t.reg = { halfWidth := 40, tolerance := 2, lock := .seeking, unreadRun := 0 } ∧
      t.lam = { nip := s.lam.nip, op := none, reelLength := s.lam.reelLength, remaining := s.lam.remaining
                standby := s.lam.standby, request := if auto then .wanted else .idle
                reservation := if auto then some 500 else none
                filmLow := 20000, transitionGap := 300, spliceGap := 500 } ∧
      t.cut = { xcut := [], slit := [], cutFlight := none, moveFlight := none, current := .known [] } ∧
      (∀ l, t.link l = { s.link l with
        state := .down, goGiven := false, wakeTimer := none, armTimer := none, flywheel := none, parkTimer := none
        faults := 0, op := none, lastSeen := none }) ∧
      t.line = { s.line with
        setSpeed := 0, minSpeed := 150, ratio := 100, atNip := none
        owed := { feed := .nothing, lam := .nothing, slit := .nothing, xcut := .nothing } } ∧
      t.hold = { stack := [], nextNumber := 1, overflow := false } ∧
      t.port .console = { (s.port .console).answered 0x40 .ok 0 none with settled := .empty } ∧
      (∀ p, p ≠ .console → t.port p = { s.port p with
        settled := .empty
        result := match (s.port p).settled with
          | .waiting w => { code := 0x54, outcome := .notFound, value := BitVec.ofNat 32 w.slot, slot := none }
          | _ => (s.port p).result }) ∧
      t.busy = some 5 ∧
      t.level .lineState = false ∧ t.level .holdActive = false ∧ t.level .regLock = false ∧
      t.level .filmLow = decide (s.lam.remaining ≤ 20000) ∧ t.level .nearFull = false ∧ t.level .queueLow = true ∧
      (∀ l, t.level (.linkUp l) = false) ∧
      (∀ p, t.notices.copies.get p = { s.notices.copies.get p with latched := 0, attn := false }) ∧
      t.freeTick = s.freeTick

/-! ### The commands of every port -/

/-- HOLD (R122 to R125, R140): a record on top, under a number no other carries. -/
def Sys2Proof.Machine.HoldPushes : Prop :=
  ∀ (p : PortId) (s : State), Ready p s → s.line.state ≠ .stopped →
    (4 ≤ s.hold.stack.length → exec (.hold p) s = .next (s.refused p 0x50 .full 4)) ∧
    (s.hold.stack.length < 4 → ∃ t, exec (.hold p) s = .next t ∧
      PushTaken (pushedRecord s (.port p) .operator noDetail) s t ∧
      (1 ≤ s.hold.nextNumber → s.hold.nextNumber ≤ 255 →
        1 ≤ t.hold.nextNumber ∧ t.hold.nextNumber ≤ 255 ∧ ∀ r ∈ t.hold.stack, r.number ≠ t.hold.nextNumber) ∧
      HaltTaken s t ∧ t.level .holdActive = true ∧
      t.ports = s.ports.set p ((s.port p).answered 0x50 .ok s.hold.nextNumber none) ∧
      t = { s with hold := t.hold, line := t.line, ports := t.ports, notices := t.notices })

/-- The release condition of a reason (R129). -/
def Sys2Proof.Machine.ConditionMet (s : State) : HoldReason → Prop
  | .operator => True
  | .regLost => True
  | .filmOut => 0 < s.lam.remaining
  | .estop => s.line.estop = false
  | .linkLost => ∀ l, (s.link l).state = .active
  | .linkFault => ∀ l, (s.link l).state = .active
  | .stationTimeout => ∀ l, (s.link l).state = .active
  | .webReverse => s.tracker.debt = 0
  | .odometer => False

/-- RELEASE (R128 to R132, R140, R152): its checks in order; the record popped, with the RELEASED records under it, or tagged;
an empty stack takes HALTING and HELD to RUN, or, with the emergency-stop input active, brings a new ESTOP record. -/
def Sys2Proof.Machine.ReleasePopsOrTags : Prop :=
  ∀ (p : PortId) (number : Byte) (s : State), Ready p s → RunsWithoutHolds s →
    let run := exec (.release p number) s
    (s.hold.stack = [] → run = .next (s.refused p 0x51 .empty 0)) ∧
    (s.hold.stack ≠ [] → (∀ r ∈ s.hold.stack, r.number ≠ number.toNat) → run = .next (s.refused p 0x51 .notFound 0)) ∧
    ∀ above r below, s.hold.stack = above ++ r :: below → r.number = number.toNat →
      (∀ x ∈ above, x.number ≠ number.toNat) →
      let depth := above.length
      let forbidden := p ≠ .console ∧ r.owner ≠ .port p
      let stack := if above = [] then below.dropWhile (fun x => x.tag == .released)
        else above ++ { r with tag := .released } :: below
      let resumes := stack = [] ∧ (s.line.state = .halting ∨ s.line.state = .held)
      let hold := { s.hold with stack := stack, overflow := if stack = [] then false else s.hold.overflow }
      (r.tag = .released → run = .next (s.refused p 0x51 .state depth)) ∧
      (r.tag = .active → forbidden → run = .next (s.refused p 0x51 .owner depth)) ∧
      (r.tag = .active → ¬ forbidden → ¬ ConditionMet s r.reason → run = .next (s.refused p 0x51 .condition depth)) ∧
      (r.tag = .active → ¬ forbidden → ConditionMet s r.reason → ∃ t, run = .next t ∧
        t.reg = (if r.reason = .regLost then { s.reg with lock := .seeking, unreadRun := 0 } else s.reg) ∧
        (¬ resumes → t.hold = hold ∧ t.line = s.line) ∧
        (resumes → s.line.estop = false → t.hold = hold ∧ t.line.state = .run ∧
          t.line.commanded = s.line.commanded ∧
          t.line.ratio = s.ratioAtNip ∧ t.line.target = speedGoal .run s.line.setSpeed s.ratioAtNip s.line.minSpeed) ∧
        (resumes → s.line.estop = true →
          FaultTaken .estop noDetail { s with hold := hold } t ∧ t.line = s.line ∧ s.Latched t 17) ∧
        t.level .holdActive = decide (t.hold.stack ≠ []) ∧
        t.ports = s.ports.set p ((s.port p).answered 0x51 .ok stack.length none) ∧
        t = { s with hold := t.hold, line := t.line, reg := t.reg, ports := t.ports, notices := t.notices })

/-- HOLD and RELEASE. -/
def Obligations.HoldsArePushedAndReleased : Prop := HoldPushes ∧ ReleasePopsOrTags

/-- The field codes of section 12.2. -/
def Sys2Proof.Machine.FieldCodes : Prop :=
  [LamClass.bare, .film].map LamClass.code = [0, 1] ∧
  [MarkPolicy.unmarked, .optional, .required].map MarkPolicy.code = [0, 1, 2] ∧
  [Phase.queued, .onWeb, .committed, .atKnife].map Phase.code = [0, 1, 2, 3] ∧
  (∀ d, [RegResult.on d, .ahead d, .behind d, .unread].map RegResult.code = [0, 1, 2, 3]) ∧
  [ScrapReason.planUnderrun, .planMismatch, .regUnread, .lamLate, .filmOut, .slitLate, .cutMissed, .stationFail,
    .queueFull, .operator].map ScrapReason.code = [1, 2, 3, 4, 5, 6, 7, 8, 9, 10] ∧
  [PlanState.opened, .closed].map PlanState.code = [0, 1] ∧
  (∀ k, [CutStep.offset k, .wasteHead, .wasteTail].map CutStep.code = [k, 13, 14]) ∧
  [CutKind.cut, .waste].map CutKind.code = [0, 1] ∧
  [NipState.opened, .closed].map NipState.code = [0, 1] ∧
  [OpKind.cut, .move, .nipOpen, .nipClose, .splice].map OpKind.code = [1, 2, 3, 4, 5] ∧
  (∀ t, [SpliceRequest.idle, .wanted, .placed t].map SpliceRequest.code = [0, 1, 2]) ∧
  [SyncMode.off, .head, .headTail].map SyncMode.code = [0, 1, 2] ∧
  [LockState.seeking, .locked, .slipping, .lost].map LockState.code = [0, 1, 2, 3] ∧
  [LineState.stopped, .arming, .run, .halting, .held, .stopping].map LineState.code = [0, 1, 2, 3, 4, 5] ∧
  [Owed.nothing, .wake, .park].map Owed.code = [0, 1, 2] ∧
  [LinkState.down, .waking, .armed, .active, .slipped, .parking, .unacked, .test].map LinkState.code =
    [0, 1, 2, 3, 4, 5, 6, 7] ∧
  [LinkId.feed, .lam, .slit, .xcut].map linkNumber = [1, 2, 3, 4] ∧
  [HoldTag.active, .released].map HoldTag.code = [1, 2] ∧
  [HoldOwner.port .print, .port .plan, .port .console, .line].map HoldOwner.code = [1, 2, 3, 4] ∧
  [HoldReason.operator, .filmOut, .regLost, .linkLost, .linkFault, .stationTimeout, .estop, .odometer,
    .webReverse].map HoldReason.code = [1, 2, 3, 4, 5, 6, 7, 8, 9] ∧
  [PortOutcome.ok, .pending, .empty, .full, .range, .duplicate, .unknown, .gap, .reserved, .state, .notFound, .inUse,
    .condition, .owner, .busy, .role, .format].map PortOutcome.code =
      [0, 1, 2, 3, 4, 5, 6, 7, 8, 9, 10, 11, 12, 13, 14, 15, 16] ∧
  [StationCommand.quiet, .wake, .arm, .run, .op, .park, .test].map StationCommand.code = [0, 1, 2, 3, 4, 5, 6] ∧
  [Indication.off, .ready, .engaged, .busy, .fault, .parked].map Indication.code = [0, 1, 2, 3, 4, 5]

/-- The entry a selector and key choose, with the gap before it (R32, R199). -/
def Sys2Proof.Machine.State.chosen (s : State) (selector : Byte) (key : BitVec 16) : Option EntryView :=
  if selector.toNat = 0 ∧ key.toNat ≠ 0 then s.gapped.find? (fun v => v.entry.panel == key.toNat)
  else if selector.toNat = 1 then s.gapped[key.toNat]? else none

/-- Fields of one, two and four bytes (R197, chapter 12); a flag; an optional field of n bytes behind its flag (R200); five or more
two-byte places of a list, 0 beyond its count. -/
def Sys2Proof.Machine.n8 (n : Nat) : Bytes := [BitVec.ofNat 8 n]
def Sys2Proof.Machine.n16 (n : Nat) : Bytes := wire16 (BitVec.ofNat 16 n)
def Sys2Proof.Machine.n32 (n : Nat) : Bytes := wire32 (BitVec.ofNat 32 n)
def Sys2Proof.Machine.flag8 (p : Prop) [Decidable p] : Bytes := if p then [1] else [0]
def Sys2Proof.Machine.opt8 {α : Type} (n : Nat) (o : Option α) (f : α → Bytes) : Bytes :=
  match o with
  | some x => 1 :: f x
  | none => List.replicate (n + 1) 0
def Sys2Proof.Machine.places (n : Nat) (xs : List Nat) : Bytes := ((xs ++ List.replicate n 0).take n).flatMap n16

/-- A slot with its panel number, and a slot, each behind its flag. -/
def Sys2Proof.Machine.named24 (t : Option Target) : Bytes := opt8 3 t (fun t => n8 t.slot ++ n16 t.panel)
def Sys2Proof.Machine.slot8 (t : Option Target) : Bytes := opt8 1 t (fun t => n8 t.slot)

/-- A map entry record (12, section 12.3); all zeros for no entry. The delta byte of UNREAD is free (log 5). -/
def Sys2Proof.Machine.RecordOf (x : Option EntryView) (record : Bytes) : Prop :=
  match x with
  | none => record = List.replicate 28 0#8
  | some v =>
    let e := v.entry
    ∃ b, ResultBytes e.regResult b ∧
      record = [1] ++ n8 e.slot ++ n16 e.panel ++ n32 e.head ++ n16 e.length ++ n8 e.cls.code ++ n8 e.policy.code ++
        n8 e.plan ++ n8 e.phase.code ++ flag8 (e.tailCleared = true) ++ b ++ [BitVec.ofInt 8 e.offset] ++
        flag8 (e.spliceGap = true) ++ opt8 1 e.scrap (fun r => n8 r.code) ++ n8 e.cutsMade ++ n8 e.cutsPending ++ n32 v.gap

/-- A plan record (12, section 12.3). -/
def Sys2Proof.Machine.planBytes (q : Option Plan) : Bytes :=
  opt8 40 q (fun q => n8 q.number ++ n8 q.state.code ++ n8 q.ratio ++ n8 q.refs ++ n8 q.slits.length ++ places 5 q.slits ++
    n8 q.cuts.length ++ places 12 q.cuts)

/-- A hold context record (12, section 12.3), led by the tag, EMPTY 0. -/
def Sys2Proof.Machine.holdBytes (r : Option HoldRecord) : Bytes :=
  match r with
  | none => List.replicate 18 0
  | some r =>
    n8 r.tag.code ++ n8 r.number ++ n8 r.owner.code ++ n8 r.reason.code ++ n32 r.odometer ++ n8 r.lineBefore.code ++
      n16 r.speedBefore ++ named24 r.detail.panel ++ opt8 1 r.detail.link (fun l => n8 (linkNumber l)) ++ n8 r.repeats

/-- The parts of the status record that hold no free byte: Web Tracker to Registration Checker, Laminator Control around the splice
slot, Hold Unit to Partner Ports (12, section 12.3). -/
def Sys2Proof.Machine.statusToReg (s : State) : Bytes :=
  let z := s.tracker.zones
  n32 s.tracker.odometer ++ n16 s.tracker.debt ++ places 5 [z.mark, z.nip, z.commit, z.slit, z.knife] ++
    n8 s.tracker.syncMode.code ++ n16 s.tracker.syncLead ++
    n8 s.map.entries.length ++ n8 (s.map.entries.countP (fun e => e.phase = .queued)) ++ n32 s.map.lastTail ++
    n8 s.map.lastClass.code ++ n8 s.map.reprints.length ++ n8 s.map.outcomes.length ++ n8 s.map.high ++ n8 s.map.low ++
    flag8 (s.map.high ≤ s.map.entries.length) ++
    flag8 (s.map.entries.countP (fun e => e.phase = .queued) ≤ s.map.low) ++
    n8 s.plans.plans.length ++ n8 (s.plans.plans.countP (fun q => q.state = .opened)) ++ n16 s.plans.spacing ++
    n8 s.reg.lock.code ++ n8 s.reg.unreadRun ++ flag8 (s.reg.lock = .locked) ++ n8 s.reg.halfWidth ++
    n8 s.reg.tolerance ++ named24 (s.openWindow.map MapEntry.target)

def Sys2Proof.Machine.statusLamBytes (s : State) (slot : Byte) : Bytes :=
  let k := s.lam
  n8 k.nip.code ++ opt8 4 k.op (fun o => n8 o.kind.code ++ n8 o.final.code ++ slot8 o.target) ++ n32 k.reelLength ++
    n32 k.remaining ++ opt8 4 k.standby n32 ++ n8 k.request.code ++ [slot] ++ opt8 2 k.reservation n16 ++
    flag8 (k.remaining ≤ k.filmLow) ++ n16 k.transitionGap ++ n16 k.spliceGap ++ named24 s.nipEntry

def Sys2Proof.Machine.statusCutBytes (k : CutControl) (position deadline : Bytes) : Bytes :=
  let lanes := match k.current with | .known lanes => lanes | .unknown => []
  n8 k.xcut.length ++ n8 k.slit.length ++
    opt8 7 k.xcut.head? (fun c => position ++ n8 c.owner.slot ++ n8 c.step.code ++ n8 c.kind.code) ++
    opt8 3 k.cutFlight (fun c => n8 c.owner.slot ++ n8 c.step.code ++ n8 c.kind.code) ++
    opt8 6 k.slit.head? (fun x => n8 x.owner.slot ++ deadline ++ flag8 (x.issued = true)) ++
    opt8 2 k.moveFlight (fun m => slot8 m.owner) ++ flag8 (k.current = .unknown) ++ n8 lanes.length ++ places 5 lanes

def Sys2Proof.Machine.statusFromHold (s : State) : Bytes :=
  let k := s.line
  let link (k : Link) : Bytes :=
    n8 k.state.code ++ flag8 (k.goGiven = true) ++ opt8 4 k.op (fun o => n8 o.kind.code ++ n8 o.tag ++ slot8 o.target) ++
      n8 k.nextTag ++ opt8 2 k.lastSeen (fun p => n8 p.1.code ++ n8 p.2) ++ n16 k.faultReport ++ n16 k.testCount ++
      flag8 (k.state = .active)
  let errors (k : Port) : Bytes := n8 k.errorCount ++ flag8 (k.overflow = true)
  n8 s.hold.stack.length ++ flag8 (s.hold.stack ≠ []) ++ flag8 (s.hold.overflow = true) ++ n8 s.hold.nextNumber ++
    (match s.hold.stack with | r :: _ => n8 r.number ++ n8 r.owner.code ++ n8 r.reason.code | [] => [0, 0, 0]) ++
    n8 k.state.code ++ n16 k.setSpeed ++ n16 k.minSpeed ++ n16 k.target ++ n16 k.commanded ++ n8 k.ratio ++
    flag8 (k.estop = true) ++ flag8 (k.go = true) ++ n8 k.owed.feed.code ++ n8 k.owed.lam.code ++ n8 k.owed.slit.code ++
    n8 k.owed.xcut.code ++ link s.links.feed ++ link s.links.lam ++ link s.links.slit ++ link s.links.xcut ++
    flag8 (s.busy ≠ none) ++ errors s.ports.print ++ errors s.ports.plan ++ errors s.ports.console

/-- The status record (R184; 12, section 12.3): 208 bytes. The splice slot of a request that is not PLACED is free (log 5), and so
are a position and a deadline above the odometer's top (log 4). -/
def Sys2Proof.Machine.StatusOf (s : State) (record : Bytes) : Prop :=
  record.length = 208 ∧ ∃ (slot : Byte) (position deadline : Bytes), position.length = 4 ∧ deadline.length = 4 ∧
    (∀ t, s.lam.request = .placed t → slot = BitVec.ofNat 8 t.slot) ∧
    (∀ c ∈ s.cut.xcut.head?, c.position ≤ 4294967295 → position = n32 c.position) ∧
    (∀ x ∈ s.cut.slit.head?, x.deadline ≤ 4294967295 → deadline = n32 x.deadline) ∧
    record = statusToReg s ++ statusLamBytes s slot ++ statusCutBytes s.cut position deadline ++ statusFromHold s

/-- The plain reads (R39, R53, R134, R183 to R185, R194): each shows state, in the layout of section 12.3, and changes none of it
but the port's reply. The bits of the notices record that name no notice are sent as 0 (log 27, the model's choice). -/
def Sys2Proof.Machine.PlainReadsShowTheState : Prop :=
  ∀ (p : PortId) (s : State), Listening p s →
    (∃ record, StatusOf s record ∧ exec (.readStatus p) s = .next (s.told p [0x52] record)) ∧
    exec (.readIdent p) s = .next (s.told p [0x5D] [0x4C, 0x30, 0x01]) ∧
    (s.busy = none →
      (∀ selector key, ∃ record, RecordOf (s.chosen selector key) record ∧
        exec (.readMapEntry p selector key) s = .next (s.told p (0x53 :: selector :: wire16 key) record)) ∧
      (∀ selector key : Byte, exec (.readPlan p selector key) s = .next (s.told p [0x55, selector, key]
        (planBytes (if selector.toNat = 0 then s.plans.plans.find? (fun q => q.number == key.toNat)
          else if selector.toNat = 1 then s.plans.plans[key.toNat]? else none)))) ∧
      (∀ depth : Byte,
        exec (.readHoldContext p depth) s = .next (s.told p [0x56, depth] (holdBytes s.hold.stack[depth.toNat]?))) ∧
      exec (.readResult p) s = .next (s.told p [0x57]
        ([(s.port p).result.code, BitVec.ofNat 8 (s.port p).result.outcome.code] ++ wire32 (s.port p).result.value ++
          opt8 1 (s.port p).result.slot n8)) ∧
      exec (.readNotices p) s = .next (s.told p [0x58]
        (wire16 (s.notices.levels.setWidth 16) ++ wire32 ((s.notices.copies.get p).latched.setWidth 32) ++
          wire32 ((s.notices.copies.get p).mask.setWidth 32) ++ flag8 ((s.notices.copies.get p).latchMasked = true))))

/-- What a port sends: in byte time i after a read has been taken byte i of the dummy byte and record, and 0 beyond them
(R178). -/
def Sys2Proof.Machine.RepliesAreSentInOrder : Prop :=
  ∀ (k : Port) (i : Nat), (∀ h : i < k.reply.length, k.dataOut i = k.reply[i]) ∧ (k.reply.length ≤ i → k.dataOut i = 0)

/-- The field codes, the plain reads, and the sending of their records. -/
def Obligations.ReadsShowTheState : Prop := FieldCodes ∧ PlainReadsShowTheState ∧ RepliesAreSentInOrder

/-- READ ERROR COUNT (R157, R181): source 0 the port's own count, 1 to 4 a link's, both cleared when the transaction ends; any
other source is answered with 0 and clears nothing. -/
def Sys2Proof.Machine.ErrorCountsAreReadAndCleared : Prop :=
  ∀ (p : PortId) (source : Byte) (s : State), s.busy = none →
    let k := s.port p
    let run := exec (.readErrorCount p source) s
    let after (k : Port) (record : Bytes) : Port := { k with reply := 0 :: record, transaction := .inactive, assembly := [] }
    (k.transaction = .inactive → source.toNat = 0 → run = .next { s with
      ports := s.ports.set p { after k [BitVec.ofNat 8 k.errorCount, if k.overflow then 1 else 0] with
        errorCount := 0, overflow := false }
      freeTick := s.freeTick + 1 }) ∧
    (k.transaction = .receiving → source.toNat = 0 → run = .next { s with
      ports := s.ports.set p { k with
        reply := [0, BitVec.ofNat 8 k.errorCount, if k.overflow then 1 else 0]
        transaction := .readTaken .clearPort, assembly := [0x5C, source] }
      freeTick := s.freeTick + 1 }) ∧
    (∀ l, k.transaction = .inactive → source.toNat = linkNumber l → run = .next { s with
      ports := s.ports.set p
        (after k [BitVec.ofNat 8 (s.link l).errorCount, if (s.link l).overflow then 1 else 0])
      links := s.links.set l { s.link l with errorCount := 0, overflow := false }
      freeTick := s.freeTick + 1 }) ∧
    (∀ l, k.transaction = .receiving → source.toNat = linkNumber l → run = .next { s with
      ports := s.ports.set p { k with
        reply := [0, BitVec.ofNat 8 (s.link l).errorCount, if (s.link l).overflow then 1 else 0]
        transaction := .readTaken (.clearLink l 0), assembly := [0x5C, source] }
      freeTick := s.freeTick + 1 }) ∧
    (Listening p s → 4 < source.toNat → run = .next (s.told p [0x5C, source] [0, 0]))

/-- READ MAP ENTRY, settled (R75, R76): the five rows of R76's table. -/
def Sys2Proof.Machine.SettledReadsFollowTheirRecord : Prop :=
  ∀ (p : PortId) (selector : Byte) (key : BitVec 16) (s : State), s.busy = none → Listening p s →
    let sent := 0x54 :: selector :: wire16 key
    let run := exec (.readMapEntrySettled p selector key) s
    let settled (x : SettledRead) : State := { s with ports := s.ports.set p { s.port p with settled := x } }
    let pending := 2#8 :: List.replicate 27 0#8
    (∀ v, (s.port p).settled = .ready v → ∃ record, RecordOf (some v) record ∧
      run = .next ((settled .empty).told p sent record)) ∧
    (∀ w, (s.port p).settled = .waiting w → run = .next ((s.resulted p 0x54 .pending w.slot).told p sent pending)) ∧
    ((s.port p).settled = .empty →
      (s.chosen selector key = none → run = .next (s.told p sent (List.replicate 28 0#8))) ∧
      ∀ v, s.chosen selector key = some v →
        ((∀ w ∈ v.entry.window, w.status ≠ .opened) → ∃ record, RecordOf (some v) record ∧
          run = .next (s.told p sent record)) ∧
        ((∃ w ∈ v.entry.window, w.status = .opened) → run = .next
          (((settled (.waiting v.entry.target)).resulted p 0x54 .pending v.entry.slot).told p sent pending)))

/-- READ ERROR COUNT and the settled READ MAP ENTRY. -/
def Obligations.ReadsThatChangeTheirPort : Prop := ErrorCountsAreReadAndCleared ∧ SettledReadsFollowTheirRecord

/-- CLEAR NOTICES, SET NOTICE MASK and SET LATCH MASKED (R191, R193 to R195): the sending port's copy alone, ATTN reckoned
again, and the numbers answered. -/
def Obligations.NoticeCommandsChangeTheOwnCopy : Prop :=
  ∀ (p : PortId) (s : State), Ready p s →
    let c := s.notices.copies.get p
    let count (w : BitVec 25) : Nat := (List.range 25).countP (fun i => w.getLsbD i)
    let withCopy (t : State) (x : NoticeCopy) : State :=
      { t with notices := { s.notices with copies := s.notices.copies.set p x } }
    (∀ set : BitVec 32, exec (.clearNotices p set) s = .next
      (withCopy (s.accepted p 0x59 (count (c.latched &&& set.setWidth 25))) { c with
        latched := c.latched &&& ~~~ (set.setWidth 25)
        attn := c.latched &&& ~~~ (set.setWidth 25) &&& ~~~ c.mask != 0 })) ∧
    (∀ mask : BitVec 32, exec (.setNoticeMask p mask) s = .next
      (withCopy (s.accepted p 0x5A (count (~~~ (mask.setWidth 25)))) { c with
        mask := mask.setWidth 25, attn := c.latched &&& ~~~ (mask.setWidth 25) != 0 })) ∧
    ∀ option : Byte,
      (1 < option.toNat → exec (.setLatchMasked p option) s = .next (s.refused p 0x5B .range 1)) ∧
      (option.toNat ≤ 1 → exec (.setLatchMasked p option) s = .next
        (withCopy (s.accepted p 0x5B option.toNat) { c with latchMasked := option.toNat = 1 }))

/-! ### What every step keeps -/

/-- The line runs only over an empty hold stack (R140); the stack is in order (R122, R124). -/
def Obligations.HoldsStayInOrder : Prop := Kept (fun s => RunsWithoutHolds s ∧ HoldsInOrder s)

/-- ATTN tells exactly whether a notice is latched and unmasked (R193). -/
def Obligations.AttnTellsLatchedUnmasked : Prop := Kept AttnTells

/-- Odometer and debt, the lists and queues, and the unread run stay in their ranges (R1 to R3, R16, R35, R37, R45, R72, R102). -/
def Obligations.CountsStayInRange : Prop := Kept (fun s => TravelInRange s ∧ ListsFit s ∧ LockCounts s)

/-- Speeds, target and ramp timer stay as R139, R148 and R149 say. -/
def Obligations.SpeedsStayInOrder : Prop := Kept SpeedsInOrder

/-- The entries stay in web order under distinct names (R16, R18, R19), and their windows stand in their places, at most one of them
OPEN at a time (R65). That crossings may be left to a mark waiting in front is log 25, the model's choice. -/
def Obligations.MapStaysInWebOrder : Prop := Kept MapInOrder ∧ Kept WindowsInPlace

/-- Every plan's reference count is the number of entries that name it (R45, R48). -/
def Obligations.PlanReferencesCountTheEntries : Prop := Kept PlansCounted

/-- The Notice Unit's raw levels are those of the owning blocks (R189). -/
def Obligations.RawLevelsAgreeWithTheBlocks : Prop := Kept LevelsAgree

/-- Every link stays as R158 says. -/
def Obligations.LinksStayInOrder : Prop := Kept LinksInOrder

/-- Cuts pending counts the unresolved cut entries, and operations in flight are those of the links (R29, R102, R169). -/
def Obligations.PendingCutsAreCounted : Prop := Kept CutsCounted

/-- All of them hold after hardware reset. -/
def Obligations.PropertiesHoldAtReset : Prop :=
  let s := State.reset
  (RunsWithoutHolds s ∧ HoldsInOrder s) ∧ AttnTells s ∧ (TravelInRange s ∧ ListsFit s ∧ LockCounts s) ∧ SpeedsInOrder s ∧
    (MapInOrder s ∧ WindowsInPlace s) ∧ PlansCounted s ∧ LevelsAgree s ∧ LinksInOrder s ∧ CutsCounted s
end

