-- ==== Sys2Proof/Laws/State.lean ====
section
/-! SUPPORT. What each setter of a block leaves of each field, true by rfl: no proof unfolds a record update. Beside them the links and ports by name. -/

namespace Sys2Proof.Machine

/-! ### setTracker -/

@[simp] theorem State.setTracker_tracker (s : State) (x) : (s.setTracker x).tracker = x := rfl
@[simp] theorem State.setTracker_map (s : State) (x) : (s.setTracker x).map = s.map := rfl
@[simp] theorem State.setTracker_plans (s : State) (x) : (s.setTracker x).plans = s.plans := rfl
@[simp] theorem State.setTracker_reg (s : State) (x) : (s.setTracker x).reg = s.reg := rfl
@[simp] theorem State.setTracker_lam (s : State) (x) : (s.setTracker x).lam = s.lam := rfl
@[simp] theorem State.setTracker_cut (s : State) (x) : (s.setTracker x).cut = s.cut := rfl
@[simp] theorem State.setTracker_links (s : State) (x) : (s.setTracker x).links = s.links := rfl
@[simp] theorem State.setTracker_line (s : State) (x) : (s.setTracker x).line = s.line := rfl
@[simp] theorem State.setTracker_hold (s : State) (x) : (s.setTracker x).hold = s.hold := rfl
@[simp] theorem State.setTracker_ports (s : State) (x) : (s.setTracker x).ports = s.ports := rfl
@[simp] theorem State.setTracker_busy (s : State) (x) : (s.setTracker x).busy = s.busy := rfl
@[simp] theorem State.setTracker_notices (s : State) (x) : (s.setTracker x).notices = s.notices := rfl
@[simp] theorem State.setTracker_freeTick (s : State) (x) : (s.setTracker x).freeTick = s.freeTick := rfl
@[simp] theorem State.setTracker_pending (s : State) (x) : (s.setTracker x).pending = s.pending := rfl
@[simp] theorem State.setTracker_setTracker (s : State) (x y) : (s.setTracker x).setTracker y = s.setTracker y := rfl
@[simp] theorem State.setTracker_self (s : State) : s.setTracker s.tracker = s := rfl

/-! ### setMap -/

@[simp] theorem State.setMap_tracker (s : State) (x) : (s.setMap x).tracker = s.tracker := rfl
@[simp] theorem State.setMap_map (s : State) (x) : (s.setMap x).map = x := rfl
@[simp] theorem State.setMap_plans (s : State) (x) : (s.setMap x).plans = s.plans := rfl
@[simp] theorem State.setMap_reg (s : State) (x) : (s.setMap x).reg = s.reg := rfl
@[simp] theorem State.setMap_lam (s : State) (x) : (s.setMap x).lam = s.lam := rfl
@[simp] theorem State.setMap_cut (s : State) (x) : (s.setMap x).cut = s.cut := rfl
@[simp] theorem State.setMap_links (s : State) (x) : (s.setMap x).links = s.links := rfl
@[simp] theorem State.setMap_line (s : State) (x) : (s.setMap x).line = s.line := rfl
@[simp] theorem State.setMap_hold (s : State) (x) : (s.setMap x).hold = s.hold := rfl
@[simp] theorem State.setMap_ports (s : State) (x) : (s.setMap x).ports = s.ports := rfl
@[simp] theorem State.setMap_busy (s : State) (x) : (s.setMap x).busy = s.busy := rfl
@[simp] theorem State.setMap_notices (s : State) (x) : (s.setMap x).notices = s.notices := rfl
@[simp] theorem State.setMap_freeTick (s : State) (x) : (s.setMap x).freeTick = s.freeTick := rfl
@[simp] theorem State.setMap_pending (s : State) (x) : (s.setMap x).pending = s.pending := rfl
@[simp] theorem State.setMap_setMap (s : State) (x y) : (s.setMap x).setMap y = s.setMap y := rfl
@[simp] theorem State.setMap_self (s : State) : s.setMap s.map = s := rfl

/-! ### setPlans -/

@[simp] theorem State.setPlans_tracker (s : State) (x) : (s.setPlans x).tracker = s.tracker := rfl
@[simp] theorem State.setPlans_map (s : State) (x) : (s.setPlans x).map = s.map := rfl
@[simp] theorem State.setPlans_plans (s : State) (x) : (s.setPlans x).plans = x := rfl
@[simp] theorem State.setPlans_reg (s : State) (x) : (s.setPlans x).reg = s.reg := rfl
@[simp] theorem State.setPlans_lam (s : State) (x) : (s.setPlans x).lam = s.lam := rfl
@[simp] theorem State.setPlans_cut (s : State) (x) : (s.setPlans x).cut = s.cut := rfl
@[simp] theorem State.setPlans_links (s : State) (x) : (s.setPlans x).links = s.links := rfl
@[simp] theorem State.setPlans_line (s : State) (x) : (s.setPlans x).line = s.line := rfl
@[simp] theorem State.setPlans_hold (s : State) (x) : (s.setPlans x).hold = s.hold := rfl
@[simp] theorem State.setPlans_ports (s : State) (x) : (s.setPlans x).ports = s.ports := rfl
@[simp] theorem State.setPlans_busy (s : State) (x) : (s.setPlans x).busy = s.busy := rfl
@[simp] theorem State.setPlans_notices (s : State) (x) : (s.setPlans x).notices = s.notices := rfl
@[simp] theorem State.setPlans_freeTick (s : State) (x) : (s.setPlans x).freeTick = s.freeTick := rfl
@[simp] theorem State.setPlans_pending (s : State) (x) : (s.setPlans x).pending = s.pending := rfl
@[simp] theorem State.setPlans_setPlans (s : State) (x y) : (s.setPlans x).setPlans y = s.setPlans y := rfl
@[simp] theorem State.setPlans_self (s : State) : s.setPlans s.plans = s := rfl

/-! ### setReg -/

@[simp] theorem State.setReg_tracker (s : State) (x) : (s.setReg x).tracker = s.tracker := rfl
@[simp] theorem State.setReg_map (s : State) (x) : (s.setReg x).map = s.map := rfl
@[simp] theorem State.setReg_plans (s : State) (x) : (s.setReg x).plans = s.plans := rfl
@[simp] theorem State.setReg_reg (s : State) (x) : (s.setReg x).reg = x := rfl
@[simp] theorem State.setReg_lam (s : State) (x) : (s.setReg x).lam = s.lam := rfl
@[simp] theorem State.setReg_cut (s : State) (x) : (s.setReg x).cut = s.cut := rfl
@[simp] theorem State.setReg_links (s : State) (x) : (s.setReg x).links = s.links := rfl
@[simp] theorem State.setReg_line (s : State) (x) : (s.setReg x).line = s.line := rfl
@[simp] theorem State.setReg_hold (s : State) (x) : (s.setReg x).hold = s.hold := rfl
@[simp] theorem State.setReg_ports (s : State) (x) : (s.setReg x).ports = s.ports := rfl
@[simp] theorem State.setReg_busy (s : State) (x) : (s.setReg x).busy = s.busy := rfl
@[simp] theorem State.setReg_notices (s : State) (x) : (s.setReg x).notices = s.notices := rfl
@[simp] theorem State.setReg_freeTick (s : State) (x) : (s.setReg x).freeTick = s.freeTick := rfl
@[simp] theorem State.setReg_pending (s : State) (x) : (s.setReg x).pending = s.pending := rfl
@[simp] theorem State.setReg_setReg (s : State) (x y) : (s.setReg x).setReg y = s.setReg y := rfl
@[simp] theorem State.setReg_self (s : State) : s.setReg s.reg = s := rfl

/-! ### setLam -/

@[simp] theorem State.setLam_tracker (s : State) (x) : (s.setLam x).tracker = s.tracker := rfl
@[simp] theorem State.setLam_map (s : State) (x) : (s.setLam x).map = s.map := rfl
@[simp] theorem State.setLam_plans (s : State) (x) : (s.setLam x).plans = s.plans := rfl
@[simp] theorem State.setLam_reg (s : State) (x) : (s.setLam x).reg = s.reg := rfl
@[simp] theorem State.setLam_lam (s : State) (x) : (s.setLam x).lam = x := rfl
@[simp] theorem State.setLam_cut (s : State) (x) : (s.setLam x).cut = s.cut := rfl
@[simp] theorem State.setLam_links (s : State) (x) : (s.setLam x).links = s.links := rfl
@[simp] theorem State.setLam_line (s : State) (x) : (s.setLam x).line = s.line := rfl
@[simp] theorem State.setLam_hold (s : State) (x) : (s.setLam x).hold = s.hold := rfl
@[simp] theorem State.setLam_ports (s : State) (x) : (s.setLam x).ports = s.ports := rfl
@[simp] theorem State.setLam_busy (s : State) (x) : (s.setLam x).busy = s.busy := rfl
@[simp] theorem State.setLam_notices (s : State) (x) : (s.setLam x).notices = s.notices := rfl
@[simp] theorem State.setLam_freeTick (s : State) (x) : (s.setLam x).freeTick = s.freeTick := rfl
@[simp] theorem State.setLam_pending (s : State) (x) : (s.setLam x).pending = s.pending := rfl
@[simp] theorem State.setLam_setLam (s : State) (x y) : (s.setLam x).setLam y = s.setLam y := rfl
@[simp] theorem State.setLam_self (s : State) : s.setLam s.lam = s := rfl

/-! ### setCut -/

@[simp] theorem State.setCut_tracker (s : State) (x) : (s.setCut x).tracker = s.tracker := rfl
@[simp] theorem State.setCut_map (s : State) (x) : (s.setCut x).map = s.map := rfl
@[simp] theorem State.setCut_plans (s : State) (x) : (s.setCut x).plans = s.plans := rfl
@[simp] theorem State.setCut_reg (s : State) (x) : (s.setCut x).reg = s.reg := rfl
@[simp] theorem State.setCut_lam (s : State) (x) : (s.setCut x).lam = s.lam := rfl
@[simp] theorem State.setCut_cut (s : State) (x) : (s.setCut x).cut = x := rfl
@[simp] theorem State.setCut_links (s : State) (x) : (s.setCut x).links = s.links := rfl
@[simp] theorem State.setCut_line (s : State) (x) : (s.setCut x).line = s.line := rfl
@[simp] theorem State.setCut_hold (s : State) (x) : (s.setCut x).hold = s.hold := rfl
@[simp] theorem State.setCut_ports (s : State) (x) : (s.setCut x).ports = s.ports := rfl
@[simp] theorem State.setCut_busy (s : State) (x) : (s.setCut x).busy = s.busy := rfl
@[simp] theorem State.setCut_notices (s : State) (x) : (s.setCut x).notices = s.notices := rfl
@[simp] theorem State.setCut_freeTick (s : State) (x) : (s.setCut x).freeTick = s.freeTick := rfl
@[simp] theorem State.setCut_pending (s : State) (x) : (s.setCut x).pending = s.pending := rfl
@[simp] theorem State.setCut_setCut (s : State) (x y) : (s.setCut x).setCut y = s.setCut y := rfl
@[simp] theorem State.setCut_self (s : State) : s.setCut s.cut = s := rfl

/-! ### setLinks -/

@[simp] theorem State.setLinks_tracker (s : State) (x) : (s.setLinks x).tracker = s.tracker := rfl
@[simp] theorem State.setLinks_map (s : State) (x) : (s.setLinks x).map = s.map := rfl
@[simp] theorem State.setLinks_plans (s : State) (x) : (s.setLinks x).plans = s.plans := rfl
@[simp] theorem State.setLinks_reg (s : State) (x) : (s.setLinks x).reg = s.reg := rfl
@[simp] theorem State.setLinks_lam (s : State) (x) : (s.setLinks x).lam = s.lam := rfl
@[simp] theorem State.setLinks_cut (s : State) (x) : (s.setLinks x).cut = s.cut := rfl
@[simp] theorem State.setLinks_links (s : State) (x) : (s.setLinks x).links = x := rfl
@[simp] theorem State.setLinks_line (s : State) (x) : (s.setLinks x).line = s.line := rfl
@[simp] theorem State.setLinks_hold (s : State) (x) : (s.setLinks x).hold = s.hold := rfl
@[simp] theorem State.setLinks_ports (s : State) (x) : (s.setLinks x).ports = s.ports := rfl
@[simp] theorem State.setLinks_busy (s : State) (x) : (s.setLinks x).busy = s.busy := rfl
@[simp] theorem State.setLinks_notices (s : State) (x) : (s.setLinks x).notices = s.notices := rfl
@[simp] theorem State.setLinks_freeTick (s : State) (x) : (s.setLinks x).freeTick = s.freeTick := rfl
@[simp] theorem State.setLinks_pending (s : State) (x) : (s.setLinks x).pending = s.pending := rfl
@[simp] theorem State.setLinks_setLinks (s : State) (x y) : (s.setLinks x).setLinks y = s.setLinks y := rfl
@[simp] theorem State.setLinks_self (s : State) : s.setLinks s.links = s := rfl

/-! ### setLine -/

@[simp] theorem State.setLine_tracker (s : State) (x) : (s.setLine x).tracker = s.tracker := rfl
@[simp] theorem State.setLine_map (s : State) (x) : (s.setLine x).map = s.map := rfl
@[simp] theorem State.setLine_plans (s : State) (x) : (s.setLine x).plans = s.plans := rfl
@[simp] theorem State.setLine_reg (s : State) (x) : (s.setLine x).reg = s.reg := rfl
@[simp] theorem State.setLine_lam (s : State) (x) : (s.setLine x).lam = s.lam := rfl
@[simp] theorem State.setLine_cut (s : State) (x) : (s.setLine x).cut = s.cut := rfl
@[simp] theorem State.setLine_links (s : State) (x) : (s.setLine x).links = s.links := rfl
@[simp] theorem State.setLine_line (s : State) (x) : (s.setLine x).line = x := rfl
@[simp] theorem State.setLine_hold (s : State) (x) : (s.setLine x).hold = s.hold := rfl
@[simp] theorem State.setLine_ports (s : State) (x) : (s.setLine x).ports = s.ports := rfl
@[simp] theorem State.setLine_busy (s : State) (x) : (s.setLine x).busy = s.busy := rfl
@[simp] theorem State.setLine_notices (s : State) (x) : (s.setLine x).notices = s.notices := rfl
@[simp] theorem State.setLine_freeTick (s : State) (x) : (s.setLine x).freeTick = s.freeTick := rfl
@[simp] theorem State.setLine_pending (s : State) (x) : (s.setLine x).pending = s.pending := rfl
@[simp] theorem State.setLine_setLine (s : State) (x y) : (s.setLine x).setLine y = s.setLine y := rfl
@[simp] theorem State.setLine_self (s : State) : s.setLine s.line = s := rfl

/-! ### setHold -/

@[simp] theorem State.setHold_tracker (s : State) (x) : (s.setHold x).tracker = s.tracker := rfl
@[simp] theorem State.setHold_map (s : State) (x) : (s.setHold x).map = s.map := rfl
@[simp] theorem State.setHold_plans (s : State) (x) : (s.setHold x).plans = s.plans := rfl
@[simp] theorem State.setHold_reg (s : State) (x) : (s.setHold x).reg = s.reg := rfl
@[simp] theorem State.setHold_lam (s : State) (x) : (s.setHold x).lam = s.lam := rfl
@[simp] theorem State.setHold_cut (s : State) (x) : (s.setHold x).cut = s.cut := rfl
@[simp] theorem State.setHold_links (s : State) (x) : (s.setHold x).links = s.links := rfl
@[simp] theorem State.setHold_line (s : State) (x) : (s.setHold x).line = s.line := rfl
@[simp] theorem State.setHold_hold (s : State) (x) : (s.setHold x).hold = x := rfl
@[simp] theorem State.setHold_ports (s : State) (x) : (s.setHold x).ports = s.ports := rfl
@[simp] theorem State.setHold_busy (s : State) (x) : (s.setHold x).busy = s.busy := rfl
@[simp] theorem State.setHold_notices (s : State) (x) : (s.setHold x).notices = s.notices := rfl
@[simp] theorem State.setHold_freeTick (s : State) (x) : (s.setHold x).freeTick = s.freeTick := rfl
@[simp] theorem State.setHold_pending (s : State) (x) : (s.setHold x).pending = s.pending := rfl
@[simp] theorem State.setHold_setHold (s : State) (x y) : (s.setHold x).setHold y = s.setHold y := rfl
@[simp] theorem State.setHold_self (s : State) : s.setHold s.hold = s := rfl

/-! ### setPorts -/

@[simp] theorem State.setPorts_tracker (s : State) (x) : (s.setPorts x).tracker = s.tracker := rfl
@[simp] theorem State.setPorts_map (s : State) (x) : (s.setPorts x).map = s.map := rfl
@[simp] theorem State.setPorts_plans (s : State) (x) : (s.setPorts x).plans = s.plans := rfl
@[simp] theorem State.setPorts_reg (s : State) (x) : (s.setPorts x).reg = s.reg := rfl
@[simp] theorem State.setPorts_lam (s : State) (x) : (s.setPorts x).lam = s.lam := rfl
@[simp] theorem State.setPorts_cut (s : State) (x) : (s.setPorts x).cut = s.cut := rfl
@[simp] theorem State.setPorts_links (s : State) (x) : (s.setPorts x).links = s.links := rfl
@[simp] theorem State.setPorts_line (s : State) (x) : (s.setPorts x).line = s.line := rfl
@[simp] theorem State.setPorts_hold (s : State) (x) : (s.setPorts x).hold = s.hold := rfl
@[simp] theorem State.setPorts_ports (s : State) (x) : (s.setPorts x).ports = x := rfl
@[simp] theorem State.setPorts_busy (s : State) (x) : (s.setPorts x).busy = s.busy := rfl
@[simp] theorem State.setPorts_notices (s : State) (x) : (s.setPorts x).notices = s.notices := rfl
@[simp] theorem State.setPorts_freeTick (s : State) (x) : (s.setPorts x).freeTick = s.freeTick := rfl
@[simp] theorem State.setPorts_pending (s : State) (x) : (s.setPorts x).pending = s.pending := rfl
@[simp] theorem State.setPorts_setPorts (s : State) (x y) : (s.setPorts x).setPorts y = s.setPorts y := rfl
@[simp] theorem State.setPorts_self (s : State) : s.setPorts s.ports = s := rfl

/-! ### setBusy -/

@[simp] theorem State.setBusy_tracker (s : State) (x) : (s.setBusy x).tracker = s.tracker := rfl
@[simp] theorem State.setBusy_map (s : State) (x) : (s.setBusy x).map = s.map := rfl
@[simp] theorem State.setBusy_plans (s : State) (x) : (s.setBusy x).plans = s.plans := rfl
@[simp] theorem State.setBusy_reg (s : State) (x) : (s.setBusy x).reg = s.reg := rfl
@[simp] theorem State.setBusy_lam (s : State) (x) : (s.setBusy x).lam = s.lam := rfl
@[simp] theorem State.setBusy_cut (s : State) (x) : (s.setBusy x).cut = s.cut := rfl
@[simp] theorem State.setBusy_links (s : State) (x) : (s.setBusy x).links = s.links := rfl
@[simp] theorem State.setBusy_line (s : State) (x) : (s.setBusy x).line = s.line := rfl
@[simp] theorem State.setBusy_hold (s : State) (x) : (s.setBusy x).hold = s.hold := rfl
@[simp] theorem State.setBusy_ports (s : State) (x) : (s.setBusy x).ports = s.ports := rfl
@[simp] theorem State.setBusy_busy (s : State) (x) : (s.setBusy x).busy = x := rfl
@[simp] theorem State.setBusy_notices (s : State) (x) : (s.setBusy x).notices = s.notices := rfl
@[simp] theorem State.setBusy_freeTick (s : State) (x) : (s.setBusy x).freeTick = s.freeTick := rfl
@[simp] theorem State.setBusy_pending (s : State) (x) : (s.setBusy x).pending = s.pending := rfl
@[simp] theorem State.setBusy_setBusy (s : State) (x y) : (s.setBusy x).setBusy y = s.setBusy y := rfl
@[simp] theorem State.setBusy_self (s : State) : s.setBusy s.busy = s := rfl

/-! ### setNotices -/

@[simp] theorem State.setNotices_tracker (s : State) (x) : (s.setNotices x).tracker = s.tracker := rfl
@[simp] theorem State.setNotices_map (s : State) (x) : (s.setNotices x).map = s.map := rfl
@[simp] theorem State.setNotices_plans (s : State) (x) : (s.setNotices x).plans = s.plans := rfl
@[simp] theorem State.setNotices_reg (s : State) (x) : (s.setNotices x).reg = s.reg := rfl
@[simp] theorem State.setNotices_lam (s : State) (x) : (s.setNotices x).lam = s.lam := rfl
@[simp] theorem State.setNotices_cut (s : State) (x) : (s.setNotices x).cut = s.cut := rfl
@[simp] theorem State.setNotices_links (s : State) (x) : (s.setNotices x).links = s.links := rfl
@[simp] theorem State.setNotices_line (s : State) (x) : (s.setNotices x).line = s.line := rfl
@[simp] theorem State.setNotices_hold (s : State) (x) : (s.setNotices x).hold = s.hold := rfl
@[simp] theorem State.setNotices_ports (s : State) (x) : (s.setNotices x).ports = s.ports := rfl
@[simp] theorem State.setNotices_busy (s : State) (x) : (s.setNotices x).busy = s.busy := rfl
@[simp] theorem State.setNotices_notices (s : State) (x) : (s.setNotices x).notices = x := rfl
@[simp] theorem State.setNotices_freeTick (s : State) (x) : (s.setNotices x).freeTick = s.freeTick := rfl
@[simp] theorem State.setNotices_pending (s : State) (x) : (s.setNotices x).pending = s.pending := rfl
@[simp] theorem State.setNotices_setNotices (s : State) (x y) : (s.setNotices x).setNotices y = s.setNotices y := rfl
@[simp] theorem State.setNotices_self (s : State) : s.setNotices s.notices = s := rfl

/-! ### setFreeTick -/

@[simp] theorem State.setFreeTick_tracker (s : State) (x) : (s.setFreeTick x).tracker = s.tracker := rfl
@[simp] theorem State.setFreeTick_map (s : State) (x) : (s.setFreeTick x).map = s.map := rfl
@[simp] theorem State.setFreeTick_plans (s : State) (x) : (s.setFreeTick x).plans = s.plans := rfl
@[simp] theorem State.setFreeTick_reg (s : State) (x) : (s.setFreeTick x).reg = s.reg := rfl
@[simp] theorem State.setFreeTick_lam (s : State) (x) : (s.setFreeTick x).lam = s.lam := rfl
@[simp] theorem State.setFreeTick_cut (s : State) (x) : (s.setFreeTick x).cut = s.cut := rfl
@[simp] theorem State.setFreeTick_links (s : State) (x) : (s.setFreeTick x).links = s.links := rfl
@[simp] theorem State.setFreeTick_line (s : State) (x) : (s.setFreeTick x).line = s.line := rfl
@[simp] theorem State.setFreeTick_hold (s : State) (x) : (s.setFreeTick x).hold = s.hold := rfl
@[simp] theorem State.setFreeTick_ports (s : State) (x) : (s.setFreeTick x).ports = s.ports := rfl
@[simp] theorem State.setFreeTick_busy (s : State) (x) : (s.setFreeTick x).busy = s.busy := rfl
@[simp] theorem State.setFreeTick_notices (s : State) (x) : (s.setFreeTick x).notices = s.notices := rfl
@[simp] theorem State.setFreeTick_freeTick (s : State) (x) : (s.setFreeTick x).freeTick = x := rfl
@[simp] theorem State.setFreeTick_pending (s : State) (x) : (s.setFreeTick x).pending = s.pending := rfl
@[simp] theorem State.setFreeTick_setFreeTick (s : State) (x y) : (s.setFreeTick x).setFreeTick y = s.setFreeTick y := rfl
@[simp] theorem State.setFreeTick_self (s : State) : s.setFreeTick s.freeTick = s := rfl

/-! ### setPending -/

@[simp] theorem State.setPending_tracker (s : State) (x) : (s.setPending x).tracker = s.tracker := rfl
@[simp] theorem State.setPending_map (s : State) (x) : (s.setPending x).map = s.map := rfl
@[simp] theorem State.setPending_plans (s : State) (x) : (s.setPending x).plans = s.plans := rfl
@[simp] theorem State.setPending_reg (s : State) (x) : (s.setPending x).reg = s.reg := rfl
@[simp] theorem State.setPending_lam (s : State) (x) : (s.setPending x).lam = s.lam := rfl
@[simp] theorem State.setPending_cut (s : State) (x) : (s.setPending x).cut = s.cut := rfl
@[simp] theorem State.setPending_links (s : State) (x) : (s.setPending x).links = s.links := rfl
@[simp] theorem State.setPending_line (s : State) (x) : (s.setPending x).line = s.line := rfl
@[simp] theorem State.setPending_hold (s : State) (x) : (s.setPending x).hold = s.hold := rfl
@[simp] theorem State.setPending_ports (s : State) (x) : (s.setPending x).ports = s.ports := rfl
@[simp] theorem State.setPending_busy (s : State) (x) : (s.setPending x).busy = s.busy := rfl
@[simp] theorem State.setPending_notices (s : State) (x) : (s.setPending x).notices = s.notices := rfl
@[simp] theorem State.setPending_freeTick (s : State) (x) : (s.setPending x).freeTick = s.freeTick := rfl
@[simp] theorem State.setPending_pending (s : State) (x) : (s.setPending x).pending = x := rfl
@[simp] theorem State.setPending_setPending (s : State) (x y) : (s.setPending x).setPending y = s.setPending y := rfl
@[simp] theorem State.setPending_self (s : State) : s.setPending s.pending = s := rfl

/-! ### Links and ports by name -/

theorem PerLink.get_set {α : Type} (x : PerLink α) (l m : LinkId) (v : α) :
    (x.set l v).get m = if m = l then v else x.get m := by
  cases l <;> cases m <;> rfl

@[simp] theorem PerLink.get_set_self {α : Type} (x : PerLink α) (l : LinkId) (v : α) : (x.set l v).get l = v := by
  cases l <;> rfl

theorem PerLink.get_set_of_ne {α : Type} (x : PerLink α) (l m : LinkId) (v : α) (h : m ≠ l) :
    (x.set l v).get m = x.get m := by
  rw [PerLink.get_set, if_neg h]

@[simp] theorem PerLink.get_map {α β : Type} (f : α → β) (x : PerLink α) (l : LinkId) :
    (x.map f).get l = f (x.get l) := by
  cases l <;> rfl

theorem PerPort.get_set {α : Type} (x : PerPort α) (p q : PortId) (v : α) :
    (x.set p v).get q = if q = p then v else x.get q := by
  cases p <;> cases q <;> rfl

@[simp] theorem PerPort.get_set_self {α : Type} (x : PerPort α) (p : PortId) (v : α) : (x.set p v).get p = v := by
  cases p <;> rfl

theorem PerPort.get_set_of_ne {α : Type} (x : PerPort α) (p q : PortId) (v : α) (h : q ≠ p) :
    (x.set p v).get q = x.get q := by
  rw [PerPort.get_set, if_neg h]

@[simp] theorem PerPort.set_set {α : Type} (x : PerPort α) (p : PortId) (v w : α) :
    (x.set p v).set p w = x.set p w := by
  cases p <;> rfl

@[simp] theorem PerPort.get_map {α β : Type} (f : α → β) (x : PerPort α) (p : PortId) :
    (x.map f).get p = f (x.get p) := by
  cases p <;> rfl

@[simp] theorem State.setLink_link_self (s : State) (l : LinkId) (k : Link) : (s.setLink l k).link l = k := by
  simp [State.link, State.setLink]

theorem State.setLink_link_of_ne (s : State) (l m : LinkId) (k : Link) (h : m ≠ l) :
    (s.setLink l k).link m = s.link m := by
  simp [State.link, State.setLink, PerLink.get_set_of_ne _ _ _ _ h]

@[simp] theorem State.setPort_port_self (s : State) (p : PortId) (k : Port) : (s.setPort p k).port p = k := by
  simp [State.port, State.setPort]

theorem State.setPort_port_of_ne (s : State) (p q : PortId) (k : Port) (h : q ≠ p) :
    (s.setPort p k).port q = s.port q := by
  simp [State.port, State.setPort, PerPort.get_set_of_ne _ _ _ _ h]

@[simp] theorem State.setLink_frame (s : State) (l : LinkId) (k : Link) :
    (s.setLink l k).tracker = s.tracker ∧ (s.setLink l k).map = s.map ∧ (s.setLink l k).plans = s.plans ∧
    (s.setLink l k).reg = s.reg ∧ (s.setLink l k).lam = s.lam ∧ (s.setLink l k).cut = s.cut ∧
    (s.setLink l k).line = s.line ∧ (s.setLink l k).hold = s.hold ∧ (s.setLink l k).ports = s.ports ∧
    (s.setLink l k).busy = s.busy ∧ (s.setLink l k).notices = s.notices ∧ (s.setLink l k).freeTick = s.freeTick ∧
    (s.setLink l k).pending = s.pending :=
  ⟨rfl, rfl, rfl, rfl, rfl, rfl, rfl, rfl, rfl, rfl, rfl, rfl, rfl⟩

@[simp] theorem State.setPort_frame (s : State) (p : PortId) (k : Port) :
    (s.setPort p k).tracker = s.tracker ∧ (s.setPort p k).map = s.map ∧ (s.setPort p k).plans = s.plans ∧
    (s.setPort p k).reg = s.reg ∧ (s.setPort p k).lam = s.lam ∧ (s.setPort p k).cut = s.cut ∧
    (s.setPort p k).links = s.links ∧ (s.setPort p k).line = s.line ∧ (s.setPort p k).hold = s.hold ∧
    (s.setPort p k).busy = s.busy ∧ (s.setPort p k).notices = s.notices ∧ (s.setPort p k).freeTick = s.freeTick ∧
    (s.setPort p k).pending = s.pending :=
  ⟨rfl, rfl, rfl, rfl, rfl, rfl, rfl, rfl, rfl, rfl, rfl, rfl, rfl⟩

@[simp] theorem State.setOwed_frame (s : State) (l : LinkId) (o : Owed) :
    (s.setOwed l o).tracker = s.tracker ∧ (s.setOwed l o).map = s.map ∧ (s.setOwed l o).plans = s.plans ∧
    (s.setOwed l o).reg = s.reg ∧ (s.setOwed l o).lam = s.lam ∧ (s.setOwed l o).cut = s.cut ∧
    (s.setOwed l o).links = s.links ∧ (s.setOwed l o).hold = s.hold ∧ (s.setOwed l o).ports = s.ports ∧
    (s.setOwed l o).busy = s.busy ∧ (s.setOwed l o).notices = s.notices ∧ (s.setOwed l o).freeTick = s.freeTick ∧
    (s.setOwed l o).pending = s.pending :=
  ⟨rfl, rfl, rfl, rfl, rfl, rfl, rfl, rfl, rfl, rfl, rfl, rfl, rfl⟩

@[simp] theorem State.modifyEntry_frame (s : State) (t : Target) (f : MapEntry → MapEntry) :
    (s.modifyEntry t f).tracker = s.tracker ∧ (s.modifyEntry t f).plans = s.plans ∧ (s.modifyEntry t f).reg = s.reg ∧
    (s.modifyEntry t f).lam = s.lam ∧ (s.modifyEntry t f).cut = s.cut ∧ (s.modifyEntry t f).links = s.links ∧
    (s.modifyEntry t f).line = s.line ∧ (s.modifyEntry t f).hold = s.hold ∧ (s.modifyEntry t f).ports = s.ports ∧
    (s.modifyEntry t f).busy = s.busy ∧ (s.modifyEntry t f).notices = s.notices ∧ (s.modifyEntry t f).freeTick = s.freeTick ∧
    (s.modifyEntry t f).pending = s.pending :=
  ⟨rfl, rfl, rfl, rfl, rfl, rfl, rfl, rfl, rfl, rfl, rfl, rfl, rfl⟩

@[simp] theorem State.modifyPlan_frame (s : State) (n : Nat) (f : Plan → Plan) :
    (s.modifyPlan n f).tracker = s.tracker ∧ (s.modifyPlan n f).map = s.map ∧ (s.modifyPlan n f).reg = s.reg ∧
    (s.modifyPlan n f).lam = s.lam ∧ (s.modifyPlan n f).cut = s.cut ∧ (s.modifyPlan n f).links = s.links ∧
    (s.modifyPlan n f).line = s.line ∧ (s.modifyPlan n f).hold = s.hold ∧ (s.modifyPlan n f).ports = s.ports ∧
    (s.modifyPlan n f).busy = s.busy ∧ (s.modifyPlan n f).notices = s.notices ∧ (s.modifyPlan n f).freeTick = s.freeTick ∧
    (s.modifyPlan n f).pending = s.pending :=
  ⟨rfl, rfl, rfl, rfl, rfl, rfl, rfl, rfl, rfl, rfl, rfl, rfl, rfl⟩

@[simp] theorem State.addRef_frame (s : State) (n : Nat) :
    (s.addRef n).tracker = s.tracker ∧ (s.addRef n).map = s.map ∧ (s.addRef n).reg = s.reg ∧
    (s.addRef n).lam = s.lam ∧ (s.addRef n).cut = s.cut ∧ (s.addRef n).links = s.links ∧
    (s.addRef n).line = s.line ∧ (s.addRef n).hold = s.hold ∧ (s.addRef n).ports = s.ports ∧
    (s.addRef n).busy = s.busy ∧ (s.addRef n).notices = s.notices ∧ (s.addRef n).freeTick = s.freeTick ∧
    (s.addRef n).pending = s.pending :=
  ⟨rfl, rfl, rfl, rfl, rfl, rfl, rfl, rfl, rfl, rfl, rfl, rfl, rfl⟩

@[simp] theorem State.dropRef_frame (s : State) (n : Nat) :
    (s.dropRef n).tracker = s.tracker ∧ (s.dropRef n).map = s.map ∧ (s.dropRef n).reg = s.reg ∧
    (s.dropRef n).lam = s.lam ∧ (s.dropRef n).cut = s.cut ∧ (s.dropRef n).links = s.links ∧
    (s.dropRef n).line = s.line ∧ (s.dropRef n).hold = s.hold ∧ (s.dropRef n).ports = s.ports ∧
    (s.dropRef n).busy = s.busy ∧ (s.dropRef n).notices = s.notices ∧ (s.dropRef n).freeTick = s.freeTick ∧
    (s.dropRef n).pending = s.pending :=
  ⟨rfl, rfl, rfl, rfl, rfl, rfl, rfl, rfl, rfl, rfl, rfl, rfl, rfl⟩

@[simp] theorem State.modifyEntry_entries (s : State) (t : Target) (f : MapEntry → MapEntry) :
    (s.modifyEntry t f).map = { s.map with entries := updateEntry t f s.map.entries } := rfl

@[simp] theorem State.modifyPlan_plans (s : State) (n : Nat) (f : Plan → Plan) :
    (s.modifyPlan n f).plans = { s.plans with plans := updatePlan n f s.plans.plans } := rfl

@[simp] theorem updateEntry_length (t : Target) (f : MapEntry → MapEntry) (es : List MapEntry) :
    (updateEntry t f es).length = es.length := by
  simp [updateEntry]

@[simp] theorem updatePlan_length (n : Nat) (f : Plan → Plan) (qs : List Plan) :
    (updatePlan n f qs).length = qs.length := by
  simp [updatePlan]

end Sys2Proof.Machine
end

