-- ==== Sys2Proof/Laws/LineFrames.lean ====
section
/-! SUPPORT. What the operations of the Notice Unit, the links and Line Control leave untouched; and what a link request does. -/

namespace Sys2Proof.Machine

/-! ### Flags -/

@[simp] theorem raiseNotice_frame (n : Notice) (s : State) :
    (raiseNotice n s).tracker = s.tracker ∧ (raiseNotice n s).map = s.map ∧ (raiseNotice n s).plans = s.plans ∧
    (raiseNotice n s).reg = s.reg ∧ (raiseNotice n s).lam = s.lam ∧ (raiseNotice n s).cut = s.cut ∧
    (raiseNotice n s).links = s.links ∧ (raiseNotice n s).line = s.line ∧ (raiseNotice n s).hold = s.hold ∧
    (raiseNotice n s).ports = s.ports ∧ (raiseNotice n s).busy = s.busy ∧ (raiseNotice n s).freeTick = s.freeTick ∧
    (raiseNotice n s).pending = s.pending := by
  unfold raiseNotice
  try dsimp only
  (repeat' split) <;> simp

@[simp] theorem passLevel_frame (n : Notice) (v : Bool) (s : State) :
    (passLevel n v s).tracker = s.tracker ∧ (passLevel n v s).map = s.map ∧ (passLevel n v s).plans = s.plans ∧
    (passLevel n v s).reg = s.reg ∧ (passLevel n v s).lam = s.lam ∧ (passLevel n v s).cut = s.cut ∧
    (passLevel n v s).links = s.links ∧ (passLevel n v s).line = s.line ∧ (passLevel n v s).hold = s.hold ∧
    (passLevel n v s).ports = s.ports ∧ (passLevel n v s).busy = s.busy ∧ (passLevel n v s).freeTick = s.freeTick ∧
    (passLevel n v s).pending = s.pending := by
  unfold passLevel
  try dsimp only
  (repeat' split) <;> simp

@[simp] theorem clearLatched_frame (s : State) :
    (clearLatched s).tracker = s.tracker ∧ (clearLatched s).map = s.map ∧ (clearLatched s).plans = s.plans ∧
    (clearLatched s).reg = s.reg ∧ (clearLatched s).lam = s.lam ∧ (clearLatched s).cut = s.cut ∧
    (clearLatched s).links = s.links ∧ (clearLatched s).line = s.line ∧ (clearLatched s).hold = s.hold ∧
    (clearLatched s).ports = s.ports ∧ (clearLatched s).busy = s.busy ∧ (clearLatched s).freeTick = s.freeTick ∧
    (clearLatched s).pending = s.pending := by
  unfold clearLatched
  try dsimp only
  simp

@[simp] theorem evalMapLevels_frame (s : State) :
    (evalMapLevels s).tracker = s.tracker ∧ (evalMapLevels s).map = s.map ∧ (evalMapLevels s).plans = s.plans ∧
    (evalMapLevels s).reg = s.reg ∧ (evalMapLevels s).lam = s.lam ∧ (evalMapLevels s).cut = s.cut ∧
    (evalMapLevels s).links = s.links ∧ (evalMapLevels s).line = s.line ∧ (evalMapLevels s).hold = s.hold ∧
    (evalMapLevels s).ports = s.ports ∧ (evalMapLevels s).busy = s.busy ∧ (evalMapLevels s).freeTick = s.freeTick ∧
    (evalMapLevels s).pending = s.pending := by
  unfold evalMapLevels
  try dsimp only
  simp

/-! ### Links -/

/-- A request that the link takes: the link was ACTIVE with nothing in flight, and it alone has changed (R169). -/
theorem requestOp_spec (l : LinkId) (kind : OpKind) (ps : List Nat) (t : Option Target) (s s1 : State)
    (h : requestOp l kind ps t s = some s1) :
    (s.link l).state = .active ∧ (s.link l).op = none ∧
      s1 = s.setLink l { s.link l with
        op := some { kind := kind, tag := (s.link l).nextTag, params := opParams ps, target := t,
                     remaining := kind.timeout },
        nextTag := tagAfter (s.link l).nextTag } := by
  unfold requestOp at h
  simp only at h
  split at h
  · next hc => exact ⟨hc.1, hc.2, by simpa using h.symm⟩
  · cases h

theorem requestOp_frame (l : LinkId) (kind : OpKind) (ps : List Nat) (t : Option Target) (s s1 : State)
    (h : requestOp l kind ps t s = some s1) :
    (s1).tracker = s.tracker ∧ (s1).map = s.map ∧ (s1).plans = s.plans ∧
    (s1).reg = s.reg ∧ (s1).lam = s.lam ∧ (s1).cut = s.cut ∧
    (s1).line = s.line ∧ (s1).hold = s.hold ∧ (s1).ports = s.ports ∧
    (s1).busy = s.busy ∧ (s1).notices = s.notices ∧ (s1).freeTick = s.freeTick ∧
    (s1).pending = s.pending := by
  obtain ⟨_, _, rfl⟩ := requestOp_spec l kind ps t s s1 h
  simp

@[simp] theorem passLinkUp_frame (l : LinkId) (s : State) :
    (passLinkUp l s).tracker = s.tracker ∧ (passLinkUp l s).map = s.map ∧ (passLinkUp l s).plans = s.plans ∧
    (passLinkUp l s).reg = s.reg ∧ (passLinkUp l s).lam = s.lam ∧ (passLinkUp l s).cut = s.cut ∧
    (passLinkUp l s).links = s.links ∧ (passLinkUp l s).line = s.line ∧ (passLinkUp l s).hold = s.hold ∧
    (passLinkUp l s).ports = s.ports ∧ (passLinkUp l s).busy = s.busy ∧ (passLinkUp l s).freeTick = s.freeTick ∧
    (passLinkUp l s).pending = s.pending := by
  unfold passLinkUp
  try dsimp only
  simp

@[simp] theorem enterLink_frame (l : LinkId) (st : LinkState) (s : State) :
    (enterLink l st s).tracker = s.tracker ∧ (enterLink l st s).map = s.map ∧ (enterLink l st s).plans = s.plans ∧
    (enterLink l st s).reg = s.reg ∧ (enterLink l st s).lam = s.lam ∧ (enterLink l st s).cut = s.cut ∧
    (enterLink l st s).line = s.line ∧ (enterLink l st s).hold = s.hold ∧ (enterLink l st s).ports = s.ports ∧
    (enterLink l st s).busy = s.busy ∧ (enterLink l st s).freeTick = s.freeTick ∧ (enterLink l st s).pending = s.pending := by
  unfold enterLink
  try dsimp only
  simp

@[simp] theorem wakeLink_frame (l : LinkId) (s : State) :
    (wakeLink l s).tracker = s.tracker ∧ (wakeLink l s).map = s.map ∧ (wakeLink l s).plans = s.plans ∧
    (wakeLink l s).reg = s.reg ∧ (wakeLink l s).lam = s.lam ∧ (wakeLink l s).cut = s.cut ∧
    (wakeLink l s).line = s.line ∧ (wakeLink l s).hold = s.hold ∧ (wakeLink l s).ports = s.ports ∧
    (wakeLink l s).busy = s.busy ∧ (wakeLink l s).freeTick = s.freeTick ∧ (wakeLink l s).pending = s.pending := by
  unfold wakeLink
  try dsimp only
  simp

@[simp] theorem giveGo_frame (l : LinkId) (s : State) :
    (giveGo l s).tracker = s.tracker ∧ (giveGo l s).map = s.map ∧ (giveGo l s).plans = s.plans ∧
    (giveGo l s).reg = s.reg ∧ (giveGo l s).lam = s.lam ∧ (giveGo l s).cut = s.cut ∧
    (giveGo l s).line = s.line ∧ (giveGo l s).hold = s.hold ∧ (giveGo l s).ports = s.ports ∧
    (giveGo l s).busy = s.busy ∧ (giveGo l s).notices = s.notices ∧ (giveGo l s).freeTick = s.freeTick ∧
    (giveGo l s).pending = s.pending := by
  unfold giveGo
  try dsimp only
  (repeat' split) <;> simp

@[simp] theorem parkLink_frame (l : LinkId) (s : State) :
    (parkLink l s).tracker = s.tracker ∧ (parkLink l s).map = s.map ∧ (parkLink l s).plans = s.plans ∧
    (parkLink l s).reg = s.reg ∧ (parkLink l s).lam = s.lam ∧ (parkLink l s).cut = s.cut ∧
    (parkLink l s).line = s.line ∧ (parkLink l s).hold = s.hold ∧ (parkLink l s).ports = s.ports ∧
    (parkLink l s).busy = s.busy ∧ (parkLink l s).freeTick = s.freeTick ∧ (parkLink l s).pending = s.pending := by
  unfold parkLink
  try dsimp only
  simp

/-! ### LineControl -/

@[simp] theorem setSpeeds_frame (c t : Nat) (s : State) :
    (setSpeeds c t s).tracker = s.tracker ∧ (setSpeeds c t s).map = s.map ∧ (setSpeeds c t s).plans = s.plans ∧
    (setSpeeds c t s).reg = s.reg ∧ (setSpeeds c t s).lam = s.lam ∧ (setSpeeds c t s).cut = s.cut ∧
    (setSpeeds c t s).links = s.links ∧ (setSpeeds c t s).hold = s.hold ∧ (setSpeeds c t s).ports = s.ports ∧
    (setSpeeds c t s).busy = s.busy ∧ (setSpeeds c t s).freeTick = s.freeTick ∧ (setSpeeds c t s).pending = s.pending := by
  unfold setSpeeds
  try dsimp only
  (repeat' split) <;> simp

@[simp] theorem retarget_frame (s : State) :
    (retarget s).tracker = s.tracker ∧ (retarget s).map = s.map ∧ (retarget s).plans = s.plans ∧
    (retarget s).reg = s.reg ∧ (retarget s).lam = s.lam ∧ (retarget s).cut = s.cut ∧
    (retarget s).links = s.links ∧ (retarget s).hold = s.hold ∧ (retarget s).ports = s.ports ∧
    (retarget s).busy = s.busy ∧ (retarget s).freeTick = s.freeTick ∧ (retarget s).pending = s.pending := by
  unfold retarget
  try dsimp only
  simp

@[simp] theorem enterLine_frame (st : LineState) (s : State) :
    (enterLine st s).tracker = s.tracker ∧ (enterLine st s).map = s.map ∧ (enterLine st s).plans = s.plans ∧
    (enterLine st s).reg = s.reg ∧ (enterLine st s).lam = s.lam ∧ (enterLine st s).cut = s.cut ∧
    (enterLine st s).links = s.links ∧ (enterLine st s).hold = s.hold ∧ (enterLine st s).ports = s.ports ∧
    (enterLine st s).busy = s.busy ∧ (enterLine st s).freeTick = s.freeTick ∧ (enterLine st s).pending = s.pending := by
  unfold enterLine
  try dsimp only
  simp

@[simp] theorem parkOrOwe_frame (l : LinkId) (s : State) :
    (parkOrOwe l s).tracker = s.tracker ∧ (parkOrOwe l s).map = s.map ∧ (parkOrOwe l s).plans = s.plans ∧
    (parkOrOwe l s).reg = s.reg ∧ (parkOrOwe l s).lam = s.lam ∧ (parkOrOwe l s).cut = s.cut ∧
    (parkOrOwe l s).hold = s.hold ∧ (parkOrOwe l s).ports = s.ports ∧ (parkOrOwe l s).busy = s.busy ∧
    (parkOrOwe l s).freeTick = s.freeTick ∧ (parkOrOwe l s).pending = s.pending := by
  unfold parkOrOwe
  try dsimp only
  (repeat' split) <;> simp

@[simp] theorem parkAll_frame (s : State) :
    (parkAll s).tracker = s.tracker ∧ (parkAll s).map = s.map ∧ (parkAll s).plans = s.plans ∧
    (parkAll s).reg = s.reg ∧ (parkAll s).lam = s.lam ∧ (parkAll s).cut = s.cut ∧
    (parkAll s).hold = s.hold ∧ (parkAll s).ports = s.ports ∧ (parkAll s).busy = s.busy ∧
    (parkAll s).freeTick = s.freeTick ∧ (parkAll s).pending = s.pending := by
  simp [parkAll, allLinks]

@[simp] theorem enterStopped_frame (s : State) :
    (enterStopped s).tracker = s.tracker ∧ (enterStopped s).map = s.map ∧ (enterStopped s).plans = s.plans ∧
    (enterStopped s).reg = s.reg ∧ (enterStopped s).lam = s.lam ∧ (enterStopped s).cut = s.cut ∧
    (enterStopped s).hold = s.hold ∧ (enterStopped s).ports = s.ports ∧ (enterStopped s).busy = s.busy ∧
    (enterStopped s).freeTick = s.freeTick ∧ (enterStopped s).pending = s.pending := by
  unfold enterStopped
  try dsimp only
  simp

@[simp] theorem settleAtRest_frame (s : State) :
    (settleAtRest s).tracker = s.tracker ∧ (settleAtRest s).map = s.map ∧ (settleAtRest s).plans = s.plans ∧
    (settleAtRest s).reg = s.reg ∧ (settleAtRest s).lam = s.lam ∧ (settleAtRest s).cut = s.cut ∧
    (settleAtRest s).hold = s.hold ∧ (settleAtRest s).ports = s.ports ∧ (settleAtRest s).busy = s.busy ∧
    (settleAtRest s).freeTick = s.freeTick ∧ (settleAtRest s).pending = s.pending := by
  unfold settleAtRest
  try dsimp only
  (repeat' split) <;> simp

@[simp] theorem pushHold_frame (o : HoldOwner) (r : HoldReason) (d : FaultDetail) (s : State) :
    (pushHold o r d s).tracker = s.tracker ∧ (pushHold o r d s).map = s.map ∧ (pushHold o r d s).plans = s.plans ∧
    (pushHold o r d s).reg = s.reg ∧ (pushHold o r d s).lam = s.lam ∧ (pushHold o r d s).cut = s.cut ∧
    (pushHold o r d s).links = s.links ∧ (pushHold o r d s).line = s.line ∧ (pushHold o r d s).ports = s.ports ∧
    (pushHold o r d s).busy = s.busy ∧ (pushHold o r d s).notices = s.notices ∧ (pushHold o r d s).freeTick = s.freeTick ∧
    (pushHold o r d s).pending = s.pending := by
  unfold pushHold
  try dsimp only
  simp

@[simp] theorem haltReport_frame (s : State) :
    (haltReport s).tracker = s.tracker ∧ (haltReport s).map = s.map ∧ (haltReport s).plans = s.plans ∧
    (haltReport s).reg = s.reg ∧ (haltReport s).lam = s.lam ∧ (haltReport s).cut = s.cut ∧
    (haltReport s).hold = s.hold ∧ (haltReport s).ports = s.ports ∧ (haltReport s).busy = s.busy ∧
    (haltReport s).freeTick = s.freeTick ∧ (haltReport s).pending = s.pending := by
  unfold haltReport
  try dsimp only
  (repeat' split) <;> simp

@[simp] theorem takeFault_frame (r : HoldReason) (d : FaultDetail) (s : State) :
    (takeFault r d s).tracker = s.tracker ∧ (takeFault r d s).map = s.map ∧ (takeFault r d s).plans = s.plans ∧
    (takeFault r d s).reg = s.reg ∧ (takeFault r d s).lam = s.lam ∧ (takeFault r d s).cut = s.cut ∧
    (takeFault r d s).links = s.links ∧ (takeFault r d s).line = s.line ∧ (takeFault r d s).ports = s.ports ∧
    (takeFault r d s).busy = s.busy ∧ (takeFault r d s).notices = s.notices ∧ (takeFault r d s).freeTick = s.freeTick ∧
    (takeFault r d s).pending = s.pending := by
  unfold takeFault
  try dsimp only
  (repeat' split) <;> simp

@[simp] theorem faultHold_frame (r : HoldReason) (d : FaultDetail) (s : State) :
    (faultHold r d s).tracker = s.tracker ∧ (faultHold r d s).map = s.map ∧ (faultHold r d s).plans = s.plans ∧
    (faultHold r d s).reg = s.reg ∧ (faultHold r d s).lam = s.lam ∧ (faultHold r d s).cut = s.cut ∧
    (faultHold r d s).ports = s.ports ∧ (faultHold r d s).busy = s.busy ∧ (faultHold r d s).freeTick = s.freeTick ∧
    (faultHold r d s).pending = s.pending := by
  unfold faultHold
  try dsimp only
  simp

@[simp] theorem runEntry_frame (s : State) :
    (runEntry s).tracker = s.tracker ∧ (runEntry s).map = s.map ∧ (runEntry s).plans = s.plans ∧
    (runEntry s).reg = s.reg ∧ (runEntry s).lam = s.lam ∧ (runEntry s).cut = s.cut ∧
    (runEntry s).ports = s.ports ∧ (runEntry s).busy = s.busy ∧ (runEntry s).freeTick = s.freeTick ∧
    (runEntry s).pending = s.pending := by
  unfold runEntry
  try dsimp only
  (repeat' split) <;> simp

@[simp] theorem stackReport_frame (s : State) :
    (stackReport s).tracker = s.tracker ∧ (stackReport s).map = s.map ∧ (stackReport s).plans = s.plans ∧
    (stackReport s).reg = s.reg ∧ (stackReport s).lam = s.lam ∧ (stackReport s).cut = s.cut ∧
    (stackReport s).ports = s.ports ∧ (stackReport s).busy = s.busy ∧ (stackReport s).freeTick = s.freeTick ∧
    (stackReport s).pending = s.pending := by
  unfold stackReport
  try dsimp only
  (repeat' split) <;> simp

@[simp] theorem dropWakes_frame (s : State) :
    (dropWakes s).tracker = s.tracker ∧ (dropWakes s).map = s.map ∧ (dropWakes s).plans = s.plans ∧
    (dropWakes s).reg = s.reg ∧ (dropWakes s).lam = s.lam ∧ (dropWakes s).cut = s.cut ∧
    (dropWakes s).links = s.links ∧ (dropWakes s).hold = s.hold ∧ (dropWakes s).ports = s.ports ∧
    (dropWakes s).busy = s.busy ∧ (dropWakes s).notices = s.notices ∧ (dropWakes s).freeTick = s.freeTick ∧
    (dropWakes s).pending = s.pending := by
  unfold dropWakes
  try dsimp only
  simp

@[simp] theorem startFailure_frame (s : State) :
    (startFailure s).tracker = s.tracker ∧ (startFailure s).map = s.map ∧ (startFailure s).plans = s.plans ∧
    (startFailure s).reg = s.reg ∧ (startFailure s).lam = s.lam ∧ (startFailure s).cut = s.cut ∧
    (startFailure s).hold = s.hold ∧ (startFailure s).ports = s.ports ∧ (startFailure s).busy = s.busy ∧
    (startFailure s).freeTick = s.freeTick ∧ (startFailure s).pending = s.pending := by
  unfold startFailure
  try dsimp only
  simp

@[simp] theorem wakeOwed_frame (l : LinkId) (s : State) :
    (wakeOwed l s).tracker = s.tracker ∧ (wakeOwed l s).map = s.map ∧ (wakeOwed l s).plans = s.plans ∧
    (wakeOwed l s).reg = s.reg ∧ (wakeOwed l s).lam = s.lam ∧ (wakeOwed l s).cut = s.cut ∧
    (wakeOwed l s).hold = s.hold ∧ (wakeOwed l s).ports = s.ports ∧ (wakeOwed l s).busy = s.busy ∧
    (wakeOwed l s).freeTick = s.freeTick ∧ (wakeOwed l s).pending = s.pending := by
  unfold wakeOwed
  try dsimp only
  (repeat' split) <;> simp

@[simp] theorem goReport_frame (l : LinkId) (s : State) :
    (goReport l s).tracker = s.tracker ∧ (goReport l s).map = s.map ∧ (goReport l s).plans = s.plans ∧
    (goReport l s).reg = s.reg ∧ (goReport l s).lam = s.lam ∧ (goReport l s).cut = s.cut ∧
    (goReport l s).hold = s.hold ∧ (goReport l s).ports = s.ports ∧ (goReport l s).busy = s.busy ∧
    (goReport l s).notices = s.notices ∧ (goReport l s).freeTick = s.freeTick ∧ (goReport l s).pending = s.pending := by
  unfold goReport; (repeat' split) <;> simp [allLinks]

@[simp] theorem armedReport_frame (s : State) :
    (armedReport s).tracker = s.tracker ∧ (armedReport s).map = s.map ∧ (armedReport s).plans = s.plans ∧
    (armedReport s).reg = s.reg ∧ (armedReport s).lam = s.lam ∧ (armedReport s).cut = s.cut ∧
    (armedReport s).ports = s.ports ∧ (armedReport s).busy = s.busy ∧ (armedReport s).freeTick = s.freeTick ∧
    (armedReport s).pending = s.pending := by
  unfold armedReport
  try dsimp only
  (repeat' split) <;> simp

@[simp] theorem linkReport_frame (l : LinkId) (old : LinkState) (w : Bool) (s : State) :
    (linkReport l old w s).tracker = s.tracker ∧ (linkReport l old w s).map = s.map ∧ (linkReport l old w s).plans = s.plans ∧
    (linkReport l old w s).reg = s.reg ∧ (linkReport l old w s).lam = s.lam ∧ (linkReport l old w s).cut = s.cut ∧
    (linkReport l old w s).ports = s.ports ∧ (linkReport l old w s).busy = s.busy ∧ (linkReport l old w s).freeTick = s.freeTick ∧
    (linkReport l old w s).pending = s.pending := by
  unfold linkReport
  try dsimp only
  (repeat' split) <;> simp

@[simp] theorem owedParkReport_frame (l : LinkId) (s : State) :
    (owedParkReport l s).tracker = s.tracker ∧ (owedParkReport l s).map = s.map ∧ (owedParkReport l s).plans = s.plans ∧
    (owedParkReport l s).reg = s.reg ∧ (owedParkReport l s).lam = s.lam ∧ (owedParkReport l s).cut = s.cut ∧
    (owedParkReport l s).hold = s.hold ∧ (owedParkReport l s).ports = s.ports ∧ (owedParkReport l s).busy = s.busy ∧
    (owedParkReport l s).freeTick = s.freeTick ∧ (owedParkReport l s).pending = s.pending := by
  unfold owedParkReport
  try dsimp only
  (repeat' split) <;> simp

@[simp] theorem rampExpiry_frame (s : State) :
    (rampExpiry s).tracker = s.tracker ∧ (rampExpiry s).map = s.map ∧ (rampExpiry s).plans = s.plans ∧
    (rampExpiry s).reg = s.reg ∧ (rampExpiry s).lam = s.lam ∧ (rampExpiry s).cut = s.cut ∧
    (rampExpiry s).hold = s.hold ∧ (rampExpiry s).ports = s.ports ∧ (rampExpiry s).busy = s.busy ∧
    (rampExpiry s).freeTick = s.freeTick ∧ (rampExpiry s).pending = s.pending := by
  unfold rampExpiry
  try dsimp only
  (repeat' split) <;> simp

@[simp] theorem emergencyStop_frame (s : State) :
    (emergencyStop s).tracker = s.tracker ∧ (emergencyStop s).map = s.map ∧ (emergencyStop s).plans = s.plans ∧
    (emergencyStop s).reg = s.reg ∧ (emergencyStop s).lam = s.lam ∧ (emergencyStop s).cut = s.cut ∧
    (emergencyStop s).ports = s.ports ∧ (emergencyStop s).busy = s.busy ∧ (emergencyStop s).freeTick = s.freeTick ∧
    (emergencyStop s).pending = s.pending := by
  unfold emergencyStop
  try dsimp only
  simp

end Sys2Proof.Machine
end

