-- ==== Sys2Proof/Laws/PanelFrames.lean ====
section
/-! SUPPORT. What the operations of Laminator Control, of a scrap claim, of the knife and of commit expansion leave untouched. -/

namespace Sys2Proof.Machine

/-! ### Film -/

@[simp] theorem reportNip_frame (s : State) :
    (reportNip s).tracker = s.tracker ∧ (reportNip s).map = s.map ∧ (reportNip s).plans = s.plans ∧
    (reportNip s).reg = s.reg ∧ (reportNip s).lam = s.lam ∧ (reportNip s).cut = s.cut ∧
    (reportNip s).links = s.links ∧ (reportNip s).hold = s.hold ∧ (reportNip s).ports = s.ports ∧
    (reportNip s).busy = s.busy ∧ (reportNip s).freeTick = s.freeTick ∧ (reportNip s).pending = s.pending := by
  unfold reportNip
  try dsimp only
  (repeat' split) <;> simp

@[simp] theorem issueNip_frame (o : LamOp) (s : State) :
    (issueNip o s).tracker = s.tracker ∧ (issueNip o s).map = s.map ∧ (issueNip o s).plans = s.plans ∧
    (issueNip o s).reg = s.reg ∧ (issueNip o s).cut = s.cut ∧ (issueNip o s).line = s.line ∧
    (issueNip o s).hold = s.hold ∧ (issueNip o s).ports = s.ports ∧ (issueNip o s).busy = s.busy ∧
    (issueNip o s).notices = s.notices ∧ (issueNip o s).freeTick = s.freeTick ∧ (issueNip o s).pending = s.pending := by
  unfold issueNip; split
  · next h => simp [requestOp_frame _ _ _ _ _ _ h]
  · simp

@[simp] theorem transitionDecision_frame (s : State) :
    (transitionDecision s).tracker = s.tracker ∧ (transitionDecision s).map = s.map ∧ (transitionDecision s).plans = s.plans ∧
    (transitionDecision s).reg = s.reg ∧ (transitionDecision s).cut = s.cut ∧ (transitionDecision s).line = s.line ∧
    (transitionDecision s).hold = s.hold ∧ (transitionDecision s).ports = s.ports ∧ (transitionDecision s).busy = s.busy ∧
    (transitionDecision s).notices = s.notices ∧ (transitionDecision s).freeTick = s.freeTick ∧ (transitionDecision s).pending = s.pending := by
  unfold transitionDecision
  try dsimp only
  (repeat' split) <;> simp

@[simp] theorem decideIfOpen_frame (s : State) :
    (decideIfOpen s).tracker = s.tracker ∧ (decideIfOpen s).map = s.map ∧ (decideIfOpen s).plans = s.plans ∧
    (decideIfOpen s).reg = s.reg ∧ (decideIfOpen s).cut = s.cut ∧ (decideIfOpen s).line = s.line ∧
    (decideIfOpen s).hold = s.hold ∧ (decideIfOpen s).ports = s.ports ∧ (decideIfOpen s).busy = s.busy ∧
    (decideIfOpen s).notices = s.notices ∧ (decideIfOpen s).freeTick = s.freeTick ∧ (decideIfOpen s).pending = s.pending := by
  unfold decideIfOpen
  try dsimp only
  (repeat' split) <;> simp

@[simp] theorem spliceSearch_frame (s : State) :
    (spliceSearch s).tracker = s.tracker ∧ (spliceSearch s).plans = s.plans ∧ (spliceSearch s).reg = s.reg ∧
    (spliceSearch s).cut = s.cut ∧ (spliceSearch s).line = s.line ∧ (spliceSearch s).hold = s.hold ∧
    (spliceSearch s).ports = s.ports ∧ (spliceSearch s).busy = s.busy ∧ (spliceSearch s).freeTick = s.freeTick ∧
    (spliceSearch s).pending = s.pending := by
  unfold spliceSearch
  try dsimp only
  (repeat' split) <;> simp

@[simp] theorem wantSplice_frame (s : State) :
    (wantSplice s).tracker = s.tracker ∧ (wantSplice s).plans = s.plans ∧ (wantSplice s).reg = s.reg ∧
    (wantSplice s).cut = s.cut ∧ (wantSplice s).line = s.line ∧ (wantSplice s).hold = s.hold ∧
    (wantSplice s).ports = s.ports ∧ (wantSplice s).busy = s.busy ∧ (wantSplice s).freeTick = s.freeTick ∧
    (wantSplice s).pending = s.pending := by
  unfold wantSplice
  try dsimp only
  simp

@[simp] theorem autoSplice_frame (s : State) :
    (autoSplice s).tracker = s.tracker ∧ (autoSplice s).plans = s.plans ∧ (autoSplice s).reg = s.reg ∧
    (autoSplice s).cut = s.cut ∧ (autoSplice s).line = s.line ∧ (autoSplice s).hold = s.hold ∧
    (autoSplice s).ports = s.ports ∧ (autoSplice s).busy = s.busy ∧ (autoSplice s).freeTick = s.freeTick ∧
    (autoSplice s).pending = s.pending := by
  unfold autoSplice
  try dsimp only
  (repeat' split) <;> simp

@[simp] theorem evalFilm_frame (s : State) :
    (evalFilm s).tracker = s.tracker ∧ (evalFilm s).plans = s.plans ∧ (evalFilm s).reg = s.reg ∧
    (evalFilm s).cut = s.cut ∧ (evalFilm s).line = s.line ∧ (evalFilm s).hold = s.hold ∧
    (evalFilm s).ports = s.ports ∧ (evalFilm s).busy = s.busy ∧ (evalFilm s).freeTick = s.freeTick ∧
    (evalFilm s).pending = s.pending := by
  unfold evalFilm
  try dsimp only
  simp

@[simp] theorem swapReels_frame (s : State) :
    (swapReels s).tracker = s.tracker ∧ (swapReels s).map = s.map ∧ (swapReels s).plans = s.plans ∧
    (swapReels s).reg = s.reg ∧ (swapReels s).cut = s.cut ∧ (swapReels s).links = s.links ∧
    (swapReels s).line = s.line ∧ (swapReels s).hold = s.hold ∧ (swapReels s).ports = s.ports ∧
    (swapReels s).busy = s.busy ∧ (swapReels s).notices = s.notices ∧ (swapReels s).freeTick = s.freeTick ∧
    (swapReels s).pending = s.pending := by
  unfold swapReels
  try dsimp only
  simp

@[simp] theorem lamComplete_frame (s : State) :
    (lamComplete s).tracker = s.tracker ∧ (lamComplete s).plans = s.plans ∧ (lamComplete s).reg = s.reg ∧
    (lamComplete s).cut = s.cut ∧ (lamComplete s).line = s.line ∧ (lamComplete s).hold = s.hold ∧
    (lamComplete s).ports = s.ports ∧ (lamComplete s).busy = s.busy ∧ (lamComplete s).freeTick = s.freeTick ∧
    (lamComplete s).pending = s.pending := by
  unfold lamComplete
  try dsimp only
  (repeat' split) <;> simp

@[simp] theorem lamFail_frame (s : State) :
    (lamFail s).tracker = s.tracker ∧ (lamFail s).plans = s.plans ∧ (lamFail s).reg = s.reg ∧
    (lamFail s).cut = s.cut ∧ (lamFail s).line = s.line ∧ (lamFail s).hold = s.hold ∧
    (lamFail s).ports = s.ports ∧ (lamFail s).busy = s.busy ∧ (lamFail s).freeTick = s.freeTick ∧
    (lamFail s).pending = s.pending := by
  unfold lamFail
  try dsimp only
  (repeat' split) <;> simp

@[simp] theorem lamAnnounced_frame (t : Target) (s : State) :
    (lamAnnounced t s).tracker = s.tracker ∧ (lamAnnounced t s).plans = s.plans ∧ (lamAnnounced t s).reg = s.reg ∧
    (lamAnnounced t s).cut = s.cut ∧ (lamAnnounced t s).line = s.line ∧ (lamAnnounced t s).hold = s.hold ∧
    (lamAnnounced t s).ports = s.ports ∧ (lamAnnounced t s).busy = s.busy ∧ (lamAnnounced t s).freeTick = s.freeTick ∧
    (lamAnnounced t s).pending = s.pending := by
  unfold lamAnnounced
  try dsimp only
  (repeat' split) <;> simp

@[simp] theorem lamRemoved_frame (t : Target) (w : Bool) (s : State) :
    (lamRemoved t w s).tracker = s.tracker ∧ (lamRemoved t w s).plans = s.plans ∧ (lamRemoved t w s).reg = s.reg ∧
    (lamRemoved t w s).cut = s.cut ∧ (lamRemoved t w s).hold = s.hold ∧ (lamRemoved t w s).ports = s.ports ∧
    (lamRemoved t w s).busy = s.busy ∧ (lamRemoved t w s).freeTick = s.freeTick ∧ (lamRemoved t w s).pending = s.pending := by
  unfold lamRemoved
  try dsimp only
  (repeat' split) <;> simp

/-! ### Scrap -/

@[simp] theorem appendReprint_frame (r : ReprintRecord) (s : State) :
    (appendReprint r s).tracker = s.tracker ∧ (appendReprint r s).plans = s.plans ∧ (appendReprint r s).reg = s.reg ∧
    (appendReprint r s).lam = s.lam ∧ (appendReprint r s).cut = s.cut ∧ (appendReprint r s).links = s.links ∧
    (appendReprint r s).line = s.line ∧ (appendReprint r s).hold = s.hold ∧ (appendReprint r s).ports = s.ports ∧
    (appendReprint r s).busy = s.busy ∧ (appendReprint r s).freeTick = s.freeTick ∧ (appendReprint r s).pending = s.pending := by
  unfold appendReprint
  try dsimp only
  (repeat' split) <;> simp

@[simp] theorem markScrap_frame (t : Target) (r : ScrapReason) (s : State) :
    (markScrap t r s).tracker = s.tracker ∧ (markScrap t r s).plans = s.plans ∧ (markScrap t r s).reg = s.reg ∧
    (markScrap t r s).lam = s.lam ∧ (markScrap t r s).cut = s.cut ∧ (markScrap t r s).links = s.links ∧
    (markScrap t r s).line = s.line ∧ (markScrap t r s).hold = s.hold ∧ (markScrap t r s).ports = s.ports ∧
    (markScrap t r s).busy = s.busy ∧ (markScrap t r s).freeTick = s.freeTick ∧ (markScrap t r s).pending = s.pending := by
  unfold markScrap
  try dsimp only
  (repeat' split) <;> simp

@[simp] theorem slitAttempt_frame (s : State) :
    (slitAttempt s).tracker = s.tracker ∧ (slitAttempt s).map = s.map ∧ (slitAttempt s).plans = s.plans ∧
    (slitAttempt s).reg = s.reg ∧ (slitAttempt s).lam = s.lam ∧ (slitAttempt s).line = s.line ∧
    (slitAttempt s).hold = s.hold ∧ (slitAttempt s).ports = s.ports ∧ (slitAttempt s).busy = s.busy ∧
    (slitAttempt s).notices = s.notices ∧ (slitAttempt s).freeTick = s.freeTick ∧ (slitAttempt s).pending = s.pending := by
  unfold slitAttempt; split
  · simp
  · split
    · split
      · next h => simp [requestOp_frame _ _ _ _ _ _ h]
      · simp
    · simp

@[simp] theorem convertCuts_frame (t : Target) (s : State) :
    (convertCuts t s).tracker = s.tracker ∧ (convertCuts t s).map = s.map ∧ (convertCuts t s).plans = s.plans ∧
    (convertCuts t s).reg = s.reg ∧ (convertCuts t s).lam = s.lam ∧ (convertCuts t s).links = s.links ∧
    (convertCuts t s).line = s.line ∧ (convertCuts t s).hold = s.hold ∧ (convertCuts t s).ports = s.ports ∧
    (convertCuts t s).busy = s.busy ∧ (convertCuts t s).notices = s.notices ∧ (convertCuts t s).freeTick = s.freeTick ∧
    (convertCuts t s).pending = s.pending := by
  unfold convertCuts
  try dsimp only
  simp

@[simp] theorem handOn_frame (i : Nat) (t : Target) (d : Nat) (s : State) :
    (handOn i t d s).tracker = s.tracker ∧ (handOn i t d s).map = s.map ∧ (handOn i t d s).plans = s.plans ∧
    (handOn i t d s).reg = s.reg ∧ (handOn i t d s).lam = s.lam ∧ (handOn i t d s).links = s.links ∧
    (handOn i t d s).line = s.line ∧ (handOn i t d s).hold = s.hold ∧ (handOn i t d s).ports = s.ports ∧
    (handOn i t d s).busy = s.busy ∧ (handOn i t d s).notices = s.notices ∧ (handOn i t d s).freeTick = s.freeTick ∧
    (handOn i t d s).pending = s.pending := by
  unfold handOn
  try dsimp only
  simp

@[simp] theorem disposeOver_frame (i : Nat) (ts : List Target) (s : State) :
    (disposeOver i ts s).tracker = s.tracker ∧ (disposeOver i ts s).plans = s.plans ∧ (disposeOver i ts s).reg = s.reg ∧
    (disposeOver i ts s).lam = s.lam ∧ (disposeOver i ts s).line = s.line ∧ (disposeOver i ts s).hold = s.hold ∧
    (disposeOver i ts s).ports = s.ports ∧ (disposeOver i ts s).busy = s.busy ∧ (disposeOver i ts s).freeTick = s.freeTick ∧
    (disposeOver i ts s).pending = s.pending := by
  induction ts generalizing s with
  | nil => simp [disposeOver]
  | cons t ts ih =>
    unfold disposeOver
    dsimp only
    (repeat' split) <;> simp [ih]

@[simp] theorem disposeSlit_frame (t : Target) (s : State) :
    (disposeSlit t s).tracker = s.tracker ∧ (disposeSlit t s).plans = s.plans ∧ (disposeSlit t s).reg = s.reg ∧
    (disposeSlit t s).lam = s.lam ∧ (disposeSlit t s).line = s.line ∧ (disposeSlit t s).hold = s.hold ∧
    (disposeSlit t s).ports = s.ports ∧ (disposeSlit t s).busy = s.busy ∧ (disposeSlit t s).freeTick = s.freeTick ∧
    (disposeSlit t s).pending = s.pending := by
  unfold disposeSlit
  try dsimp only
  (repeat' split) <;> simp

@[simp] theorem convertPanel_frame (t : Target) (s : State) :
    (convertPanel t s).tracker = s.tracker ∧ (convertPanel t s).plans = s.plans ∧ (convertPanel t s).reg = s.reg ∧
    (convertPanel t s).lam = s.lam ∧ (convertPanel t s).line = s.line ∧ (convertPanel t s).hold = s.hold ∧
    (convertPanel t s).ports = s.ports ∧ (convertPanel t s).busy = s.busy ∧ (convertPanel t s).freeTick = s.freeTick ∧
    (convertPanel t s).pending = s.pending := by
  unfold convertPanel
  try dsimp only
  simp

@[simp] theorem scrapClaim_frame (t : Target) (r : ScrapReason) (s : State) :
    (scrapClaim t r s).tracker = s.tracker ∧ (scrapClaim t r s).plans = s.plans ∧ (scrapClaim t r s).reg = s.reg ∧
    (scrapClaim t r s).lam = s.lam ∧ (scrapClaim t r s).line = s.line ∧ (scrapClaim t r s).hold = s.hold ∧
    (scrapClaim t r s).ports = s.ports ∧ (scrapClaim t r s).busy = s.busy ∧ (scrapClaim t r s).freeTick = s.freeTick ∧
    (scrapClaim t r s).pending = s.pending := by
  unfold scrapClaim
  try dsimp only
  (repeat' split) <;> simp

@[simp] theorem deadlineCrossing_frame (t : Target) (s : State) :
    (deadlineCrossing t s).tracker = s.tracker ∧ (deadlineCrossing t s).plans = s.plans ∧ (deadlineCrossing t s).reg = s.reg ∧
    (deadlineCrossing t s).lam = s.lam ∧ (deadlineCrossing t s).line = s.line ∧ (deadlineCrossing t s).hold = s.hold ∧
    (deadlineCrossing t s).ports = s.ports ∧ (deadlineCrossing t s).busy = s.busy ∧ (deadlineCrossing t s).freeTick = s.freeTick ∧
    (deadlineCrossing t s).pending = s.pending := by
  unfold deadlineCrossing
  try dsimp only
  simp

@[simp] theorem moveComplete_frame (s : State) :
    (moveComplete s).tracker = s.tracker ∧ (moveComplete s).map = s.map ∧ (moveComplete s).plans = s.plans ∧
    (moveComplete s).reg = s.reg ∧ (moveComplete s).lam = s.lam ∧ (moveComplete s).line = s.line ∧
    (moveComplete s).hold = s.hold ∧ (moveComplete s).ports = s.ports ∧ (moveComplete s).busy = s.busy ∧
    (moveComplete s).notices = s.notices ∧ (moveComplete s).freeTick = s.freeTick ∧ (moveComplete s).pending = s.pending := by
  unfold moveComplete
  try dsimp only
  (repeat' split) <;> simp

@[simp] theorem moveFail_frame (s : State) :
    (moveFail s).tracker = s.tracker ∧ (moveFail s).plans = s.plans ∧ (moveFail s).reg = s.reg ∧
    (moveFail s).lam = s.lam ∧ (moveFail s).line = s.line ∧ (moveFail s).hold = s.hold ∧
    (moveFail s).ports = s.ports ∧ (moveFail s).busy = s.busy ∧ (moveFail s).freeTick = s.freeTick ∧
    (moveFail s).pending = s.pending := by
  unfold moveFail
  try dsimp only
  (repeat' split) <;> simp

@[simp] theorem cutRemoved_frame (t : Target) (s : State) :
    (cutRemoved t s).tracker = s.tracker ∧ (cutRemoved t s).map = s.map ∧ (cutRemoved t s).plans = s.plans ∧
    (cutRemoved t s).reg = s.reg ∧ (cutRemoved t s).lam = s.lam ∧ (cutRemoved t s).links = s.links ∧
    (cutRemoved t s).line = s.line ∧ (cutRemoved t s).hold = s.hold ∧ (cutRemoved t s).ports = s.ports ∧
    (cutRemoved t s).busy = s.busy ∧ (cutRemoved t s).notices = s.notices ∧ (cutRemoved t s).freeTick = s.freeTick ∧
    (cutRemoved t s).pending = s.pending := by
  unfold cutRemoved
  try dsimp only
  (repeat' split) <;> simp

/-! ### Retire -/

@[simp] theorem appendOutcome_frame (r : OutcomeRecord) (s : State) :
    (appendOutcome r s).tracker = s.tracker ∧ (appendOutcome r s).plans = s.plans ∧ (appendOutcome r s).reg = s.reg ∧
    (appendOutcome r s).lam = s.lam ∧ (appendOutcome r s).cut = s.cut ∧ (appendOutcome r s).links = s.links ∧
    (appendOutcome r s).line = s.line ∧ (appendOutcome r s).hold = s.hold ∧ (appendOutcome r s).ports = s.ports ∧
    (appendOutcome r s).busy = s.busy ∧ (appendOutcome r s).freeTick = s.freeTick ∧ (appendOutcome r s).pending = s.pending := by
  unfold appendOutcome
  try dsimp only
  (repeat' split) <;> simp

@[simp] theorem State.dropEntry_frame (t : Target) (s : State) :
    (s.dropEntry t).tracker = s.tracker ∧ (s.dropEntry t).plans = s.plans ∧ (s.dropEntry t).reg = s.reg ∧
    (s.dropEntry t).lam = s.lam ∧ (s.dropEntry t).cut = s.cut ∧ (s.dropEntry t).links = s.links ∧
    (s.dropEntry t).line = s.line ∧ (s.dropEntry t).hold = s.hold ∧ (s.dropEntry t).ports = s.ports ∧
    (s.dropEntry t).busy = s.busy ∧ (s.dropEntry t).notices = s.notices ∧ (s.dropEntry t).freeTick = s.freeTick ∧
    (s.dropEntry t).pending = s.pending := by
  unfold State.dropEntry
  try dsimp only
  simp

@[simp] theorem retire_frame (t : Target) (s : State) :
    (retire t s).tracker = s.tracker ∧ (retire t s).reg = s.reg ∧ (retire t s).hold = s.hold ∧
    (retire t s).ports = s.ports ∧ (retire t s).busy = s.busy ∧ (retire t s).freeTick = s.freeTick ∧
    (retire t s).pending = s.pending := by
  unfold retire
  try dsimp only
  (repeat' split) <;> simp

@[simp] theorem retireIfDone_frame (t : Target) (s : State) :
    (retireIfDone t s).tracker = s.tracker ∧ (retireIfDone t s).reg = s.reg ∧ (retireIfDone t s).hold = s.hold ∧
    (retireIfDone t s).ports = s.ports ∧ (retireIfDone t s).busy = s.busy ∧ (retireIfDone t s).freeTick = s.freeTick ∧
    (retireIfDone t s).pending = s.pending := by
  unfold retireIfDone
  try dsimp only
  (repeat' split) <;> simp

@[simp] theorem resolveCut_frame (t : Target) (m : Bool) (s : State) :
    (resolveCut t m s).tracker = s.tracker ∧ (resolveCut t m s).reg = s.reg ∧ (resolveCut t m s).hold = s.hold ∧
    (resolveCut t m s).ports = s.ports ∧ (resolveCut t m s).busy = s.busy ∧ (resolveCut t m s).freeTick = s.freeTick ∧
    (resolveCut t m s).pending = s.pending := by
  unfold resolveCut
  try dsimp only
  (repeat' split) <;> simp

@[simp] theorem cutMissed_frame (c : CutEntry) (s : State) :
    (cutMissed c s).tracker = s.tracker ∧ (cutMissed c s).reg = s.reg ∧ (cutMissed c s).hold = s.hold ∧
    (cutMissed c s).ports = s.ports ∧ (cutMissed c s).busy = s.busy ∧ (cutMissed c s).freeTick = s.freeTick ∧
    (cutMissed c s).pending = s.pending := by
  unfold cutMissed
  try dsimp only
  (repeat' split) <;> simp

@[simp] theorem cutCrossing_frame (s : State) :
    (cutCrossing s).tracker = s.tracker ∧ (cutCrossing s).reg = s.reg ∧ (cutCrossing s).hold = s.hold ∧
    (cutCrossing s).ports = s.ports ∧ (cutCrossing s).busy = s.busy ∧ (cutCrossing s).freeTick = s.freeTick ∧
    (cutCrossing s).pending = s.pending := by
  unfold cutCrossing; split
  · simp
  · split
    · dsimp only
      split
      · next h => simp [requestOp_frame _ _ _ _ _ _ h]
      · simp
    · simp

@[simp] theorem cutComplete_frame (s : State) :
    (cutComplete s).tracker = s.tracker ∧ (cutComplete s).reg = s.reg ∧ (cutComplete s).hold = s.hold ∧
    (cutComplete s).ports = s.ports ∧ (cutComplete s).busy = s.busy ∧ (cutComplete s).freeTick = s.freeTick ∧
    (cutComplete s).pending = s.pending := by
  unfold cutComplete
  try dsimp only
  (repeat' split) <;> simp

@[simp] theorem cutFail_frame (s : State) :
    (cutFail s).tracker = s.tracker ∧ (cutFail s).reg = s.reg ∧ (cutFail s).hold = s.hold ∧
    (cutFail s).ports = s.ports ∧ (cutFail s).busy = s.busy ∧ (cutFail s).freeTick = s.freeTick ∧
    (cutFail s).pending = s.pending := by
  unfold cutFail
  try dsimp only
  (repeat' split) <;> simp

@[simp] theorem insertCut_frame (c : CutEntry) (s : State) :
    (insertCut c s).tracker = s.tracker ∧ (insertCut c s).plans = s.plans ∧ (insertCut c s).reg = s.reg ∧
    (insertCut c s).lam = s.lam ∧ (insertCut c s).links = s.links ∧ (insertCut c s).line = s.line ∧
    (insertCut c s).hold = s.hold ∧ (insertCut c s).ports = s.ports ∧ (insertCut c s).busy = s.busy ∧
    (insertCut c s).notices = s.notices ∧ (insertCut c s).freeTick = s.freeTick ∧ (insertCut c s).pending = s.pending := by
  unfold insertCut
  try dsimp only
  simp

@[simp] theorem insertWaste_frame (c : CutEntry) (s : State) :
    (insertWaste c s).tracker = s.tracker ∧ (insertWaste c s).plans = s.plans ∧ (insertWaste c s).reg = s.reg ∧
    (insertWaste c s).lam = s.lam ∧ (insertWaste c s).links = s.links ∧ (insertWaste c s).line = s.line ∧
    (insertWaste c s).hold = s.hold ∧ (insertWaste c s).ports = s.ports ∧ (insertWaste c s).busy = s.busy ∧
    (insertWaste c s).notices = s.notices ∧ (insertWaste c s).freeTick = s.freeTick ∧ (insertWaste c s).pending = s.pending := by
  unfold insertWaste
  try dsimp only
  (repeat' split) <;> simp

@[simp] theorem wasteCuts_frame (e : MapEntry) (s : State) :
    (wasteCuts e s).tracker = s.tracker ∧ (wasteCuts e s).plans = s.plans ∧ (wasteCuts e s).reg = s.reg ∧
    (wasteCuts e s).lam = s.lam ∧ (wasteCuts e s).links = s.links ∧ (wasteCuts e s).line = s.line ∧
    (wasteCuts e s).hold = s.hold ∧ (wasteCuts e s).ports = s.ports ∧ (wasteCuts e s).busy = s.busy ∧
    (wasteCuts e s).notices = s.notices ∧ (wasteCuts e s).freeTick = s.freeTick ∧ (wasteCuts e s).pending = s.pending := by
  unfold wasteCuts
  try dsimp only
  simp

@[simp] theorem expandScrap_frame (e : MapEntry) (r : ScrapReason) (s : State) :
    (expandScrap e r s).tracker = s.tracker ∧ (expandScrap e r s).plans = s.plans ∧ (expandScrap e r s).reg = s.reg ∧
    (expandScrap e r s).lam = s.lam ∧ (expandScrap e r s).line = s.line ∧ (expandScrap e r s).hold = s.hold ∧
    (expandScrap e r s).ports = s.ports ∧ (expandScrap e r s).busy = s.busy ∧ (expandScrap e r s).freeTick = s.freeTick ∧
    (expandScrap e r s).pending = s.pending := by
  unfold expandScrap
  try dsimp only
  simp

@[simp] theorem insertSlit_frame (x : SlitEntry) (s : State) :
    (insertSlit x s).tracker = s.tracker ∧ (insertSlit x s).map = s.map ∧ (insertSlit x s).plans = s.plans ∧
    (insertSlit x s).reg = s.reg ∧ (insertSlit x s).lam = s.lam ∧ (insertSlit x s).line = s.line ∧
    (insertSlit x s).hold = s.hold ∧ (insertSlit x s).ports = s.ports ∧ (insertSlit x s).busy = s.busy ∧
    (insertSlit x s).notices = s.notices ∧ (insertSlit x s).freeTick = s.freeTick ∧ (insertSlit x s).pending = s.pending := by
  unfold insertSlit
  try dsimp only
  simp

theorem foldInsertCut_frame (cs : List CutEntry) (s : State) :
    (cs.foldl (fun s c => insertCut c s) s).tracker = s.tracker ∧ (cs.foldl (fun s c => insertCut c s) s).plans = s.plans ∧ (cs.foldl (fun s c => insertCut c s) s).reg = s.reg ∧
    (cs.foldl (fun s c => insertCut c s) s).lam = s.lam ∧ (cs.foldl (fun s c => insertCut c s) s).links = s.links ∧ (cs.foldl (fun s c => insertCut c s) s).line = s.line ∧
    (cs.foldl (fun s c => insertCut c s) s).hold = s.hold ∧ (cs.foldl (fun s c => insertCut c s) s).ports = s.ports ∧ (cs.foldl (fun s c => insertCut c s) s).busy = s.busy ∧
    (cs.foldl (fun s c => insertCut c s) s).notices = s.notices ∧ (cs.foldl (fun s c => insertCut c s) s).freeTick = s.freeTick ∧ (cs.foldl (fun s c => insertCut c s) s).pending = s.pending := by
  induction cs generalizing s with
  | nil => simp
  | cons c cs ih => simp [ih]

@[simp] theorem expandNormal_frame (e : MapEntry) (q : Plan) (s : State) :
    (expandNormal e q s).tracker = s.tracker ∧ (expandNormal e q s).plans = s.plans ∧ (expandNormal e q s).reg = s.reg ∧
    (expandNormal e q s).lam = s.lam ∧ (expandNormal e q s).line = s.line ∧ (expandNormal e q s).hold = s.hold ∧
    (expandNormal e q s).ports = s.ports ∧ (expandNormal e q s).busy = s.busy ∧ (expandNormal e q s).notices = s.notices ∧
    (expandNormal e q s).freeTick = s.freeTick ∧ (expandNormal e q s).pending = s.pending := by
  unfold expandNormal
  try dsimp only
  (repeat' split) <;> simp [foldInsertCut_frame]

@[simp] theorem expand_frame (e : MapEntry) (s : State) :
    (expand e s).tracker = s.tracker ∧ (expand e s).plans = s.plans ∧ (expand e s).reg = s.reg ∧
    (expand e s).lam = s.lam ∧ (expand e s).line = s.line ∧ (expand e s).hold = s.hold ∧
    (expand e s).ports = s.ports ∧ (expand e s).busy = s.busy ∧ (expand e s).freeTick = s.freeTick ∧
    (expand e s).pending = s.pending := by
  unfold expand
  try dsimp only
  (repeat' split) <;> simp

@[simp] theorem commitCrossing_frame (t : Target) (s : State) :
    (commitCrossing t s).tracker = s.tracker ∧ (commitCrossing t s).plans = s.plans ∧ (commitCrossing t s).reg = s.reg ∧
    (commitCrossing t s).lam = s.lam ∧ (commitCrossing t s).line = s.line ∧ (commitCrossing t s).hold = s.hold ∧
    (commitCrossing t s).ports = s.ports ∧ (commitCrossing t s).busy = s.busy ∧ (commitCrossing t s).freeTick = s.freeTick ∧
    (commitCrossing t s).pending = s.pending := by
  unfold commitCrossing
  try dsimp only
  (repeat' split) <;> simp

end Sys2Proof.Machine
end

