-- ==== Sys2Proof/Laws/EventFrames.lean ====
section
/-! SUPPORT. What the operations of the Registration Checker, the Web Tracker, the stations and the ports leave untouched. -/

namespace Sys2Proof.Machine

/-! ### Registration -/

@[simp] theorem settleReads_frame (t : Target) (s : State) :
    (settleReads t s).tracker = s.tracker ∧ (settleReads t s).map = s.map ∧ (settleReads t s).plans = s.plans ∧
    (settleReads t s).reg = s.reg ∧ (settleReads t s).lam = s.lam ∧ (settleReads t s).cut = s.cut ∧
    (settleReads t s).links = s.links ∧ (settleReads t s).line = s.line ∧ (settleReads t s).hold = s.hold ∧
    (settleReads t s).busy = s.busy ∧ (settleReads t s).notices = s.notices ∧ (settleReads t s).freeTick = s.freeTick ∧
    (settleReads t s).pending = s.pending := by
  unfold settleReads
  try dsimp only
  (repeat' split) <;> simp

@[simp] theorem setLock_frame (k : LockState) (n : Nat) (s : State) :
    (setLock k n s).tracker = s.tracker ∧ (setLock k n s).map = s.map ∧ (setLock k n s).plans = s.plans ∧
    (setLock k n s).lam = s.lam ∧ (setLock k n s).cut = s.cut ∧ (setLock k n s).links = s.links ∧
    (setLock k n s).line = s.line ∧ (setLock k n s).hold = s.hold ∧ (setLock k n s).ports = s.ports ∧
    (setLock k n s).busy = s.busy ∧ (setLock k n s).freeTick = s.freeTick ∧ (setLock k n s).pending = s.pending := by
  unfold setLock
  try dsimp only
  simp

@[simp] theorem seekLock_frame (s : State) :
    (seekLock s).tracker = s.tracker ∧ (seekLock s).map = s.map ∧ (seekLock s).plans = s.plans ∧
    (seekLock s).lam = s.lam ∧ (seekLock s).cut = s.cut ∧ (seekLock s).links = s.links ∧
    (seekLock s).line = s.line ∧ (seekLock s).hold = s.hold ∧ (seekLock s).ports = s.ports ∧
    (seekLock s).busy = s.busy ∧ (seekLock s).freeTick = s.freeTick ∧ (seekLock s).pending = s.pending := by
  unfold seekLock
  try dsimp only
  simp

@[simp] theorem loseLock_frame (t : Target) (s : State) :
    (loseLock t s).tracker = s.tracker ∧ (loseLock t s).map = s.map ∧ (loseLock t s).plans = s.plans ∧
    (loseLock t s).lam = s.lam ∧ (loseLock t s).cut = s.cut ∧ (loseLock t s).ports = s.ports ∧
    (loseLock t s).busy = s.busy ∧ (loseLock t s).freeTick = s.freeTick ∧ (loseLock t s).pending = s.pending := by
  unfold loseLock
  try dsimp only
  simp

@[simp] theorem lockGood_frame (s : State) :
    (lockGood s).tracker = s.tracker ∧ (lockGood s).map = s.map ∧ (lockGood s).plans = s.plans ∧
    (lockGood s).lam = s.lam ∧ (lockGood s).cut = s.cut ∧ (lockGood s).links = s.links ∧
    (lockGood s).line = s.line ∧ (lockGood s).hold = s.hold ∧ (lockGood s).ports = s.ports ∧
    (lockGood s).busy = s.busy ∧ (lockGood s).freeTick = s.freeTick ∧ (lockGood s).pending = s.pending := by
  unfold lockGood
  try dsimp only
  simp

@[simp] theorem lockUnread_frame (t : Target) (s : State) :
    (lockUnread t s).tracker = s.tracker ∧ (lockUnread t s).map = s.map ∧ (lockUnread t s).plans = s.plans ∧
    (lockUnread t s).lam = s.lam ∧ (lockUnread t s).cut = s.cut ∧ (lockUnread t s).ports = s.ports ∧
    (lockUnread t s).busy = s.busy ∧ (lockUnread t s).freeTick = s.freeTick ∧ (lockUnread t s).pending = s.pending := by
  unfold lockUnread
  try dsimp only
  (repeat' split) <;> simp

@[simp] theorem openCrossing_frame (t : Target) (s : State) :
    (openCrossing t s).tracker = s.tracker ∧ (openCrossing t s).plans = s.plans ∧ (openCrossing t s).reg = s.reg ∧
    (openCrossing t s).lam = s.lam ∧ (openCrossing t s).cut = s.cut ∧ (openCrossing t s).links = s.links ∧
    (openCrossing t s).line = s.line ∧ (openCrossing t s).hold = s.hold ∧ (openCrossing t s).ports = s.ports ∧
    (openCrossing t s).busy = s.busy ∧ (openCrossing t s).notices = s.notices ∧ (openCrossing t s).freeTick = s.freeTick ∧
    (openCrossing t s).pending = s.pending := by
  unfold openCrossing
  try dsimp only
  simp

@[simp] theorem closeCrossing_frame (t : Target) (s : State) :
    (closeCrossing t s).tracker = s.tracker ∧ (closeCrossing t s).plans = s.plans ∧ (closeCrossing t s).lam = s.lam ∧
    (closeCrossing t s).busy = s.busy ∧ (closeCrossing t s).freeTick = s.freeTick ∧ (closeCrossing t s).pending = s.pending := by
  unfold closeCrossing
  try dsimp only
  (repeat' split) <;> simp

@[simp] theorem comparedMark_frame (e : MapEntry) (w : Window) (s : State) :
    (comparedMark e w s).tracker = s.tracker ∧ (comparedMark e w s).plans = s.plans ∧ (comparedMark e w s).lam = s.lam ∧
    (comparedMark e w s).cut = s.cut ∧ (comparedMark e w s).links = s.links ∧ (comparedMark e w s).line = s.line ∧
    (comparedMark e w s).hold = s.hold ∧ (comparedMark e w s).busy = s.busy ∧ (comparedMark e w s).freeTick = s.freeTick ∧
    (comparedMark e w s).pending = s.pending := by
  unfold comparedMark
  try dsimp only
  simp

@[simp] theorem markEvent_frame (s : State) :
    (markEvent s).tracker = s.tracker ∧ (markEvent s).plans = s.plans ∧ (markEvent s).lam = s.lam ∧
    (markEvent s).cut = s.cut ∧ (markEvent s).links = s.links ∧ (markEvent s).line = s.line ∧
    (markEvent s).hold = s.hold ∧ (markEvent s).busy = s.busy ∧ (markEvent s).freeTick = s.freeTick ∧
    (markEvent s).pending = s.pending := by
  unfold markEvent
  try dsimp only
  (repeat' split) <;> simp

/-! ### Crossings -/

@[simp] theorem syncPulse_frame (s : State) :
    (syncPulse s).map = s.map ∧ (syncPulse s).plans = s.plans ∧ (syncPulse s).reg = s.reg ∧
    (syncPulse s).lam = s.lam ∧ (syncPulse s).cut = s.cut ∧ (syncPulse s).links = s.links ∧
    (syncPulse s).line = s.line ∧ (syncPulse s).hold = s.hold ∧ (syncPulse s).ports = s.ports ∧
    (syncPulse s).busy = s.busy ∧ (syncPulse s).notices = s.notices ∧ (syncPulse s).freeTick = s.freeTick ∧
    (syncPulse s).pending = s.pending := by
  unfold syncPulse
  try dsimp only
  simp

@[simp] theorem syncCrossings_frame (es : List MapEntry) (s : State) :
    (syncCrossings es s).map = s.map ∧ (syncCrossings es s).plans = s.plans ∧ (syncCrossings es s).reg = s.reg ∧
    (syncCrossings es s).lam = s.lam ∧ (syncCrossings es s).cut = s.cut ∧ (syncCrossings es s).links = s.links ∧
    (syncCrossings es s).line = s.line ∧ (syncCrossings es s).hold = s.hold ∧ (syncCrossings es s).ports = s.ports ∧
    (syncCrossings es s).busy = s.busy ∧ (syncCrossings es s).notices = s.notices ∧ (syncCrossings es s).freeTick = s.freeTick ∧
    (syncCrossings es s).pending = s.pending := by
  unfold syncCrossings
  try dsimp only
  (repeat' split) <;> simp

theorem foldScrap_frame (ts : List Target) (s : State) :
    (ts.foldl (fun s t => scrapClaim t .filmOut s) s).tracker = s.tracker ∧ (ts.foldl (fun s t => scrapClaim t .filmOut s) s).plans = s.plans ∧ (ts.foldl (fun s t => scrapClaim t .filmOut s) s).reg = s.reg ∧
    (ts.foldl (fun s t => scrapClaim t .filmOut s) s).lam = s.lam ∧ (ts.foldl (fun s t => scrapClaim t .filmOut s) s).line = s.line ∧ (ts.foldl (fun s t => scrapClaim t .filmOut s) s).hold = s.hold ∧
    (ts.foldl (fun s t => scrapClaim t .filmOut s) s).ports = s.ports ∧ (ts.foldl (fun s t => scrapClaim t .filmOut s) s).busy = s.busy ∧ (ts.foldl (fun s t => scrapClaim t .filmOut s) s).freeTick = s.freeTick ∧
    (ts.foldl (fun s t => scrapClaim t .filmOut s) s).pending = s.pending := by
  induction ts generalizing s with
  | nil => simp
  | cons t ts ih => simp [ih]

@[simp] theorem filmOut_frame (s : State) :
    (filmOut s).tracker = s.tracker ∧ (filmOut s).plans = s.plans ∧ (filmOut s).reg = s.reg ∧
    (filmOut s).ports = s.ports ∧ (filmOut s).busy = s.busy ∧ (filmOut s).freeTick = s.freeTick ∧
    (filmOut s).pending = s.pending := by
  unfold filmOut; simp [foldScrap_frame]

@[simp] theorem filmStep_frame (s : State) :
    (filmStep s).tracker = s.tracker ∧ (filmStep s).plans = s.plans ∧ (filmStep s).reg = s.reg ∧
    (filmStep s).ports = s.ports ∧ (filmStep s).busy = s.busy ∧ (filmStep s).freeTick = s.freeTick ∧
    (filmStep s).pending = s.pending := by
  unfold filmStep
  try dsimp only
  (repeat' split) <;> simp

@[simp] theorem nipCheck_frame (e : MapEntry) (s : State) :
    (nipCheck e s).tracker = s.tracker ∧ (nipCheck e s).plans = s.plans ∧ (nipCheck e s).reg = s.reg ∧
    (nipCheck e s).line = s.line ∧ (nipCheck e s).hold = s.hold ∧ (nipCheck e s).ports = s.ports ∧
    (nipCheck e s).busy = s.busy ∧ (nipCheck e s).freeTick = s.freeTick ∧ (nipCheck e s).pending = s.pending := by
  unfold nipCheck
  try dsimp only
  (repeat' split) <;> simp

@[simp] theorem nipHeadCrossing_frame (t : Target) (s : State) :
    (nipHeadCrossing t s).tracker = s.tracker ∧ (nipHeadCrossing t s).plans = s.plans ∧ (nipHeadCrossing t s).reg = s.reg ∧
    (nipHeadCrossing t s).hold = s.hold ∧ (nipHeadCrossing t s).ports = s.ports ∧ (nipHeadCrossing t s).busy = s.busy ∧
    (nipHeadCrossing t s).freeTick = s.freeTick ∧ (nipHeadCrossing t s).pending = s.pending := by
  unfold nipHeadCrossing
  try dsimp only
  (repeat' split) <;> simp

@[simp] theorem nipTailCrossing_frame (t : Target) (s : State) :
    (nipTailCrossing t s).tracker = s.tracker ∧ (nipTailCrossing t s).plans = s.plans ∧ (nipTailCrossing t s).reg = s.reg ∧
    (nipTailCrossing t s).cut = s.cut ∧ (nipTailCrossing t s).hold = s.hold ∧ (nipTailCrossing t s).ports = s.ports ∧
    (nipTailCrossing t s).busy = s.busy ∧ (nipTailCrossing t s).freeTick = s.freeTick ∧ (nipTailCrossing t s).pending = s.pending := by
  unfold nipTailCrossing
  try dsimp only
  simp

@[simp] theorem printLineCrossing_frame (t : Target) (s : State) :
    (printLineCrossing t s).tracker = s.tracker ∧ (printLineCrossing t s).plans = s.plans ∧ (printLineCrossing t s).reg = s.reg ∧
    (printLineCrossing t s).lam = s.lam ∧ (printLineCrossing t s).cut = s.cut ∧ (printLineCrossing t s).links = s.links ∧
    (printLineCrossing t s).line = s.line ∧ (printLineCrossing t s).hold = s.hold ∧ (printLineCrossing t s).ports = s.ports ∧
    (printLineCrossing t s).busy = s.busy ∧ (printLineCrossing t s).freeTick = s.freeTick ∧ (printLineCrossing t s).pending = s.pending := by
  unfold printLineCrossing
  try dsimp only
  simp

@[simp] theorem knifeHeadCrossing_frame (t : Target) (s : State) :
    (knifeHeadCrossing t s).tracker = s.tracker ∧ (knifeHeadCrossing t s).plans = s.plans ∧ (knifeHeadCrossing t s).reg = s.reg ∧
    (knifeHeadCrossing t s).lam = s.lam ∧ (knifeHeadCrossing t s).cut = s.cut ∧ (knifeHeadCrossing t s).links = s.links ∧
    (knifeHeadCrossing t s).line = s.line ∧ (knifeHeadCrossing t s).hold = s.hold ∧ (knifeHeadCrossing t s).ports = s.ports ∧
    (knifeHeadCrossing t s).busy = s.busy ∧ (knifeHeadCrossing t s).notices = s.notices ∧ (knifeHeadCrossing t s).freeTick = s.freeTick ∧
    (knifeHeadCrossing t s).pending = s.pending := by
  unfold knifeHeadCrossing
  try dsimp only
  simp

@[simp] theorem knifeTailCrossing_frame (t : Target) (s : State) :
    (knifeTailCrossing t s).tracker = s.tracker ∧ (knifeTailCrossing t s).reg = s.reg ∧ (knifeTailCrossing t s).hold = s.hold ∧
    (knifeTailCrossing t s).ports = s.ports ∧ (knifeTailCrossing t s).busy = s.busy ∧ (knifeTailCrossing t s).freeTick = s.freeTick ∧
    (knifeTailCrossing t s).pending = s.pending := by
  unfold knifeTailCrossing
  try dsimp only
  simp

@[simp] theorem slitHeadCrossing_frame (t : Target) (s : State) :
    (slitHeadCrossing t s).tracker = s.tracker ∧ (slitHeadCrossing t s).plans = s.plans ∧ (slitHeadCrossing t s).reg = s.reg ∧
    (slitHeadCrossing t s).lam = s.lam ∧ (slitHeadCrossing t s).cut = s.cut ∧ (slitHeadCrossing t s).links = s.links ∧
    (slitHeadCrossing t s).line = s.line ∧ (slitHeadCrossing t s).hold = s.hold ∧ (slitHeadCrossing t s).ports = s.ports ∧
    (slitHeadCrossing t s).busy = s.busy ∧ (slitHeadCrossing t s).notices = s.notices ∧ (slitHeadCrossing t s).freeTick = s.freeTick ∧
    (slitHeadCrossing t s).pending = s.pending := by
  unfold slitHeadCrossing
  try dsimp only
  simp

@[simp] theorem slitTailCrossing_frame (t : Target) (s : State) :
    (slitTailCrossing t s).tracker = s.tracker ∧ (slitTailCrossing t s).plans = s.plans ∧ (slitTailCrossing t s).reg = s.reg ∧
    (slitTailCrossing t s).lam = s.lam ∧ (slitTailCrossing t s).line = s.line ∧ (slitTailCrossing t s).hold = s.hold ∧
    (slitTailCrossing t s).ports = s.ports ∧ (slitTailCrossing t s).busy = s.busy ∧ (slitTailCrossing t s).notices = s.notices ∧
    (slitTailCrossing t s).freeTick = s.freeTick ∧ (slitTailCrossing t s).pending = s.pending := by
  unfold slitTailCrossing
  try dsimp only
  simp

@[simp] theorem takePoint_frame (t : Target) (p : Point) (s : State) :
    (takePoint t p s).tracker = s.tracker ∧ (takePoint t p s).busy = s.busy ∧ (takePoint t p s).freeTick = s.freeTick ∧
    (takePoint t p s).pending = s.pending := by
  unfold takePoint
  try dsimp only
  (repeat' split) <;> simp

@[simp] theorem takeDue_frame (d : Due) (s : State) :
    (takeDue d s).tracker = s.tracker ∧ (takeDue d s).busy = s.busy ∧ (takeDue d s).freeTick = s.freeTick ∧
    (takeDue d s).pending = s.pending := by
  unfold takeDue
  try dsimp only
  (repeat' split) <;> simp

theorem takeWindows_frame (due : List Due) (s : State) :
    (takeWindows due s).tracker = s.tracker ∧ (takeWindows due s).busy = s.busy ∧
    (takeWindows due s).freeTick = s.freeTick ∧ (takeWindows due s).pending = s.pending := by
  unfold takeWindows
  induction due generalizing s with
  | nil => simp
  | cons d due ih => simp [ih]

@[simp] theorem endAdvance_frame (s : State) :
    (endAdvance s).tracker = s.tracker ∧ (endAdvance s).map = s.map ∧ (endAdvance s).reg = s.reg ∧
    (endAdvance s).ports = s.ports ∧ (endAdvance s).busy = s.busy ∧ (endAdvance s).freeTick = s.freeTick ∧
    (endAdvance s).pending = s.pending := by
  unfold endAdvance
  split <;> simp

@[simp] theorem markRow_frame (s : State) :
    (markRow s).tracker = s.tracker ∧ (markRow s).busy = s.busy ∧ (markRow s).pending = s.pending := by
  unfold markRow
  split <;> simp [takeWindows_frame]

theorem drain_frame (n : Nat) (due : List Due) (s : State) :
    (drain n due s).tracker = s.tracker ∧ (drain n due s).busy = s.busy ∧ (drain n due s).pending = s.pending := by
  induction n generalizing due s with
  | zero => simp [drain]
  | succ n ih =>
    unfold drain
    split
    · simp
    · split
      · simp
      · simp [ih]

@[simp] theorem advance_frame (s : State) :
    (advance s).busy = s.busy ∧ (advance s).pending = s.pending := by
  unfold advance; dsimp only; split <;> simp [drain_frame]

@[simp] theorem forwardStep_frame (s : State) :
    (forwardStep s).busy = s.busy ∧ (forwardStep s).pending = s.pending := by
  unfold forwardStep
  try dsimp only
  (repeat' split) <;> simp

@[simp] theorem reverseStep_frame (s : State) :
    (reverseStep s).map = s.map ∧ (reverseStep s).plans = s.plans ∧ (reverseStep s).reg = s.reg ∧
    (reverseStep s).lam = s.lam ∧ (reverseStep s).cut = s.cut ∧ (reverseStep s).ports = s.ports ∧
    (reverseStep s).busy = s.busy ∧ (reverseStep s).freeTick = s.freeTick ∧ (reverseStep s).pending = s.pending := by
  unfold reverseStep
  try dsimp only
  (repeat' split) <;> simp

/-! ### Stations -/

@[simp] theorem moveLink_frame (l : LinkId) (st : LinkState) (w : Bool) (s : State) :
    (moveLink l st w s).tracker = s.tracker ∧ (moveLink l st w s).map = s.map ∧ (moveLink l st w s).plans = s.plans ∧
    (moveLink l st w s).reg = s.reg ∧ (moveLink l st w s).lam = s.lam ∧ (moveLink l st w s).cut = s.cut ∧
    (moveLink l st w s).ports = s.ports ∧ (moveLink l st w s).busy = s.busy ∧ (moveLink l st w s).freeTick = s.freeTick ∧
    (moveLink l st w s).pending = s.pending := by
  unfold moveLink
  try dsimp only
  simp

@[simp] theorem parkAndReport_frame (l : LinkId) (w : Bool) (s : State) :
    (parkAndReport l w s).tracker = s.tracker ∧ (parkAndReport l w s).map = s.map ∧ (parkAndReport l w s).plans = s.plans ∧
    (parkAndReport l w s).reg = s.reg ∧ (parkAndReport l w s).lam = s.lam ∧ (parkAndReport l w s).cut = s.cut ∧
    (parkAndReport l w s).ports = s.ports ∧ (parkAndReport l w s).busy = s.busy ∧ (parkAndReport l w s).freeTick = s.freeTick ∧
    (parkAndReport l w s).pending = s.pending := by
  unfold parkAndReport
  try dsimp only
  simp

@[simp] theorem askerComplete_frame (l : LinkId) (s : State) :
    (askerComplete l s).tracker = s.tracker ∧ (askerComplete l s).reg = s.reg ∧ (askerComplete l s).hold = s.hold ∧
    (askerComplete l s).ports = s.ports ∧ (askerComplete l s).busy = s.busy ∧ (askerComplete l s).freeTick = s.freeTick ∧
    (askerComplete l s).pending = s.pending := by
  unfold askerComplete
  try dsimp only
  (repeat' split) <;> simp

@[simp] theorem askerFail_frame (l : LinkId) (s : State) :
    (askerFail l s).tracker = s.tracker ∧ (askerFail l s).reg = s.reg ∧ (askerFail l s).hold = s.hold ∧
    (askerFail l s).ports = s.ports ∧ (askerFail l s).busy = s.busy ∧ (askerFail l s).freeTick = s.freeTick ∧
    (askerFail l s).pending = s.pending := by
  unfold askerFail
  try dsimp only
  (repeat' split) <;> simp

@[simp] theorem dropOp_frame (l : LinkId) (s : State) :
    (dropOp l s).tracker = s.tracker ∧ (dropOp l s).map = s.map ∧ (dropOp l s).plans = s.plans ∧
    (dropOp l s).reg = s.reg ∧ (dropOp l s).lam = s.lam ∧ (dropOp l s).cut = s.cut ∧
    (dropOp l s).line = s.line ∧ (dropOp l s).hold = s.hold ∧ (dropOp l s).ports = s.ports ∧
    (dropOp l s).busy = s.busy ∧ (dropOp l s).notices = s.notices ∧ (dropOp l s).freeTick = s.freeTick ∧
    (dropOp l s).pending = s.pending := by
  unfold dropOp
  try dsimp only
  simp

@[simp] theorem completeOp_frame (l : LinkId) (s : State) :
    (completeOp l s).tracker = s.tracker ∧ (completeOp l s).reg = s.reg ∧ (completeOp l s).hold = s.hold ∧
    (completeOp l s).ports = s.ports ∧ (completeOp l s).busy = s.busy ∧ (completeOp l s).freeTick = s.freeTick ∧
    (completeOp l s).pending = s.pending := by
  unfold completeOp
  try dsimp only
  simp

@[simp] theorem reportFailure_frame (l : LinkId) (s : State) :
    (reportFailure l s).tracker = s.tracker ∧ (reportFailure l s).reg = s.reg ∧ (reportFailure l s).hold = s.hold ∧
    (reportFailure l s).ports = s.ports ∧ (reportFailure l s).busy = s.busy ∧ (reportFailure l s).freeTick = s.freeTick ∧
    (reportFailure l s).pending = s.pending := by
  unfold reportFailure
  try dsimp only
  simp

@[simp] theorem failLink_frame (l : LinkId) (r : HoldReason) (s : State) :
    (failLink l r s).tracker = s.tracker ∧ (failLink l r s).reg = s.reg ∧ (failLink l r s).ports = s.ports ∧
    (failLink l r s).busy = s.busy ∧ (failLink l r s).freeTick = s.freeTick ∧ (failLink l r s).pending = s.pending := by
  unfold failLink
  try dsimp only
  (repeat' split) <;> simp

@[simp] theorem enterActive_frame (l : LinkId) (s : State) :
    (enterActive l s).tracker = s.tracker ∧ (enterActive l s).map = s.map ∧ (enterActive l s).plans = s.plans ∧
    (enterActive l s).reg = s.reg ∧ (enterActive l s).lam = s.lam ∧ (enterActive l s).ports = s.ports ∧
    (enterActive l s).busy = s.busy ∧ (enterActive l s).freeTick = s.freeTick ∧ (enterActive l s).pending = s.pending := by
  unfold enterActive
  try dsimp only
  (repeat' split) <;> simp

@[simp] theorem slipLink_frame (l : LinkId) (s : State) :
    (slipLink l s).tracker = s.tracker ∧ (slipLink l s).map = s.map ∧ (slipLink l s).plans = s.plans ∧
    (slipLink l s).reg = s.reg ∧ (slipLink l s).lam = s.lam ∧ (slipLink l s).cut = s.cut ∧
    (slipLink l s).ports = s.ports ∧ (slipLink l s).busy = s.busy ∧ (slipLink l s).freeTick = s.freeTick ∧
    (slipLink l s).pending = s.pending := by
  unfold slipLink
  try dsimp only
  simp

@[simp] theorem armLink_frame (l : LinkId) (s : State) :
    (armLink l s).tracker = s.tracker ∧ (armLink l s).map = s.map ∧ (armLink l s).plans = s.plans ∧
    (armLink l s).reg = s.reg ∧ (armLink l s).lam = s.lam ∧ (armLink l s).cut = s.cut ∧
    (armLink l s).ports = s.ports ∧ (armLink l s).busy = s.busy ∧ (armLink l s).freeTick = s.freeTick ∧
    (armLink l s).pending = s.pending := by
  unfold armLink
  try dsimp only
  simp

@[simp] theorem wakeFailWaking_frame (l : LinkId) (s : State) :
    (wakeFailWaking l s).tracker = s.tracker ∧ (wakeFailWaking l s).map = s.map ∧ (wakeFailWaking l s).plans = s.plans ∧
    (wakeFailWaking l s).reg = s.reg ∧ (wakeFailWaking l s).lam = s.lam ∧ (wakeFailWaking l s).cut = s.cut ∧
    (wakeFailWaking l s).ports = s.ports ∧ (wakeFailWaking l s).busy = s.busy ∧ (wakeFailWaking l s).freeTick = s.freeTick ∧
    (wakeFailWaking l s).pending = s.pending := by
  unfold wakeFailWaking
  try dsimp only
  simp

@[simp] theorem wakeFailArmed_frame (l : LinkId) (s : State) :
    (wakeFailArmed l s).tracker = s.tracker ∧ (wakeFailArmed l s).map = s.map ∧ (wakeFailArmed l s).plans = s.plans ∧
    (wakeFailArmed l s).reg = s.reg ∧ (wakeFailArmed l s).lam = s.lam ∧ (wakeFailArmed l s).cut = s.cut ∧
    (wakeFailArmed l s).ports = s.ports ∧ (wakeFailArmed l s).busy = s.busy ∧ (wakeFailArmed l s).freeTick = s.freeTick ∧
    (wakeFailArmed l s).pending = s.pending := by
  unfold wakeFailArmed
  try dsimp only
  simp

@[simp] theorem parkDone_frame (l : LinkId) (s : State) :
    (parkDone l s).tracker = s.tracker ∧ (parkDone l s).map = s.map ∧ (parkDone l s).plans = s.plans ∧
    (parkDone l s).reg = s.reg ∧ (parkDone l s).lam = s.lam ∧ (parkDone l s).cut = s.cut ∧
    (parkDone l s).ports = s.ports ∧ (parkDone l s).busy = s.busy ∧ (parkDone l s).freeTick = s.freeTick ∧
    (parkDone l s).pending = s.pending := by
  unfold parkDone
  try dsimp only
  simp

@[simp] theorem recogniseWaking_frame (l : LinkId) (c : Indication) (s : State) :
    (recogniseWaking l c s).tracker = s.tracker ∧ (recogniseWaking l c s).map = s.map ∧ (recogniseWaking l c s).plans = s.plans ∧
    (recogniseWaking l c s).reg = s.reg ∧ (recogniseWaking l c s).lam = s.lam ∧ (recogniseWaking l c s).cut = s.cut ∧
    (recogniseWaking l c s).ports = s.ports ∧ (recogniseWaking l c s).busy = s.busy ∧ (recogniseWaking l c s).freeTick = s.freeTick ∧
    (recogniseWaking l c s).pending = s.pending := by
  unfold recogniseWaking
  try dsimp only
  (repeat' split) <;> simp

@[simp] theorem recogniseArmed_frame (l : LinkId) (c : Indication) (s : State) :
    (recogniseArmed l c s).tracker = s.tracker ∧ (recogniseArmed l c s).map = s.map ∧ (recogniseArmed l c s).plans = s.plans ∧
    (recogniseArmed l c s).reg = s.reg ∧ (recogniseArmed l c s).lam = s.lam ∧ (recogniseArmed l c s).ports = s.ports ∧
    (recogniseArmed l c s).busy = s.busy ∧ (recogniseArmed l c s).freeTick = s.freeTick ∧ (recogniseArmed l c s).pending = s.pending := by
  unfold recogniseArmed
  try dsimp only
  (repeat' split) <;> simp

@[simp] theorem recogniseActive_frame (l : LinkId) (c : Indication) (n : Nat) (s : State) :
    (recogniseActive l c n s).tracker = s.tracker ∧ (recogniseActive l c n s).reg = s.reg ∧ (recogniseActive l c n s).ports = s.ports ∧
    (recogniseActive l c n s).busy = s.busy ∧ (recogniseActive l c n s).freeTick = s.freeTick ∧ (recogniseActive l c n s).pending = s.pending := by
  unfold recogniseActive
  try dsimp only
  (repeat' split) <;> simp

@[simp] theorem recogniseSlipped_frame (l : LinkId) (c : Indication) (n : Nat) (s : State) :
    (recogniseSlipped l c n s).tracker = s.tracker ∧ (recogniseSlipped l c n s).reg = s.reg ∧ (recogniseSlipped l c n s).ports = s.ports ∧
    (recogniseSlipped l c n s).busy = s.busy ∧ (recogniseSlipped l c n s).freeTick = s.freeTick ∧ (recogniseSlipped l c n s).pending = s.pending := by
  unfold recogniseSlipped
  try dsimp only
  (repeat' split) <;> simp

@[simp] theorem recogniseParking_frame (l : LinkId) (c : Indication) (s : State) :
    (recogniseParking l c s).tracker = s.tracker ∧ (recogniseParking l c s).map = s.map ∧ (recogniseParking l c s).plans = s.plans ∧
    (recogniseParking l c s).reg = s.reg ∧ (recogniseParking l c s).lam = s.lam ∧ (recogniseParking l c s).cut = s.cut ∧
    (recogniseParking l c s).ports = s.ports ∧ (recogniseParking l c s).busy = s.busy ∧ (recogniseParking l c s).freeTick = s.freeTick ∧
    (recogniseParking l c s).pending = s.pending := by
  unfold recogniseParking
  try dsimp only
  (repeat' split) <;> simp

@[simp] theorem recognise_frame (l : LinkId) (c : Indication) (n r : Nat) (s : State) :
    (recognise l c n r s).tracker = s.tracker ∧ (recognise l c n r s).reg = s.reg ∧ (recognise l c n r s).ports = s.ports ∧
    (recognise l c n r s).busy = s.busy ∧ (recognise l c n r s).freeTick = s.freeTick ∧ (recognise l c n r s).pending = s.pending := by
  unfold recognise
  try dsimp only
  (repeat' split) <;> simp

@[simp] theorem frameFault_frame (l : LinkId) (s : State) :
    (frameFault l s).tracker = s.tracker ∧ (frameFault l s).map = s.map ∧ (frameFault l s).plans = s.plans ∧
    (frameFault l s).reg = s.reg ∧ (frameFault l s).lam = s.lam ∧ (frameFault l s).cut = s.cut ∧
    (frameFault l s).ports = s.ports ∧ (frameFault l s).busy = s.busy ∧ (frameFault l s).freeTick = s.freeTick ∧
    (frameFault l s).pending = s.pending := by
  unfold frameFault
  try dsimp only
  (repeat' split) <;> simp

@[simp] theorem countInvalid_frame (l : LinkId) (s : State) :
    (countInvalid l s).tracker = s.tracker ∧ (countInvalid l s).map = s.map ∧
    (countInvalid l s).plans = s.plans ∧ (countInvalid l s).reg = s.reg ∧ (countInvalid l s).lam = s.lam ∧
    (countInvalid l s).cut = s.cut ∧ (countInvalid l s).line = s.line ∧ (countInvalid l s).hold = s.hold ∧
    (countInvalid l s).busy = s.busy ∧ (countInvalid l s).notices = s.notices ∧
    (countInvalid l s).freeTick = s.freeTick ∧ (countInvalid l s).pending = s.pending := by
  unfold countInvalid
  try dsimp only
  (repeat' split) <;> simp

@[simp] theorem stationFrame_frame (l : LinkId) (b : Bytes) (s : State) :
    (stationFrame l b s).tracker = s.tracker ∧ (stationFrame l b s).reg = s.reg ∧ (stationFrame l b s).busy = s.busy ∧
    (stationFrame l b s).freeTick = s.freeTick ∧ (stationFrame l b s).pending = s.pending := by
  unfold stationFrame
  try dsimp only
  (repeat' split) <;> simp

/-- Only an invalid frame touches a port: one that is sending the link's error count (R157). -/
theorem stationFrame_ports (l : LinkId) (b : Bytes) (s : State)
    (h : decodeFrame b ≠ .invalid ∨ ∀ p, (s.port p).clears l = false) : (stationFrame l b s).ports = s.ports := by
  unfold stationFrame
  dsimp only
  split
  · rfl
  · next e =>
    have h1 : countInvalid l s = s.setLink l (s.link l).countError := by
      unfold countInvalid
      rcases h with h | h
      · exact absurd e h
      · simp [h]
    simp [h1]
  · split <;> simp

@[simp] theorem closePeriod_frame (l : LinkId) (s : State) :
    (closePeriod l s).tracker = s.tracker ∧ (closePeriod l s).map = s.map ∧ (closePeriod l s).plans = s.plans ∧
    (closePeriod l s).reg = s.reg ∧ (closePeriod l s).lam = s.lam ∧ (closePeriod l s).cut = s.cut ∧
    (closePeriod l s).ports = s.ports ∧ (closePeriod l s).busy = s.busy ∧ (closePeriod l s).freeTick = s.freeTick ∧
    (closePeriod l s).pending = s.pending := by
  unfold closePeriod
  try dsimp only
  (repeat' split) <;> simp

@[simp] theorem sendFrame_frame (l : LinkId) (s : State) :
    (sendFrame l s).tracker = s.tracker ∧ (sendFrame l s).map = s.map ∧ (sendFrame l s).plans = s.plans ∧
    (sendFrame l s).reg = s.reg ∧ (sendFrame l s).lam = s.lam ∧ (sendFrame l s).cut = s.cut ∧
    (sendFrame l s).line = s.line ∧ (sendFrame l s).hold = s.hold ∧ (sendFrame l s).ports = s.ports ∧
    (sendFrame l s).busy = s.busy ∧ (sendFrame l s).notices = s.notices ∧ (sendFrame l s).freeTick = s.freeTick ∧
    (sendFrame l s).pending = s.pending := by
  unfold sendFrame
  try dsimp only
  simp

@[simp] theorem tickTimers_frame (s : State) :
    (tickTimers s).map = s.map ∧ (tickTimers s).plans = s.plans ∧ (tickTimers s).reg = s.reg ∧
    (tickTimers s).lam = s.lam ∧ (tickTimers s).cut = s.cut ∧ (tickTimers s).hold = s.hold ∧
    (tickTimers s).ports = s.ports ∧ (tickTimers s).notices = s.notices ∧ (tickTimers s).freeTick = s.freeTick ∧
    (tickTimers s).pending = s.pending := by
  unfold tickTimers
  try dsimp only
  simp

@[simp] theorem framePeriod_frame (s : State) :
    (framePeriod s).map = s.map ∧ (framePeriod s).plans = s.plans ∧ (framePeriod s).reg = s.reg ∧
    (framePeriod s).lam = s.lam ∧ (framePeriod s).cut = s.cut ∧ (framePeriod s).ports = s.ports ∧
    (framePeriod s).freeTick = s.freeTick ∧ (framePeriod s).pending = s.pending := by
  simp [framePeriod, allLinks]

@[simp] theorem wakeExpiry_frame (l : LinkId) (s : State) :
    (wakeExpiry l s).tracker = s.tracker ∧ (wakeExpiry l s).map = s.map ∧ (wakeExpiry l s).plans = s.plans ∧
    (wakeExpiry l s).reg = s.reg ∧ (wakeExpiry l s).lam = s.lam ∧ (wakeExpiry l s).cut = s.cut ∧
    (wakeExpiry l s).ports = s.ports ∧ (wakeExpiry l s).busy = s.busy ∧ (wakeExpiry l s).freeTick = s.freeTick ∧
    (wakeExpiry l s).pending = s.pending := by
  unfold wakeExpiry
  try dsimp only
  (repeat' split) <;> simp

@[simp] theorem armExpiry_frame (l : LinkId) (s : State) :
    (armExpiry l s).tracker = s.tracker ∧ (armExpiry l s).map = s.map ∧ (armExpiry l s).plans = s.plans ∧
    (armExpiry l s).reg = s.reg ∧ (armExpiry l s).lam = s.lam ∧ (armExpiry l s).cut = s.cut ∧
    (armExpiry l s).ports = s.ports ∧ (armExpiry l s).busy = s.busy ∧ (armExpiry l s).freeTick = s.freeTick ∧
    (armExpiry l s).pending = s.pending := by
  unfold armExpiry
  try dsimp only
  (repeat' split) <;> simp

@[simp] theorem flywheelExpiry_frame (l : LinkId) (s : State) :
    (flywheelExpiry l s).tracker = s.tracker ∧ (flywheelExpiry l s).reg = s.reg ∧ (flywheelExpiry l s).ports = s.ports ∧
    (flywheelExpiry l s).busy = s.busy ∧ (flywheelExpiry l s).freeTick = s.freeTick ∧ (flywheelExpiry l s).pending = s.pending := by
  unfold flywheelExpiry
  try dsimp only
  (repeat' split) <;> simp

@[simp] theorem parkExpiry_frame (l : LinkId) (s : State) :
    (parkExpiry l s).tracker = s.tracker ∧ (parkExpiry l s).map = s.map ∧ (parkExpiry l s).plans = s.plans ∧
    (parkExpiry l s).reg = s.reg ∧ (parkExpiry l s).lam = s.lam ∧ (parkExpiry l s).cut = s.cut ∧
    (parkExpiry l s).ports = s.ports ∧ (parkExpiry l s).busy = s.busy ∧ (parkExpiry l s).freeTick = s.freeTick ∧
    (parkExpiry l s).pending = s.pending := by
  unfold parkExpiry
  try dsimp only
  (repeat' split) <;> simp

@[simp] theorem operationTimeout_frame (l : LinkId) (s : State) :
    (operationTimeout l s).tracker = s.tracker ∧ (operationTimeout l s).reg = s.reg ∧ (operationTimeout l s).ports = s.ports ∧
    (operationTimeout l s).busy = s.busy ∧ (operationTimeout l s).freeTick = s.freeTick ∧ (operationTimeout l s).pending = s.pending := by
  unfold operationTimeout
  try dsimp only
  (repeat' split) <;> simp

/-! ### Ports -/

@[simp] theorem portError_frame (p : PortId) (s : State) :
    (portError p s).tracker = s.tracker ∧ (portError p s).map = s.map ∧ (portError p s).plans = s.plans ∧
    (portError p s).reg = s.reg ∧ (portError p s).lam = s.lam ∧ (portError p s).cut = s.cut ∧
    (portError p s).links = s.links ∧ (portError p s).line = s.line ∧ (portError p s).hold = s.hold ∧
    (portError p s).busy = s.busy ∧ (portError p s).freeTick = s.freeTick ∧ (portError p s).pending = s.pending := by
  unfold portError
  try dsimp only
  simp

@[simp] theorem replaceResult_frame (p : PortId) (c : Byte) (a : Answer) (s : State) :
    (replaceResult p c a s).tracker = s.tracker ∧ (replaceResult p c a s).map = s.map ∧ (replaceResult p c a s).plans = s.plans ∧
    (replaceResult p c a s).reg = s.reg ∧ (replaceResult p c a s).lam = s.lam ∧ (replaceResult p c a s).cut = s.cut ∧
    (replaceResult p c a s).links = s.links ∧ (replaceResult p c a s).line = s.line ∧ (replaceResult p c a s).hold = s.hold ∧
    (replaceResult p c a s).busy = s.busy ∧ (replaceResult p c a s).notices = s.notices ∧ (replaceResult p c a s).freeTick = s.freeTick ∧
    (replaceResult p c a s).pending = s.pending := by
  unfold replaceResult
  try dsimp only
  simp

@[simp] theorem answer_frame (p : PortId) (c : Byte) (a : Answer) (s : State) :
    (answer p c a s).tracker = s.tracker ∧ (answer p c a s).map = s.map ∧ (answer p c a s).plans = s.plans ∧
    (answer p c a s).reg = s.reg ∧ (answer p c a s).lam = s.lam ∧ (answer p c a s).cut = s.cut ∧
    (answer p c a s).links = s.links ∧ (answer p c a s).line = s.line ∧ (answer p c a s).hold = s.hold ∧
    (answer p c a s).busy = s.busy ∧ (answer p c a s).freeTick = s.freeTick ∧ (answer p c a s).pending = s.pending := by
  unfold answer
  try dsimp only
  (repeat' split) <;> simp

@[simp] theorem sendReply_frame (p : PortId) (r : Bytes) (s : State) :
    (sendReply p r s).tracker = s.tracker ∧ (sendReply p r s).map = s.map ∧ (sendReply p r s).plans = s.plans ∧
    (sendReply p r s).reg = s.reg ∧ (sendReply p r s).lam = s.lam ∧ (sendReply p r s).cut = s.cut ∧
    (sendReply p r s).links = s.links ∧ (sendReply p r s).line = s.line ∧ (sendReply p r s).hold = s.hold ∧
    (sendReply p r s).busy = s.busy ∧ (sendReply p r s).notices = s.notices ∧ (sendReply p r s).freeTick = s.freeTick ∧
    (sendReply p r s).pending = s.pending := by
  unfold sendReply
  try dsimp only
  simp

@[simp] theorem endRead_frame (p : PortId) (e : ReadEnd) (s : State) :
    (endRead p e s).tracker = s.tracker ∧ (endRead p e s).map = s.map ∧ (endRead p e s).plans = s.plans ∧
    (endRead p e s).reg = s.reg ∧ (endRead p e s).lam = s.lam ∧ (endRead p e s).cut = s.cut ∧
    (endRead p e s).line = s.line ∧ (endRead p e s).hold = s.hold ∧ (endRead p e s).busy = s.busy ∧
    (endRead p e s).notices = s.notices ∧ (endRead p e s).freeTick = s.freeTick ∧ (endRead p e s).pending = s.pending := by
  unfold endRead
  try dsimp only
  (repeat' split) <;> simp

@[simp] theorem endReadWith_frame (p : PortId) (e : ReadEnd) (b : Bool) (s : State) :
    (endReadWith p e b s).tracker = s.tracker ∧ (endReadWith p e b s).map = s.map ∧
    (endReadWith p e b s).plans = s.plans ∧ (endReadWith p e b s).reg = s.reg ∧
    (endReadWith p e b s).lam = s.lam ∧ (endReadWith p e b s).cut = s.cut ∧
    (endReadWith p e b s).line = s.line ∧ (endReadWith p e b s).hold = s.hold ∧
    (endReadWith p e b s).busy = s.busy ∧ (endReadWith p e b s).freeTick = s.freeTick ∧
    (endReadWith p e b s).pending = s.pending := by
  unfold endReadWith
  try dsimp only
  (repeat' split) <;> simp

@[simp] theorem sendNothing_frame (p : PortId) (s : State) :
    (sendNothing p s).tracker = s.tracker ∧ (sendNothing p s).map = s.map ∧ (sendNothing p s).plans = s.plans ∧
    (sendNothing p s).reg = s.reg ∧ (sendNothing p s).lam = s.lam ∧ (sendNothing p s).cut = s.cut ∧
    (sendNothing p s).links = s.links ∧ (sendNothing p s).line = s.line ∧ (sendNothing p s).hold = s.hold ∧
    (sendNothing p s).busy = s.busy ∧ (sendNothing p s).notices = s.notices ∧
    (sendNothing p s).freeTick = s.freeTick ∧ (sendNothing p s).pending = s.pending := by
  unfold sendNothing
  try dsimp only
  simp

@[simp] theorem setTransaction_frame (p : PortId) (x : Transaction) (b : Bytes) (s : State) :
    (setTransaction p x b s).tracker = s.tracker ∧ (setTransaction p x b s).map = s.map ∧ (setTransaction p x b s).plans = s.plans ∧
    (setTransaction p x b s).reg = s.reg ∧ (setTransaction p x b s).lam = s.lam ∧ (setTransaction p x b s).cut = s.cut ∧
    (setTransaction p x b s).links = s.links ∧ (setTransaction p x b s).line = s.line ∧ (setTransaction p x b s).hold = s.hold ∧
    (setTransaction p x b s).busy = s.busy ∧ (setTransaction p x b s).notices = s.notices ∧ (setTransaction p x b s).freeTick = s.freeTick ∧
    (setTransaction p x b s).pending = s.pending := by
  unfold setTransaction
  try dsimp only
  simp

@[simp] theorem closeTransaction_frame (p : PortId) (s : State) :
    (closeTransaction p s).tracker = s.tracker ∧ (closeTransaction p s).map = s.map ∧ (closeTransaction p s).plans = s.plans ∧
    (closeTransaction p s).reg = s.reg ∧ (closeTransaction p s).lam = s.lam ∧ (closeTransaction p s).cut = s.cut ∧
    (closeTransaction p s).links = s.links ∧ (closeTransaction p s).line = s.line ∧ (closeTransaction p s).hold = s.hold ∧
    (closeTransaction p s).busy = s.busy ∧ (closeTransaction p s).notices = s.notices ∧ (closeTransaction p s).freeTick = s.freeTick ∧
    (closeTransaction p s).pending = s.pending := by
  unfold closeTransaction
  try dsimp only
  simp

@[simp] theorem shortTransaction_frame (p : PortId) (c : Byte) (n : Nat) (s : State) :
    (shortTransaction p c n s).tracker = s.tracker ∧ (shortTransaction p c n s).map = s.map ∧ (shortTransaction p c n s).plans = s.plans ∧
    (shortTransaction p c n s).reg = s.reg ∧ (shortTransaction p c n s).lam = s.lam ∧ (shortTransaction p c n s).cut = s.cut ∧
    (shortTransaction p c n s).links = s.links ∧ (shortTransaction p c n s).line = s.line ∧ (shortTransaction p c n s).hold = s.hold ∧
    (shortTransaction p c n s).busy = s.busy ∧ (shortTransaction p c n s).freeTick = s.freeTick ∧ (shortTransaction p c n s).pending = s.pending := by
  unfold shortTransaction
  try dsimp only
  simp

end Sys2Proof.Machine
end

