-- ==== Sys2Proof/Laws/Ops.lean ====
section
/-! SUPPORT. What the shared operations do, each said once: bits, raises and levels, speeds and line states, the hold stack, link requests, the plan list, and how a command is taken at a port. -/

namespace Sys2Proof.Machine

/-! ### Bits, raises and levels -/

theorem setBit_getLsbD {n : Nat} (w : BitVec n) (i j : Nat) (v : Bool) (h : j < n) :
    (setBit w i v).getLsbD j = if j = i then v else w.getLsbD j := by
  unfold setBit
  by_cases e : j = i
  · subst e
    cases v <;> simp [h]
  · cases v <;> simp [h, e]

/-- A raise of a notice outside its validity group reaches no copy (R192). -/
theorem raiseNotice_outside (n : Notice) (s : State) (h : s.inGroup n = false) : raiseNotice n s = s := by
  simp [raiseNotice, h]

/-- A raise inside the validity group reaches every copy and changes nothing else (R191, R192). -/
theorem raiseNotice_inside (n : Notice) (s : State) (h : s.inGroup n = true) :
    raiseNotice n s =
      s.setNotices { s.notices with copies := s.notices.copies.map (NoticeCopy.latch n.number) } := by
  simp [raiseNotice, h]

@[simp] theorem raiseNotice_levels (n : Notice) (s : State) : (raiseNotice n s).notices.levels = s.notices.levels := by
  unfold raiseNotice
  split <;> rfl

@[simp] theorem raiseNotice_level (n m : Notice) (s : State) : (raiseNotice n s).level m = s.level m := by
  simp [State.level]

/-- A raise that reaches a copy latches its notice there (R191). -/
theorem NoticeCopy.latch_latched (n : Nat) (c : NoticeCopy) (hn : n < 25)
    (h : c.mask.getLsbD n = false ∨ c.latchMasked = true) : (NoticeCopy.latch n c).latched.getLsbD n = true := by
  rcases h with h | h <;> simp [NoticeCopy.latch, NoticeCopy.reckon, h, setBit_getLsbD _ _ _ _ hn]

/-- A raise keeps what is latched (R191). -/
theorem NoticeCopy.latch_keeps (n m : Nat) (c : NoticeCopy) (hm : m < 25) (h : c.latched.getLsbD m = true) :
    (NoticeCopy.latch n c).latched.getLsbD m = true := by
  unfold NoticeCopy.latch
  split
  · simp only [NoticeCopy.reckon, setBit_getLsbD _ _ _ _ hm]
    split <;> simp_all
  · exact h

/-- A copy keeps its mask and its option through a raise (R191). -/
theorem NoticeCopy.latch_settings (n : Nat) (c : NoticeCopy) :
    (NoticeCopy.latch n c).mask = c.mask ∧ (NoticeCopy.latch n c).latchMasked = c.latchMasked := by
  unfold NoticeCopy.latch
  split <;> exact ⟨rfl, rfl⟩

/-- A level that is passed is the level held (R189). -/
theorem passLevel_level (n : Notice) (v : Bool) (s : State) (h : n.number < 10) : (passLevel n v s).level n = v := by
  unfold passLevel
  split
  · assumption
  · simp [State.level, setBit_getLsbD _ _ _ _ h]

/-- Passing one level keeps the others. -/
theorem passLevel_other (n m : Notice) (v : Bool) (s : State) (hm : m.number < 10) (h : m.number ≠ n.number) :
    (passLevel n v s).level m = s.level m := by
  unfold passLevel
  split
  · rfl
  · simp [State.level, setBit_getLsbD _ _ _ _ hm, h]

/-! ### Speeds and line states -/

/-- The line after commanded speed and target have taken new values (R149, R150). -/
theorem setSpeeds_line (commanded target : Nat) (s : State) :
    (setSpeeds commanded target s).line = { s.line with
      commanded := commanded, target := target
      rampTimer := if commanded = target then none
        else if s.line.commanded = s.line.target then some 5 else s.line.rampTimer } := by
  simp only [setSpeeds]
  split <;> simp <;> rfl

/-- The ramp timer runs exactly while commanded speed and target differ (R149). -/
theorem setSpeeds_timer (commanded target : Nat) (s : State)
    (h : s.line.commanded ≠ s.line.target → s.line.rampTimer.isSome) :
    (setSpeeds commanded target s).line.rampTimer.isSome ↔ commanded ≠ target := by
  rw [setSpeeds_line]
  grind

/-- The state and set speed of the line are not the ramp's to change. -/
theorem retarget_line (s : State) :
    (retarget s).line.state = s.line.state ∧ (retarget s).line.setSpeed = s.line.setSpeed ∧
    (retarget s).line.commanded = s.line.commanded ∧ (retarget s).line.atNip = s.line.atNip ∧
    (retarget s).line.target = ({ s.line with ratio := s.ratioAtNip } : LineControl).goal := by
  simp [retarget, setSpeeds_line]

/-- A line state that is entered is the line's state, with the commanded speed as it was (R148, R153). -/
theorem enterLine_line (st : LineState) (s : State) :
    (enterLine st s).line.state = st ∧ (enterLine st s).line.commanded = s.line.commanded ∧
    (enterLine st s).line.setSpeed = s.line.setSpeed := by
  unfold enterLine
  have h := retarget_line (passLevel .lineState (s.setLine { s.line with state := st }).lineUp
    (s.setLine { s.line with state := st }))
  exact ⟨h.1.trans (by simp), h.2.2.1.trans (by simp), h.2.1.trans (by simp)⟩

/-- In every state but RUN the target is 0 (R148). -/
theorem LineControl.goal_of_not_run (k : LineControl) (h : k.state ≠ .run) : k.goal = 0 := by
  simp [LineControl.goal, h]

/-! ### The hold stack -/

/-- A push puts its record on top and changes nothing of the overflow flag (R123, R127). -/
theorem pushHold_stack (owner : HoldOwner) (reason : HoldReason) (detail : FaultDetail) (s : State) :
    (pushHold owner reason detail s).hold.stack =
      { tag := .active, number := s.hold.nextNumber, owner := owner, reason := reason, odometer := s.tracker.odometer
        lineBefore := s.line.state, speedBefore := s.line.setSpeed, detail := detail, repeats := 0 } :: s.hold.stack ∧
    (pushHold owner reason detail s).hold.overflow = s.hold.overflow := ⟨rfl, rfl⟩

/-- A fault hold request ends with a record, on a stack of at most four (R122, R126). -/
theorem takeFault_stack (reason : HoldReason) (detail : FaultDetail) (s : State) (h : s.hold.stack.length ≤ 4) :
    (takeFault reason detail s).hold.stack ≠ [] ∧ (takeFault reason detail s).hold.stack.length ≤ 4 := by
  unfold takeFault
  split
  · next r rest e =>
    split
    · simp_all [State.setHold]
    · split
      · next h2 =>
        have h3 : s.hold.stack.length < 4 := h2
        rw [(pushHold_stack .line reason detail s).1]
        exact ⟨by simp, by simpa using h3⟩
      · simp_all [State.setHold]
  · next e => rw [(pushHold_stack .line reason detail s).1, e]; simp

/-- A report of a stack that is not empty leaves a line that is not in RUN alone (R140). -/
theorem haltReport_of_not_run (s : State) (h : s.line.state ≠ .run) : haltReport s = s := by
  simp [haltReport, h]

/-! ### Link requests -/

/-- A link that is not ACTIVE, or carries an operation, takes no request (R169). -/
theorem requestOp_refused (l : LinkId) (kind : OpKind) (ps : List Nat) (t : Option Target) (s : State)
    (h : ¬ ((s.link l).state = .active ∧ (s.link l).op = none)) : requestOp l kind ps t s = none := by
  simp only [requestOp, if_neg h]

/-- Tags run from 1 to 15 (R169). -/
theorem tagAfter_range (t : Nat) : 1 ≤ tagAfter t ∧ tagAfter t ≤ 15 := by
  unfold tagAfter
  split <;> omega

/-! ### The plan list -/

theorem insertPlan_perm (x : Plan) (qs : List Plan) : (insertPlan x qs).Perm (x :: qs) := by
  induction qs with
  | nil => exact List.Perm.refl _
  | cons q qs ih =>
    unfold insertPlan
    split
    · exact List.Perm.refl _
    · exact ((List.Perm.cons q ih).trans (List.Perm.swap x q qs))

@[simp] theorem insertPlan_length (x : Plan) (qs : List Plan) : (insertPlan x qs).length = qs.length + 1 := by
  simpa using (insertPlan_perm x qs).length_eq

theorem mem_insertPlan (x y : Plan) (qs : List Plan) : y ∈ insertPlan x qs ↔ y = x ∨ y ∈ qs := by
  simpa using (insertPlan_perm x qs).mem_iff (a := y)

/-! ### Marks and window crossings -/

/-- A mark with no window crossing due at its odometer value is taken alone (R66). -/
theorem markRow_alone (s : State) (h : s.windowsDue = []) : markRow s = markEvent s := by
  simp [markRow, h]

/-- Below the odometer's top nothing is left to do when the last crossing has been taken (R3). -/
theorem endAdvance_below (s : State) (h : s.tracker.odometer ≠ Config.odometerTop) : endAdvance s = s := by
  simp [endAdvance, h]

/-- A mark with one window crossing due at its odometer value is taken after it or before it (R66), and the advance ends then (R3). -/
theorem markRow_either (s : State) (d : Due) (h : s.windowsDue = [d]) :
    markRow s = endAdvance (markEvent (takeDue d (s.setFreeTick (s.freeTick + 1)))) ∨
    markRow s = endAdvance (takeDue d (markEvent (s.setFreeTick (s.freeTick + 1)))) := by
  have h2 : Config.markChoice s.freeTick % 2 = 0 ∨ Config.markChoice s.freeTick % 2 = 1 := by omega
  rcases h2 with h2 | h2 <;> simp [markRow, h, takeWindows, h2]

/-- Without a mark behind it an encoder step leaves no crossing of its advance. -/
theorem leavesWindows_alone (s : State) (h : s.markBehind = false) : s.leavesWindows = false := by
  simp [State.leavesWindows, h]

/-- Without a mark behind it an encoder step takes all that is due. -/
theorem stepDue_alone (s : State) (h : s.markBehind = false) : s.stepDue = s.due := by
  simp [State.stepDue, h]

/-! ### Answers at a port -/

/-- An accepted command replaces the port's result record and raises nothing (R182). -/
theorem answer_accepted (p : PortId) (code : Byte) (a : Answer) (s : State) (h : a.outcome = .ok) :
    answer p code a s = replaceResult p code a s := by
  simp [answer, h]

/-- A refused command also raises REFUSED (R182). -/
theorem answer_refused (p : PortId) (code : Byte) (a : Answer) (s : State) (h : a.outcome ≠ .ok) :
    answer p code a s = raiseNotice .refused (replaceResult p code a s) := by
  simp [answer, h]

/-- The checks of R179 pass at a port the command is sent on, outside the busy period and in a line state of its row. -/
theorem portCheck_passes (p : PortId) (r : CommandRow) (s : State) (hb : s.busy = none) (hp : r.permits p = true)
    (hl : r.lines.accepts s.line.state = true) : portCheck p r s = none := by
  simp [portCheck, hb, hp, hl]

/-- A refusal by the checks of R179 answers BUSY, ROLE or STATE, with value 0 and no slot. -/
theorem portCheck_answers (p : PortId) (r : CommandRow) (s : State) (a : Answer) (h : portCheck p r s = some a) :
    a.value = 0 ∧ a.slot = none ∧ (a.outcome = .busy ∨ a.outcome = .role ∨ a.outcome = .state) := by
  unfold portCheck at h
  split at h
  · cases h; exact ⟨rfl, rfl, Or.inl rfl⟩
  · split at h
    · cases h; exact ⟨rfl, rfl, Or.inr (Or.inl rfl)⟩
    · split at h
      · cases h; exact ⟨rfl, rfl, Or.inr (Or.inr rfl)⟩
      · cases h

@[simp] theorem sendNothing_portCheck (p q : PortId) (r : CommandRow) (s : State) :
    portCheck q r (sendNothing p s) = portCheck q r s := by
  simp [portCheck]

/-- A write command that passes the checks of R179, at a port that listens, does what its body does and is answered. -/
theorem writeRow_taken (p : PortId) (r : CommandRow) (body : WriteBody) (s : State)
    (ht : (s.port p).transaction = .inactive ∨ (s.port p).transaction = .receiving) (hc : portCheck p r s = none) :
    writeRow p r body s =
      closeTransaction p (answer p r.code (body (sendNothing p s)).2 (body (sendNothing p s)).1) := by
  rcases ht with h | h <;> simp [writeRow, writeCommand, h, takeWrite, hc]

/-- A write command that fails them is answered and does nothing else. -/
theorem writeRow_refused (p : PortId) (r : CommandRow) (body : WriteBody) (s : State) (a : Answer)
    (ht : (s.port p).transaction = .inactive ∨ (s.port p).transaction = .receiving) (hc : portCheck p r s = some a) :
    writeRow p r body s = closeTransaction p (answer p r.code a (sendNothing p s)) := by
  rcases ht with h | h <;> simp [writeRow, writeCommand, h, takeWrite, hc]

/-- A read command at a port with select inactive is its whole transaction (R178). -/
theorem readRow_whole (p : PortId) (r : CommandRow) (params : Bytes) (body : ReadBody) (s : State)
    (ht : (s.port p).transaction = .inactive) :
    readRow p r params body s =
      closeTransaction p (endRead p (takeRead p r body s).2 (takeRead p r body s).1) := by
  simp [readRow, readCommand, ht]

end Sys2Proof.Machine
end

