-- ==== Sys2Proof/Tests/Slice0.lean ====
section
/-! SUPPORT. Tests: what the well-formedness check refuses, a few commands run on small states, and for each obligation with hypotheses a state and operands that meet them. -/

set_option maxRecDepth 8000

namespace Sys2Proof.Tests
open Sys2Proof Sys2Proof.Machine

/-! ### Small states -/

/-- Panel 7 on slot 0, nominal head 1000, 500 long, plan 3. -/
def panel : MapEntry :=
  { slot := 0, panel := 7, head := 1000, length := 500, cls := .film, policy := .required, plan := 3, tailBefore := 0
    phase := .queued, tailCleared := false, regResult := none, offset := 0, spliceGap := false, scrap := none
    cutsMade := 0, cutsPending := 0, window := some { expected := 3500, halfWidth := 40, status := .notOpen }
    nip := .ahead, slitter := .ahead }

def name : Target := { slot := 0, panel := 7 }

def trim : Plan := { number := 3, state := .closed, ratio := 80, slits := [], cuts := [0, 500], refs := 1 }

/-- The reset state with one entry in the map and its plan in the store. -/
def holding (e : MapEntry) : State :=
  { State.reset with
    map := { PanelMap.reset with entries := [e], lastTail := 1500, lastClass := .film }
    plans := { PlanStore.reset with plans := [trim] } }

/-- The panel with its window resolved, as it stands past the mark sensor. -/
def past : MapEntry :=
  { panel with phase := .onWeb, window := some { expected := 3500, halfWidth := 40, status := .resolved } }

def atValue (n : Nat) (s : State) : State := { s with tracker := { s.tracker with odometer := n } }

/-- The web arrived at the next value with nothing on the SYNC output, and the free values' counter moved once. -/
def arrived (s : State) : State := { s.arriving s.tracker.syncPulse with freeTick := s.freeTick + 1 }

def lineIn (st : LineState) (s : State) : State := { s with line := { s.line with state := st } }

def linkIn (l : LinkId) (k : Link) (s : State) : State := s.setLink l k

/-- A link up with nothing in flight. -/
def up : Link := { Link.reset with state := .active, goGiven := true }

/-- A link up with an operation of tag 1 in flight. -/
def carrying (kind : OpKind) : Link :=
  { up with op := some { kind := kind, tag := 1, params := [0, 0, 0, 0, 0, 0], target := some name, remaining := 150 }
            previous := some (.engaged, 1) }

/-- A cut of panel 7. -/
def cutAt (n : Nat) : CutEntry := { position := n, owner := name, step := .offset 1, kind := .cut }

/-- A hold record of the PRINT port. -/
def record (number : Nat) (tag : HoldTag) : HoldRecord :=
  { tag := tag, number := number, owner := .port .print, reason := .operator, odometer := 0, lineBefore := .run
    speedBefore := 0, detail := noDetail, repeats := 0 }

def stacked (rs : List HoldRecord) (s : State) : State := { s with hold := { s.hold with stack := rs, nextNumber := 9 } }

/-- A film that runs under a closed nip. -/
def filmed (n : Nat) (s : State) : State := { s with lam := { s.lam with nip := .closed, reelLength := 30000, remaining := n } }

/-- The next state of a command, the state itself where it stops. -/
def ran (c : Instr) (s : State) : State :=
  match exec c s with
  | .next t => t
  | _ => s

/-- The outcome, value and slot a command leaves in its port's result record. -/
def answered (c : Instr) (p : PortId) (s : State) : PortOutcome × Nat × Option Nat :=
  let r := ((ran c s).port p).result
  (r.outcome, r.value.toNat, r.slot)

/-- Frames of a station: an indication code, a tag, no fault report. -/
def frame (code tag : Nat) : Bytes := [BitVec.ofNat 8 code, BitVec.ofNat 8 tag, 0, 0, 0xFF, BitVec.ofNat 8 (0xFF - code - tag)]
def ready : Bytes := [1, 0, 0, 0, 0xFF, 0xFE]
def engaged (tag : Nat) : Bytes := frame 2 tag
def parked : Bytes := frame 5 0
def broken : Bytes := [2, 0, 0, 0, 0, 0]

/-! ### The well-formedness check -/

theorem test_planOpen_with_too_few_slits_is_ill_formed :
    Instr.WellFormed (.planOpen .plan 1 50 2 [100]) = false := by decide
theorem test_planOpen_with_too_many_slits_is_ill_formed :
    Instr.WellFormed (.planOpen .plan 1 50 9 [1, 2, 3, 4, 5, 6]) = false := by decide
theorem test_planAppend_with_too_few_offsets_is_ill_formed :
    Instr.WellFormed (.planAppend .plan 1 3 [1, 2]) = false := by decide
theorem test_planAppend_with_too_many_offsets_is_ill_formed :
    Instr.WellFormed (.planAppend .plan 1 7 [1, 2, 3, 4, 5]) = false := by decide
theorem test_counted_lists_at_their_count_are_well_formed :
    Instr.WellFormed (.planOpen .plan 1 50 9 [1, 2, 3, 4, 5]) = true ∧
      Instr.WellFormed (.planAppend .plan 1 2 [1, 2]) = true ∧ Instr.WellFormed .mark = true := by decide

/-! ### The interface of a block -/

theorem test_no_row_has_bits : decodeTableWord 8 0 = none ∧ decodeTableWord 16 0xFFFF = none := by decide
theorem test_no_word_is_queued : State.reset.withFetchWord 8 0x52 = State.reset := by decide

/-! ### Commands on small states -/

theorem test_forward_step_advances : (ran .encoderForwardStep State.reset).tracker.odometer = 1 := by decide
theorem test_reverse_step_owes : (ran .encoderReverseStep State.reset).tracker.debt = 1 := by decide
theorem test_announce_answers_head_and_slot :
    answered (.announcePanel .print 7 500 0 2 3 40) .print
      { State.reset with plans := { PlanStore.reset with plans := [trim] } } = (.ok, 40, some 0) := by decide
theorem test_announce_without_its_plan : answered (.announcePanel .print 7 500 0 2 3 40) .print State.reset =
    (.unknown, 3, none) := by decide
theorem test_announce_on_the_console_port : answered (.announcePanel .console 7 500 0 2 3 40) .console State.reset =
    (.role, 0, none) := by decide
theorem test_withdraw_frees_the_slot : (ran (.withdrawPanel .print 7) (holding panel)).map.entries = [] := by decide
theorem test_plan_open_append_close :
    ((ran (.planClose .plan 4) (ran (.planAppend .plan 4 2 [0, 200]) (ran (.planOpen .plan 4 60 1 [100])
      State.reset))).plan 4) =
      some { number := 4, state := .closed, ratio := 60, slits := [100], cuts := [0, 200], refs := 0 } := by decide
theorem test_plan_close_names_the_offset : answered (.planClose .plan 4) .plan
    (ran (.planAppend .plan 4 2 [0, 50]) (ran (.planOpen .plan 4 60 0 []) State.reset)) = (.range, 302, none) := by decide
theorem test_start_wakes_the_links : (ran (.lineStart .console) State.reset).line.state = .arming ∧
    ((ran (.lineStart .console) State.reset).link .feed).wakeTimer = some 250 := by decide
theorem test_stop_is_refused_in_stopped : answered (.lineStop .print) .print State.reset = (.role, 0, none) ∧
    answered (.lineStop .console) .console State.reset = (.state, 0, none) := by decide
theorem test_two_ready_frames_arm_a_link :
    ((ran (.stationFrame .lam ready) (ran (.stationFrame .lam ready) (ran (.lineStart .console) State.reset))).link
      .lam).state = .armed := by decide
theorem test_hold_halts_the_line : (ran (.hold .plan) (lineIn .run State.reset)).line.state = .held ∧
    answered (.hold .plan) .plan (lineIn .run State.reset) = (.ok, 1, none) := by decide
theorem test_ident_record : ((ran (.readIdent .plan) State.reset).port .plan).reply = [0, 0x4C, 0x30, 1] := by decide
theorem test_speed_set_by_its_bytes : ran (.selectRelease .console [0x32, 0x03, 0xE8] false)
    (ran (.selectAssert .console) State.reset) = ran (.speedSet .console 1000) State.reset := by decide

/-! ### The hypotheses of the obligations are met: one theorem a statement, one line a clause -/

theorem meets_of (s : State) (due : List Due) (h : s.tracker.syncMode = .off)
    (ha : s.tracker.debt = 0 ∧ s.tracker.odometer + 1 < 4294967295) (hd : (arrived s).stepDue = due) :
    Meets due s (arrived s) :=
  { advance := ha
    arrival := ⟨s.tracker.syncPulse, ⟨fun ⟨_, _, h1⟩ => by rcases h1 with h1 | h1 <;> simp_all, fun _ => rfl⟩, rfl⟩
    due := hd }

/-- Past every point but the ones a witness is about. -/
def cleared : MapEntry :=
  { past with phase := .atKnife, tailCleared := true, nip := .past, slitter := .past }

theorem test_EncoderStepsMoveTheWeb :
    (atValue 4294967294 State.reset).due = [] ∧ ((atValue 4294967294 State.reset).arriving none).due = [] ∧
    (State.reset.arriving none).due = [] ∧ ¬ (500 < 500) ∧ 499 < 500 ∧
    ((atValue 998 { holding panel with tracker := { Tracker.reset with syncMode := .head, syncLead := 1 } }).arriving
      (some 1)).due = [] := by decide

theorem test_DueItemsHaveTheirEffect :
    let s := filmed 5 (atValue 7000 (holding past))
    Due.film ∈ s.due ∧ Due.point name .nipHead ∈ s.due ∧ Due.point name .nipTail ∉ s.due ∧
      (takeDue (.point name .nipHead) (takeDue .film s)).lam.remaining = 4 ∧
      takeDue (.point name .nipTail) s = s := by decide

theorem test_a_SYNC_point_is_met :
    (atValue 998 { holding panel with tracker := { Tracker.reset with syncMode := .head, syncLead := 1 } }).SyncAt 999 :=
  ⟨panel, by simp [atValue, holding], Or.inl ⟨by decide, by decide⟩⟩

theorem test_DuePointsStandAtTheirCrossingValues :
    NamesApart (holding panel).map ∧ panel ∈ (holding panel).map.entries ∧ -100 ≤ panel.offset ∧
      (∀ w ∈ panel.window, w.halfWidth ≤ w.expected) ∧ 100 ≤ (holding panel).tracker.zones.nip ∧
      Due.point panel.target .printLine ∈ (atValue 1000 (holding panel)).due ∧
      Due.point panel.target .windowOpen ∈ (atValue 3460 (holding panel)).due ∧
      Due.point panel.target .nipHead ∈ (atValue 7000 (holding past)).due := by decide

theorem test_MarkingCrossings_print : Meets [.point name .printLine] (atValue 999 (holding panel))
    (arrived (atValue 999 (holding panel))) := meets_of _ _ rfl (by decide) (by decide)
theorem test_MarkingCrossings_knife : Meets [.point name .knifeHead]
    (atValue 10499 (holding { cleared with phase := .committed }))
    (arrived (atValue 10499 (holding { cleared with phase := .committed }))) := meets_of _ _ rfl (by decide) (by decide)
theorem test_MarkingCrossings_window : Meets [.point name .windowOpen] (atValue 3459 (holding { panel with phase := .onWeb }))
    (arrived (atValue 3459 (holding { panel with phase := .onWeb }))) := meets_of _ _ rfl (by decide) (by decide)
theorem test_MarkingCrossings_slitters : Meets [.point name .slitHead]
    (atValue 8999 (holding { cleared with slitter := .ahead }))
    (arrived (atValue 8999 (holding { cleared with slitter := .ahead }))) := meets_of _ _ rfl (by decide) (by decide)

def overtaken : State :=
  let s := atValue 8999 (holding { cleared with slitter := .ahead })
  { s with cut := { s.cut with slit := [{ owner := name, deadline := 9000, lanes := [100], issued := false }] } }
theorem test_MarkingCrossings_deadline : Meets [.point name .slitHead, .point name .deadline] overtaken (arrived overtaken) ∧
    (ran .encoderForwardStep overtaken).map.entries.map (fun e => (e.slitter, e.scrap)) = [(.inside, some .slitLate)] :=
  ⟨meets_of _ _ rfl (by decide) (by decide), by decide⟩
theorem test_MarkingCrossings_slitters_tail : Meets [.point name .slitTail]
    (atValue 9499 (holding { cleared with slitter := .inside }))
    (arrived (atValue 9499 (holding { cleared with slitter := .inside }))) := meets_of _ _ rfl (by decide) (by decide)

def atTail (pending : Nat) : MapEntry := { cleared with tailCleared := false, cutsPending := pending }
theorem test_KnifeTailRetiresTheEntry :
    NamesApart (holding (atTail 0)).map ∧ (holding (atTail 0)).entry name = some (atTail 0) ∧
      (holding (atTail 1)).entry name = some (atTail 1) ∧ (holding (atTail 0)).lam.request ≠ .placed name := by decide
theorem test_KnifeTailRetiresTheEntry_last : Meets [.point name .knifeTail] (atValue 10999 (holding (atTail 0)))
    (arrived (atValue 10999 (holding (atTail 0)))) := meets_of _ _ rfl (by decide) (by decide)
theorem test_KnifeTailRetiresTheEntry_waits : Meets [.point name .knifeTail] (atValue 10999 (holding (atTail 1)))
    (arrived (atValue 10999 (holding (atTail 1)))) := meets_of _ _ rfl (by decide) (by decide)

theorem test_KnifeTailRetiresTheEntry_takes_a_splice_back :
    let s := atValue 10999 (holding (atTail 0))
    (ran .encoderForwardStep { s with lam := { s.lam with standby := some 9000, request := .placed name } }).lam.request =
      .wanted := by decide

def committing : State := atValue 7999 (holding { past with nip := .past })
theorem test_commit_crossing : Meets [.point name .commit] committing (arrived committing) :=
  meets_of _ _ rfl (by decide) (by decide)
theorem test_CommitExpandsTheClosedPlan :
    committing.entry name = some { past with nip := .past } ∧ committing.plan 3 = some trim ∧
      (∀ o ∈ trim.cuts, o ≤ past.length) ∧ committing.cut.current = .known trim.slits ∧
      committing.cut.current ≠ .known [100] := by decide
def slitting : State :=
  { committing with
    plans := { committing.plans with plans := [{ trim with slits := [100] }] }
    cut := { committing.cut with moveFlight := some { lanes := [], owner := none } } }
theorem test_CommitExpandsTheClosedPlan_slits : Meets [.point name .commit] slitting (arrived slitting) :=
  meets_of _ _ rfl (by decide) (by decide)
def building : State := { committing with plans := { committing.plans with plans := [{ trim with state := .opened }] } }
theorem test_CommitScrapsAtAnOpenPlan : Meets [.point name .commit] building (arrived building) :=
  meets_of _ _ rfl (by decide) (by decide)

def mismatched : State :=
  { committing with plans := { committing.plans with plans := [{ trim with cuts := [0, 501] }] } }
def crowded : State := { committing with cut := { committing.cut with xcut := List.replicate 23 (cutAt 20000) } }
def spoilt : State := atValue 7999 (holding { past with nip := .past, scrap := some .lamLate })
theorem test_CommitFollowsTheCases : Meets [.point name .commit] mismatched (arrived mismatched) ∧
    Meets [.point name .commit] crowded (arrived crowded) ∧ Meets [.point name .commit] spoilt (arrived spoilt) :=
  ⟨meets_of _ _ rfl (by decide) (by decide), meets_of _ _ rfl (by decide) (by decide),
    meets_of _ _ rfl (by decide) (by decide)⟩
theorem test_CommitFollowsTheCases_reasons :
    (ran .encoderForwardStep mismatched).map.entries.map (fun e => (e.scrap, e.cutsPending)) =
        [(some .planMismatch, 2)] ∧
      (ran .encoderForwardStep crowded).map.entries.map (fun e => (e.scrap, e.cutsPending)) = [(some .queueFull, 1)] ∧
      (ran .encoderForwardStep spoilt).map.entries.map (fun e => (e.scrap, e.cutsPending)) = [(some .lamLate, 2)] ∧
      (ran .encoderForwardStep spoilt).cut.xcut.map (fun c => c.kind) = [.waste, .waste] := by decide

def closing (lock : LockState) : State :=
  let s := atValue 3539 (holding { panel with
    phase := .onWeb, window := some { expected := 3500, halfWidth := 40, status := .opened } })
  { s with reg := { s.reg with lock := lock, unreadRun := 1 } }
theorem test_WindowClosesUnread (lock : LockState) : Meets [.point name .windowClose] (closing lock) (arrived (closing lock)) :=
  meets_of _ _ rfl (by cases lock <;> decide) (by cases lock <;> decide)

theorem test_NipHeadChecksTheEntry : Meets [.point name .nipHead] (atValue 6999 (holding past))
    (arrived (atValue 6999 (holding past))) := meets_of _ _ rfl (by decide) (by decide)

def arriving (film : Nat) : State := filmed film (atValue 6999 (holding past))
theorem test_HeadAtNipWithTheFilm : Meets [.film, .point name .nipHead] (arriving 2) (arrived (arriving 2)) ∧
    Meets [.film, .point name .nipHead] (arriving 1) (arrived (arriving 1)) ∧
    (ran .encoderForwardStep (arriving 1)).map.entries.map (fun e => (e.nip, e.scrap)) = [(.inside, some .filmOut)] ∧
    (ran .encoderForwardStep (arriving 2)).map.entries.map (fun e => (e.nip, e.scrap)) = [(.inside, none)] :=
  ⟨meets_of _ _ rfl (by decide) (by decide), meets_of _ _ rfl (by decide) (by decide), by decide, by decide⟩
theorem test_NipHead_misses_a_splice :
    let s := atValue 6999 (holding { past with cls := .bare, spliceGap := true })
    let t := ran .encoderForwardStep { s with lam := { s.lam with standby := some 9000, request := .placed name } }
    t.lam.request = .wanted ∧ t.map.entries.map (fun e => e.scrap) = [some .lamLate] := by decide

/-- The panel's tail about to pass the nip, with panel 8, of class NONE, next in line. -/
def leaving : State :=
  let s := linkIn .lam up (filmed 30000 (atValue 7499 (holding { past with nip := .inside })))
  { s with map := { s.map with entries := s.map.entries ++
      [{ panel with slot := 1, panel := 8, head := 1900, cls := .bare, policy := .unmarked, phase := .onWeb, window := none }] } }
theorem test_TailAtNipDecides : Meets [.film, .point name .nipTail] leaving (arrived leaving) ∧
    Meets [.point name .nipTail] { leaving with lam := { leaving.lam with nip := .opened } }
      (arrived { leaving with lam := { leaving.lam with nip := .opened } }) ∧
    (ran .encoderForwardStep leaving).lam.op =
      some { kind := .nipOpen, final := .opened, target := some { slot := 1, panel := 8 } } :=
  ⟨meets_of _ _ rfl (by decide) (by decide), meets_of _ _ rfl (by decide) (by decide), by decide⟩

def cutting (k : Link) : State :=
  let s := linkIn .xcut k (atValue 10999 (holding { cleared with tailCleared := false, cutsPending := 1, length := 700 }))
  { s with cut := { s.cut with xcut := [cutAt 11000] } }
theorem test_CutPositionIssuesOrMisses_takes : (up.state = .active ∧ up.op = none) ∧
    Meets [.point name .cutPosition] (cutting up) (arrived (cutting up)) :=
  ⟨by decide, meets_of _ _ rfl (by decide) (by decide)⟩
theorem test_CutPositionIssuesOrMisses_misses : (carrying .cut).op.isSome ∧
    Meets [.point name .cutPosition] (cutting (carrying .cut)) (arrived (cutting (carrying .cut))) :=
  ⟨by decide, meets_of _ _ rfl (by decide) (by decide)⟩

theorem test_CutPositionIssuesOrMisses_retires :
    (ran .encoderForwardStep { cutting (carrying .cut) with
      map := { (cutting up).map with entries := [{ cleared with cutsPending := 1 }] } }).map.outcomes.map
      (fun o => (o.panel, o.reason)) = [(7, some .cutMissed)] := by decide

theorem test_FilmIsCountedAndRunsOut_at_a_tail :
    let s : State := { leaving with lam := { leaving.lam with remaining := 1 } }
    Meets [.film, .point name .nipTail] s (arrived s) ∧
      (ran .encoderForwardStep s).hold.stack.map (fun r => r.reason) = [.filmOut] :=
  ⟨meets_of _ _ rfl (by decide) (by decide), by decide⟩
theorem test_FilmIsCountedAndRunsOut : NamesApart (filmed 1 State.reset).map ∧
    Meets [.film] (filmed 1 State.reset) (arrived (filmed 1 State.reset)) ∧
    Meets [.film] (filmed 2 State.reset) (arrived (filmed 2 State.reset)) :=
  ⟨by decide, meets_of _ _ rfl (by decide) (by decide), meets_of _ _ rfl (by decide) (by decide)⟩

def opened : State := atValue 3502 (closing .seeking)
theorem test_MarksAreComparedOrOrphans :
    NamesApart opened.map ∧ opened.tracker.debt = 0 ∧ (opened.openWindow.isSome) ∧
      (∀ e ∈ (holding panel).map.entries, ∀ w ∈ e.window, w.status ≠ .opened) ∧
      (ran .mark opened).map.entries.map (fun e => e.regResult) = [some (.on 2)] ∧
      (ran .mark (atValue 3503 opened)).map.entries.map (fun e => e.offset) = [3] := by decide

/-- Panel 7's window closes at 3600, where that of panel 8 opens. -/
def meeting : State :=
  let short : MapEntry := { panel with phase := .onWeb, length := 200 }
  let s := atValue 3600 (holding { short with window := some { expected := 3500, halfWidth := 100, status := .opened } })
  { s with map := { s.map with entries := s.map.entries ++
      [{ short with slot := 1, panel := 8, head := 1200
                    window := some { expected := 3700, halfWidth := 100, status := .notOpen } }] } }
theorem test_MarksMeetWindowCrossings :
    opened.windowsDue = [] ∧ (holding panel).windowsDue = [] ∧ NamesApart meeting.map ∧ OneWindowOpen meeting ∧
      meeting.tracker.debt = 0 ∧
      (atValue 3460 (holding panel)).openWindow = none ∧
      (atValue 3460 (holding panel)).windowsDue = [.point name .windowOpen] ∧
      (atValue 3540 (closing .seeking)).windowsDue = [.point name .windowClose] ∧
      meeting.openWindow.map MapEntry.target = some name ∧
      meeting.windowsDue = [.point name .windowClose, .point { slot := 1, panel := 8 } .windowOpen] := by decide
/-- Both orders of a mark and a closing window, as R66 gives them. -/
theorem test_marks_and_a_closing_window :
    let s := atValue 3540 (closing .seeking)
    (markEvent s).map.entries.map (fun e => e.regResult) = [some (.behind 40)] ∧
      (markEvent (takeWindows s.windowsDue s)).map.entries.map (fun e => e.regResult) = [some .unread] := by decide
theorem test_MapStaysInWebOrder_windows : WindowsInPlace { meeting with pending := [.mark] } ∧ ¬ WindowsInPlace meeting ∧
    WindowsInPlace (holding panel) := ⟨by decide, by decide, by decide⟩
/-- Panel 7's window closes at the odometer's top, with the registration about to be lost. -/
def lastWindow : State :=
  let s := atValue 4294967294 (closing .slipping)
  { s with
    map := { s.map with entries := s.map.entries.map (fun e =>
      { e with window := some { expected := 4294967255, halfWidth := 40, status := .opened } }) }
    pending := [.mark] }
theorem test_ODOMETER_comes_after_the_last_crossing :
    let s := ran .encoderForwardStep lastWindow
    s.LeftToAMark ∧ s.hold.stack = [] ∧ NamesApart s.map ∧ OneWindowOpen s ∧ s.tracker.debt = 0 ∧
      s.windowsDue = [.point name .windowClose] ∧
      (endAdvance (markEvent (takeWindows s.windowsDue s))).hold.stack.map (fun r => r.reason) = [.odometer, .regLost] ∧
      (ran .encoderForwardStep { lastWindow with pending := [] }).hold.stack.map (fun r => r.reason) =
        [.odometer, .regLost] := by decide
theorem test_a_step_leaves_windows_to_a_mark :
    ({ atValue 3460 (holding panel) with pending := [.mark] } : State).stepDue = [] ∧
      (atValue 3460 (holding panel)).stepDue = [.point name .windowOpen] := by decide

def ramping (st : LineState) (commanded target : Nat) : State :=
  let s := lineIn st State.reset
  { s with line := { s.line with commanded := commanded, target := target, setSpeed := 20, rampTimer := some 0 } }
theorem test_TimersOfTheLineExpire :
    (ramping .run 4 5).line.rampTimer.isSome ∧ (ran .rampTimerExpiry (ramping .run 4 5)).line.commanded = 5 ∧
      (ran .rampTimerExpiry (ramping .halting 1 0)).line.state = .held ∧
      (ran .rampTimerExpiry (ramping .stopping 1 0)).line.state = .stopped ∧ State.reset.line.rampTimer = none := by decide

theorem test_FramesAreCodedAndJudged :
    decodeFrame ready = .valid .ready 0 0 ∧ decodeFrame (engaged 15) = .valid .engaged 15 0 ∧
      decodeFrame [2, 16, 0, 0, 0xFF, 0xED] = .invalid ∧ decodeFrame [6, 0, 0, 0, 0xFF, 0xF9] = .invalid ∧
      decodeFrame [1, 0, 0, 0, 0xFF] = .missing ∧ (frameOf .feed 600 up).take 4 = [3, 0, 2, 88] ∧
      (∀ o ∈ (carrying .cut).op, o.params.length = 6) := by decide

theorem test_FramePeriodServesEveryLink :
    (State.reset.link .feed).state ≠ .active ∧
      ((linkIn .lam { up with faults := 1 } State.reset).link .lam).heard = false ∧
      ((ran .framePeriod (linkIn .lam { up with faults := 1 } State.reset)).link .lam).state = .slipped := by decide

theorem test_FramesWithoutRecognition :
    decodeFrame broken = .invalid ∧ decodeFrame ready = .valid .ready 0 0 ∧ State.reset.line.state ≠ .arming ∧
      ((ran (.stationFrame .slit broken) (linkIn .slit up State.reset)).link .slit).faults = 1 ∧
      ((ran (.stationFrame .slit broken) (linkIn .slit { up with faults := 1 } State.reset)).link .slit).state = .slipped ∧
      ((State.reset.link .slit).previous ≠ some (.ready, 0)) := by decide

theorem test_FramesWithoutRecognition_waits :
    (lineIn .arming { State.reset with line := { State.reset.line with go := true } }).Waits .slit ∧
      State.reset.Waits .slit := ⟨fun _ => Or.inl rfl, fun h => absurd h (by decide)⟩

def seen (st : LinkState) (code : Indication) (line : LineState) : State :=
  let s := linkIn .lam { up with state := st, previous := some (code, 0) } (lineIn line State.reset)
  { s with notices := { s.notices with levels := setBit s.notices.levels 7 (st == .active) } }
theorem test_RecognitionsMoveTheLink :
    (seen .waking .ready .run).level (.linkUp .lam) = false ∧ (seen .active .ready .run).level (.linkUp .lam) = true ∧
      ((ran (.stationFrame .lam ready) (seen .down .ready .run)).link .lam).lastSeen = some (.ready, 0) ∧
      ((ran (.stationFrame .lam ready) (seen .waking .ready .stopping)).link .lam).armTimer = none ∧
      ((ran (.stationFrame .lam ready) (seen .waking .ready .run)).link .lam).armTimer = some 250 ∧
      ((ran (.stationFrame .lam (engaged 0)) (seen .armed .engaged .run)).link .lam).state = .active ∧
      ((ran (.stationFrame .lam ready) (seen .active .ready .run)).link .lam).state = .slipped ∧
      ((ran (.stationFrame .lam parked) (seen .parking .parked .run)).link .lam).state = .down := by decide

def lastOfFour : State := linkIn .feed up (linkIn .slit up (linkIn .xcut up (seen .armed .engaged .arming)))
theorem test_RecognitionsMoveTheLink_last : (ran (.stationFrame .lam (engaged 0)) lastOfFour).line.state = .run ∧
    lastOfFour.hold.stack = [] := by decide

/-- The LAM link's state and the line's after the second frame of an indication. -/
def after (st : LinkState) (code : Indication) (line : LineState) (f : State → State) : LinkState × LineState :=
  let t := ran (.stationFrame .lam (frame code.code 0)) (f (seen st code line))
  ((t.link .lam).state, t.line.state)
def going (s : State) : State := { s with line := { s.line with go := true } }
def others (k : Link) (s : State) : State := linkIn .feed k (linkIn .slit k (linkIn .xcut k s))
theorem test_RecognitionsOfALinkNotUp_waking :
    after .waking .parked .run id = (.waking, .run) ∧ after .waking .ready .stopped id = (.parking, .stopped) ∧
      after .waking .ready .arming going = (.armed, .arming) ∧ after .waking .ready .arming (others up) = (.armed, .arming) ∧
      after .waking .ready .arming id = (.armed, .arming) ∧ after .waking .fault .held id = (.down, .held) ∧
      after .waking .fault .arming id = (.down, .stopped) := by decide
theorem test_RecognitionsOfALinkNotUp_armed :
    after .armed .busy .run id = (.armed, .run) ∧ after .armed .off .run id = (.parking, .run) ∧
      after .armed .parked .arming id = (.parking, .stopped) ∧ after .armed .engaged .stopped id = (.parking, .stopped) ∧
      after .armed .engaged .arming going = (.active, .arming) ∧ after .armed .engaged .arming (others up) = (.active, .run) ∧
      (seen .armed .engaged .arming).hold.stack = [] := by decide
theorem test_RecognitionsOfALinkNotUp_parking :
    after .parking .ready .run id = (.parking, .run) ∧ after .parking .parked .arming id = (.down, .arming) ∧
      after .parking .parked .arming (fun s => { s with line := { s.line with owed := s.line.owed.set .lam .wake } }) =
        (.waking, .arming) := by decide
theorem test_RecognitionsOfALinkUp :
    after .active .busy .run id = (.active, .run) ∧ after .active .engaged .run id = (.active, .run) ∧
      after .active .off .run id = (.slipped, .run) ∧ after .slipped .parked .run id = (.slipped, .run) ∧
      after .slipped .busy .stopping id = (.active, .stopping) ∧ after .slipped .engaged .arming going = (.active, .arming) ∧
      after .slipped .engaged .arming (others up) = (.active, .run) ∧ after .slipped .engaged .stopped id = (.parking, .stopped) ∧
      after .slipped .busy .stopped (linkIn .lam { carrying .splice with state := .slipped, previous := some (.busy, 0) }) =
        (.active, .stopped) := by decide
theorem test_RecognitionsOfALinkUp_before_the_go :
    after .slipped .busy .arming id = (.active, .arming) ∧
      (seen .slipped .busy .arming).line.go = false ∧ ((seen .slipped .busy .arming).link .feed).state = .down := by decide
theorem test_ArmsOn : (seen .slipped .busy .arming).ArmsOn .lam ∧ (going (seen .slipped .busy .arming)).ArmsOn .lam :=
  ⟨⟨by decide, .feed, by decide, by decide, by decide, by decide⟩, ⟨by decide, .feed, by decide, by decide⟩⟩
theorem test_RecognitionsOfALinkUp_fault :
    after .active .fault .run id = (.parking, .held) ∧ after .slipped .fault .arming id = (.parking, .stopped) := by decide

def cutMade : State :=
  let s := linkIn .xcut (carrying .cut) (holding { cleared with tailCleared := false, cutsPending := 1 })
  { s with cut := { s.cut with cutFlight := some (cutAt 10500) } }
def moveMade : State :=
  let s := linkIn .slit (carrying .move) (holding past)
  { s with cut := { s.cut with
      moveFlight := some { lanes := [100], owner := some name }
      slit := [{ owner := name, deadline := 9000, lanes := [100], issued := true }] } }
theorem test_EngagedWithTheTagCompletesTheOperation :
    decodeFrame (engaged 1) = .valid .engaged 1 0 ∧
      (ran (.stationFrame .xcut (engaged 1)) cutMade).map.entries.map (fun e => e.cutsMade) = [1] ∧
      (ran (.stationFrame .slit (engaged 1)) moveMade).cut.current = .known [100] := by decide

def spliced (st : LinkState) : State :=
  let s := linkIn .lam { carrying .splice with state := st } (lineIn .run (filmed 100 (holding { past with spliceGap := true })))
  { s with lam := { s.lam with
      op := some { kind := .splice, final := .closed, target := some name }, standby := some 9000, request := .placed name } }
theorem test_EngagedWithTheTag_splices :
    (ran (.stationFrame .lam (engaged 1)) (spliced .active)).lam.reelLength = 9000 ∧
      (ran (.stationFrame .lam (engaged 1)) (spliced .slipped)).lam.request = .idle ∧
      ((ran (.stationFrame .lam (engaged 1)) (spliced .slipped)).link .lam).state = .active := by decide
theorem test_EngagedWithTheTag_ends_the_arming :
    (ran (.stationFrame .lam (engaged 1)) (others up (lineIn .arming (spliced .slipped)))).line.state = .run ∧
      (ran (.stationFrame .lam (engaged 1)) (going (lineIn .arming (spliced .slipped)))).line.state = .arming ∧
      ((ran (.stationFrame .lam (engaged 1)) (lineIn .arming (spliced .slipped))).link .lam).op = none := by decide
theorem test_EngagedWithTheTag_retires :
    (ran (.stationFrame .xcut (engaged 1)) { cutMade with map := { cutMade.map with
      entries := cutMade.map.entries.map (fun e => { e with tailCleared := true }) } }).map.entries = [] := by decide

def timed (k : Link) : State := linkIn .slit k State.reset
theorem test_WakeArmAndParkTimersExpire :
    (timed { up with state := .waking, wakeTimer := some 0 }).level (.linkUp .slit) = false ∧
      ((ran (.wakeTimerExpiry .slit) (timed { up with state := .waking, wakeTimer := some 0 })).link .slit).state = .down ∧
      ((ran (.armTimerExpiry .slit) (timed { up with state := .armed, armTimer := some 0 })).link .slit).state = .parking ∧
      ((ran (.parkTimerExpiry .slit) (timed { up with state := .parking, parkTimer := some 0 })).link .slit).state =
        .unacked := by decide

theorem test_WakeFailureFailsTheStart :
    let s := linkIn .lam { up with state := .armed } (lineIn .arming (timed { up with state := .waking, wakeTimer := some 0 }))
    (ran (.wakeTimerExpiry .slit) s).line.state = .stopped ∧
      ((ran (.wakeTimerExpiry .slit) s).link .lam).state = .parking := by decide

theorem test_ExpiriesFailTheStart :
    let s (k : Link) := lineIn .arming (timed k)
    (s { up with state := .waking, wakeTimer := some 0 }).level (.linkUp .slit) = false ∧
      (ran (.armTimerExpiry .slit) (s { up with state := .armed, armTimer := some 0 })).line.state = .stopped ∧
      (ran (.flywheelTimerExpiry .slit) (s { up with state := .slipped, flywheel := some 0 })).line.state = .stopped ∧
      (ran (.parkTimerExpiry .slit) (s { up with state := .parking, parkTimer := some 0 })).line.state = .stopped := by decide

theorem test_LinkLossAndOperationTimeoutFail_effects :
    (ran (.operationTimeout .xcut) cutMade).map.entries.map (fun e => (e.scrap, e.cutsPending, e.cutsMade)) =
        [(some .stationFail, 0, 0)] ∧
      (ran (.operationTimeout .slit) moveMade).cut.current = .unknown ∧
      (ran (.operationTimeout .slit) moveMade).map.entries.map (fun e => e.scrap) = [some .stationFail] ∧
      (ran (.operationTimeout .lam) (spliced .active)).lam.request ≠ .placed name := by decide

theorem test_LinkLossAndOperationTimeoutFail :
    let k := { carrying .cut with state := .slipped, flywheel := some 0 }
    let s := { linkIn .xcut k cutMade with line := (lineIn .run State.reset).line }
    ((ran (.flywheelTimerExpiry .xcut) s).link .xcut).state = .parking ∧
      (ran (.flywheelTimerExpiry .xcut) s).hold.stack.map (fun r => r.reason) = [.linkLost] ∧
      (ran (.operationTimeout .xcut) s).hold.stack.map (fun r => r.reason) = [.stationTimeout] := by decide

/-! Ports. -/

def stored (s : State) : State := { s with plans := { s.plans with plans := [trim] } }
def portIn (p : PortId) (x : Transaction) (s : State) : State := s.setPort p { s.port p with transaction := x }

theorem test_CommandsAreRefusedInOrder :
    let s := lineIn .run State.reset
    ({ s with busy := some 1 } : State).firstFailure .print 0x30 = some .busy ∧
      s.firstFailure .print 0x30 = some .role ∧ s.firstFailure .console 0x30 = some .state ∧
      s.firstFailure .console 0x31 = none ∧ ({ s with busy := some 1 } : State).firstFailure .print 0x52 = none ∧
      (Instr.lineStart .console).WellFormed = true ∧ (State.reset.port .console).transaction = .inactive := by decide

theorem test_ShortAndLongTransactions :
    Listening .plan State.reset ∧ answered (.planOpen .plan 1 50 9 [1, 2, 3, 4]) .plan State.reset = (.format, 11, none) ∧
      answered (.planOpen .plan 1 50 1 [1, 2]) .plan State.reset = (.ok, 1, none) ∧
      answered (.planAppend .plan 1 7 [1, 2, 3]) .plan State.reset = (.format, 8, none) ∧
      answered (.planAppend .plan 3 1 [600, 700]) .plan (holding panel) = (.state, 0, none) := by decide

theorem test_SelectBeginsAndEndsTransactions :
    commandRow 0xFF = none ∧ commandRow 0x13 = none ∧
      answered (.selectRelease .plan [0x13, 1] false) .plan (portIn .plan .receiving State.reset) = (.unknown, 0, none) ∧
      ((ran (.selectRelease .plan [] true) (portIn .plan .receiving State.reset)).port .plan).errorCount = 1 ∧
      ((ran (.selectRelease .plan [] false) (portIn .plan .ignored State.reset)).port .plan).transaction = .inactive ∧
      ((ran (.selectRelease .plan [] false)
        (portIn .plan (.readTaken (.clearLink .lam 2)) (linkIn .lam { up with errorCount := 3 } State.reset))).link
        .lam).errorCount = 2 := by decide
theorem test_SelectBeginsAndEndsTransactions_errors :
    answered (.selectRelease .plan [0x22] false) .plan (portIn .plan .receiving State.reset) = (.format, 0, none) ∧
      commandRow 0x22 = some rowPlanClose ∧
      ((ran (.selectRelease .plan [] true) (portIn .plan (.readTaken .clearPort) State.reset)).port .plan).errorCount = 1 ∧
      ((ran (.selectRelease .plan [] true) (portIn .plan (.readTaken .keep) State.reset)).port .plan).errorCount = 0 ∧
      (ran (.selectAssert .plan) (portIn .plan .ignored State.reset)) = portIn .plan .ignored State.reset := by decide
theorem test_SelectBeginsAndEndsTransactions_long :
    let s := portIn .plan .receiving (stored State.reset)
    let t := ran (.selectRelease .plan [0x23, 3, 9] true) s
    rowPlanDiscard.callsFor [3, 9] = 1 ∧ rowPlanOpen.callsFor [1, 50] = 3 ∧ rowPlanOpen.callsFor [1, 50, 9] = 13 ∧
      (t.port .plan).errorCount = 2 ∧ (t.port .plan).result.outcome = .inUse ∧
      ((ran (.selectRelease .plan [0x5D, 9] true) s).port .plan).errorCount = 0 ∧
      answered (.selectRelease .plan [0x20, 1, 50, 9, 0] false) .plan s = (.format, 4, none) := by decide
theorem test_frames_while_their_count_is_sent :
    let s := portIn .plan (.readTaken (.clearLink .lam 0)) (linkIn .lam { up with errorCount := 3 } State.reset)
    let t := ran (.stationFrame .lam broken) s
    (t.link .lam).errorCount = 3 ∧ ((ran (.selectRelease .plan [] false) t).link .lam).errorCount = 1 := by decide

theorem test_CommandsInASpentTransactionAreIgnored :
    (portIn .plan .ignored State.reset).port .plan ≠ State.reset.port .plan ∧
      ran (.planDiscard .plan 3) (portIn .plan .ignored State.reset) = State.reset ∧
      ran (.readIdent .plan) (portIn .plan (.readTaken .keep) State.reset) = portIn .plan (.readTaken .keep) State.reset := by
  decide

theorem test_WireBytesRunTheCommand :
    let s := portIn .plan .receiving State.reset
    (Instr.planOpen .plan 9 50 1 [300]).WellFormed = true ∧ (s.port .plan).assembly = [] ∧
      (Instr.planOpen .plan 9 50 1 [300]).parameters = [9, 50, 1, 1, 44] ∧ Instr.WellFormed (.readIdent .plan) = true ∧
      ran (.selectRelease .plan [0x20, 9, 50, 1, 1, 44] false) s = ran (.planOpen .plan 9 50 1 [300]) s := by decide

def firstCheck (panel length cls policy plan gap : Nat) (s : State) : Option (PortOutcome × Nat) :=
  ((announceChecks panel length cls policy plan gap s).find? (fun x => x.1)).map (fun x => x.2)
theorem test_AnnouncementsAreRefusedInOrder :
    let s := stored State.reset
    let laid := holding panel
    Ready .print s ∧ firstCheck 0 500 0 2 3 0 s = some (.range, 1) ∧ firstCheck 7 199 0 2 3 0 s = some (.range, 2) ∧
      firstCheck 7 200 2 2 3 0 s = some (.range, 3) ∧ firstCheck 7 30000 1 3 3 0 s = some (.range, 4) ∧
      firstCheck 7 500 1 2 3 10001 s = some (.range, 5) ∧
      firstCheck 7 500 1 2 3 0 (atValue 4294966796 s) = some (.range, 6) ∧
      firstCheck 7 500 1 2 3 0 laid = some (.duplicate, 0) ∧ firstCheck 8 500 1 2 4 0 laid = some (.unknown, 4) ∧
      firstCheck 8 500 0 2 3 299 laid = some (.gap, 299) ∧ firstCheck 8 500 0 2 3 300 laid = none ∧
      firstCheck 8 500 1 2 3 499 { laid with lam := { laid.lam with request := .wanted, reservation := some 500 } } =
        some (.reserved, 499) := by decide

theorem test_AnnouncementsAppendTheEntry :
    let laid := holding panel
    Ready .print laid ∧ (announceChecks 8 500 0 2 3 300 laid).all (fun x => x.1 = false) ∧ laid.lam.request ≠ .wanted ∧
      answered (.announcePanel .print 8 500 0 2 3 300) .print laid = (.ok, 1800, some 1) := by decide

theorem test_AnnouncementsAppendTheEntry_at_once :
    let s := { stored (linkIn .lam up State.reset) with tracker := { Tracker.reset with syncMode := .head, syncLead := 0 } }
    let t := ran (.announcePanel .print 7 500 1 0 3 0) (filmed 30000 { s with lam := s.lam })
    let u := ran (.announcePanel .print 7 500 0 0 3 0) { filmed 30000 s with map := { s.map with lastClass := .bare } }
    t.tracker.syncPulse = none ∧ u.tracker.syncPulse = some 1 ∧ u.map.entries.map (fun e => e.phase) = [.onWeb] ∧
      u.lam.op = some { kind := .nipOpen, final := .opened, target := some name } := by decide

theorem test_WithdrawalRemovesAQueuedEntry :
    NamesApart (holding panel).map ∧ Ready .print (holding panel) ∧ panel ∈ (holding panel).map.entries ∧
      past ∈ (holding past).map.entries ∧ answered (.withdrawPanel .print 7) .print (holding past) = (.state, 0, none) ∧
      answered (.withdrawPanel .print 8) .print (holding past) = (.notFound, 0, none) := by decide

theorem test_Withdrawal_takes_a_splice_back :
    let s := { holding panel with lam := { Laminator.reset with standby := some 9000, request := .placed name } }
    (ran (.withdrawPanel .print 7) s).lam.request = .wanted ∧ (ran (.withdrawPanel .print 7) s).lam.reservation = some 500 := by
  decide

theorem test_TakesRemoveTheOldestRecord :
    let r : ReprintRecord := { panel := 7, plan := 3, length := 500, cls := .film, reason := .operator }
    let o : OutcomeRecord := { panel := 7, plan := 3, reason := none, regResult := some (.on 2), cutsMade := 2 }
    let s := { State.reset with map := { PanelMap.reset with reprints := [r], outcomes := [o] } }
    (State.reset.busy = none ∧ Listening .print s ∧ Listening .plan s) ∧
      ((ran (.takeReprint .print) s).port .print).reply = [0, 1, 0, 7, 3, 1, 244, 1, 10] ∧
      ((ran (.takeOutcome .plan) s).port .plan).reply = [0, 1, 0, 7, 3, 0, 0, 0, 1, 0, 2, 2] ∧
      answered (.takeReprint .print) .print State.reset = (.empty, 0, none) := by decide

theorem test_PlanOpenMakesAnOpenPlan :
    Ready .plan State.reset ∧ answered (.planOpen .plan 1 29 6 [9, 9, 9, 9, 9]) .plan State.reset = (.range, 1, none) ∧
      answered (.planOpen .plan 1 30 6 [9, 9, 9, 9, 9]) .plan State.reset = (.range, 2, none) ∧
      answered (.planOpen .plan 1 100 1 [5001]) .plan State.reset = (.range, 3, none) ∧
      answered (.planOpen .plan 3 100 1 [5000]) .plan (holding panel) = (.inUse, 1, none) ∧
      answered (.planOpen .plan 3 100 1 [5000]) .plan State.reset = (.ok, 1, none) := by decide
theorem test_PlanOpen_on_a_full_store :
    answered (.planOpen .plan 30 50 0 []) .plan
      { State.reset with plans := { PlanStore.reset with plans := (List.range 24).map (fun n => { trim with number := n }) } } =
      (.full, 24, none) := by decide

def draft (slits cuts : List Nat) : State :=
  { State.reset with plans :=
      { PlanStore.reset with plans := [{ trim with state := .opened, slits := slits, cuts := cuts, refs := 0 }] } }
theorem test_PlansAreAppendedToAndDiscarded :
    ((draft [] []).plans.plans.map (fun q => q.number)).Nodup ∧
      answered (.planAppend .plan 4 1 [0]) .plan (draft [] []) = (.notFound, 0, none) ∧
      answered (.planAppend .plan 3 0 []) .plan (draft [] []) = (.range, 1, none) ∧
      answered (.planAppend .plan 3 4 [0, 0, 0, 30001]) .plan (draft [] []) = (.range, 2, none) ∧
      answered (.planAppend .plan 3 4 [0, 0, 0, 30000]) .plan (draft [] (List.range 9)) = (.full, 9, none) ∧
      answered (.planAppend .plan 3 4 [0, 0, 0, 30000]) .plan (draft [] (List.range 8)) = (.ok, 12, none) ∧
      answered (.planDiscard .plan 3) .plan (draft [] []) = (.ok, 0, none) ∧
      answered (.planDiscard .plan 3) .plan (holding panel) = (.inUse, 1, none) := by decide
theorem test_PlanCloseChecksThePlan :
    answered (.planClose .plan 3) .plan (draft [] []) = (.range, 100, none) ∧
      answered (.planClose .plan 3) .plan (draft [] [100, 100]) = (.range, 202, none) ∧
      answered (.planClose .plan 3) .plan (draft [] [0, 99]) = (.range, 302, none) ∧
      answered (.planClose .plan 3) .plan (draft [60, 60] [0, 100]) = (.range, 402, none) ∧
      answered (.planClose .plan 3) .plan (draft [60, 109] [0, 100]) = (.range, 502, none) ∧
      answered (.planClose .plan 3) .plan (draft [60, 110] [0, 100]) = (.ok, 2, none) ∧
      answered (.planClose .plan 3) .plan (holding panel) = (.state, 0, none) := by decide

theorem test_LineStartArmsTheLinks :
    answered (.lineStart .console) .console (linkIn .slit { up with state := .unacked } State.reset) =
        (.condition, 3, none) ∧
      State.reset.line.state = .stopped ∧ answered (.lineStart .console) .console State.reset = (.ok, 0, none) := by decide
theorem test_LineStopEmptiesTheStackAndStops :
    let s := linkIn .lam (carrying .nipOpen) (linkIn .feed up (ramping .held 0 0))
    s.line.state ≠ .stopped ∧ (ran (.lineStop .console) s).line.state = .stopped ∧
      ((ran (.lineStop .console) s).link .feed).state = .parking ∧
      (ran (.lineStop .console) s).line.owed.lam = .park ∧
      (ran (.lineStop .console) (ramping .run 5 9)).line.state = .stopping := by decide
theorem test_SpeedSettingsSteerTheLine :
    answered (.speedSet .console 1001) .console State.reset = (.range, 1, none) ∧
      (ran (.speedSet .console 4) (ramping .run 4 9)).line.target = 4 ∧
      (ran (.speedSet .console 0) (ramping .halting 4 0)).line.state = .held ∧
      ((ramping .halting 4 0).line.rampTimer.isSome ↔ (ramping .halting 4 0).line.commanded ≠ 0) ∧
      answered (.minSpeedSet .console 49) .console State.reset = (.range, 1, none) ∧
      answered (.minSpeedSet .console 600) .console State.reset = (.ok, 600, none) := by decide

def splicing : State :=
  { State.reset with lam := { Laminator.reset with op := some { kind := .splice, final := .closed, target := none } } }
theorem test_FilmCommandsLoadTheReels :
    answered (.filmStandby .console 0) .console State.reset = (.range, 1, none) ∧
      answered (.filmThread .console 4000001) .console State.reset = (.range, 1, none) ∧
      answered (.filmStandby .console 1) .console splicing = (.busy, 0, none) ∧
      answered (.filmThread .console 1) .console splicing = (.busy, 0, none) ∧
      (ran (.filmStandby .console 4000000) State.reset).lam.request = .wanted ∧
      (ran (.filmThread .console 20001) State.reset).level .filmLow = false := by decide
theorem test_SpliceRequestSearchesForAGap :
    let standby (s : State) : State := { s with lam := { s.lam with standby := some 9000, remaining := 30000 } }
    answered (.spliceRequest .console) .console State.reset = (.condition, 0, none) ∧
      (ran (.spliceRequest .console) (standby (holding panel))).lam.request = .placed name ∧
      (ran (.spliceRequest .console) (standby State.reset)).lam.reservation = some 500 ∧
      answered (.spliceRequest .console) .console
        { State.reset with lam := { Laminator.reset with standby := some 1, request := .wanted } } = (.ok, 0, none) := by
  decide
theorem test_LinkCommandsMoveTheLink :
    State.reset.level (.linkUp .slit) = ((State.reset.link .slit).state == .active) ∧
      answered (.linkAcknowledge .console 5) .console State.reset = (.range, 1, none) ∧
      answered (.linkTest .console 0) .console State.reset = (.range, 1, none) ∧
      ((ran (.linkAcknowledge .console 3) (timed { up with state := .unacked })).link .slit).state = .down ∧
      ((ran (.linkAcknowledge .console 3) (lineIn .held (timed { up with state := .unacked }))).link .slit).state =
        .waking ∧
      (ran (.linkTest .console 4) cutMade).cut.cutFlight = none ∧
      answered (.linkTestEnd .console 3) .console (timed { up with state := .test, testCount := 8 }) = (.ok, 8, none) := by
  decide
theorem test_LinkAcknowledge_serves_an_owed_wake :
    let s := lineIn .arming (timed { up with state := .unacked })
    let t := ran (.linkAcknowledge .console 3) { s with line := { s.line with owed := s.line.owed.set .slit .wake } }
    t.line.owed.slit = .nothing ∧ (t.link .slit).state = .waking := by decide
def run (c : Instr) : PortOutcome × Nat × Option Nat := answered c .console State.reset
theorem test_ZoneThresholdRegistrationAndGapSettings :
    run (.zoneDefine .console 199 0 0 0 0) = (.range, 1, none) ∧ run (.zoneDefine .console 200 399 0 0 0) = (.range, 2, none) ∧
      run (.zoneDefine .console 200 400 499 0 0) = (.range, 3, none) ∧
      run (.zoneDefine .console 200 400 500 699 0) = (.range, 4, none) ∧
      run (.zoneDefine .console 200 400 500 700 799) = (.range, 5, none) ∧
      run (.zoneDefine .console 200 400 500 700 30001) = (.range, 6, none) ∧
      run (.zoneDefine .console 200 400 500 700 800) = (.ok, 0, none) ∧
      run (.thresholdSet .console 48 0) = (.range, 1, none) ∧ run (.thresholdSet .console 47 48) = (.range, 2, none) := by decide
theorem test_ZoneThresholdRegistrationAndGapSettings_rest :
      run (.registrationSet .console 4 0) = (.range, 1, none) ∧ run (.registrationSet .console 5 21) = (.range, 2, none) ∧
      run (.registrationSet .console 5 5) = (.range, 3, none) ∧ run (.registrationSet .console 5 4) = (.ok, 0, none) ∧
      run (.gapSet .console 99 0 0) = (.range, 1, none) ∧ run (.gapSet .console 100 2001 0) = (.range, 2, none) ∧
      run (.gapSet .console 2000 200 39) = (.range, 3, none) ∧ run (.gapSet .console 2000 200 40) = (.ok, 0, none) := by decide
theorem test_SyncSetReplacesTheSyncPoints :
    answered (.syncSet .console 3 0) .console State.reset = (.range, 1, none) ∧
      answered (.syncSet .console 2 2001) .console State.reset = (.range, 2, none) ∧
      (ran (.syncSet .console 1 2000) State.reset).tracker.syncLead = 2000 ∧
      (ran (.syncSet .console 1 10) (atValue 990 (holding panel))).tracker.syncPulse = some 1 := by decide
theorem test_ScrapPanelClaimsThePanel :
    NamesApart cutMade.map ∧ answered (.scrapPanel .console 8) .console cutMade = (.notFound, 0, none) ∧
      answered (.scrapPanel .console 7) .console (holding { panel with scrap := some .lamLate }) = (.ok, 0, none) ∧
      answered (.scrapPanel .console 7) .console (holding panel) = (.ok, 1, none) ∧
      (ran (.scrapPanel .console 7) (cutting up)).cut.xcut.map (fun c => c.kind) = [.waste] := by decide
theorem test_ScrapPanel_hands_its_lanes_on :
    let s := holding { past with nip := .past, phase := .committed }
    let next : MapEntry := { past with slot := 1, panel := 8, head := 2000, phase := .committed }
    let t := ran (.scrapPanel .console 7) { s with
      map := { s.map with entries := s.map.entries ++ [next] }
      cut := { s.cut with slit := [{ owner := name, deadline := 9000, lanes := [100], issued := false }] } }
    t.cut.slit = [{ owner := { slot := 1, panel := 8 }, deadline := 10000, lanes := [100], issued := false }] := by decide
theorem test_LineResetClearsTheBlocks :
    Ready .console State.reset ∧ State.reset.line.state = .stopped ∧
      (ran (.lineReset .console) (atValue 9 (holding panel))).busy = some 5 := by decide
theorem test_LineResetClearsTheBlocks_reads_and_film :
    let s := State.reset.setPort .plan { Port.reset with settled := .waiting name }
    let t := ran (.lineReset .console) { s with lam := { s.lam with standby := some 9000 } }
    ((t.port .plan).result.outcome = .notFound ∧ (t.port .plan).settled = .empty) ∧ t.lam.request = .wanted ∧
      t.lam.reservation = some 500 := by decide
theorem test_HoldsArePushedAndReleased_below :
    let s := lineIn .held (stacked [record 2 .active, record 1 .active] State.reset)
    let owed := stacked [{ record 1 .active with reason := .webReverse }] { s with tracker := { s.tracker with debt := 3 } }
    answered (.release .console 1) .console owed = (.condition, 0, none) ∧
      answered (.release .print 1) .print s = (.ok, 2, none) ∧
      (ran (.release .print 1) s).hold.stack.map (fun r => r.tag) = [.active, .released] := by decide
theorem test_HoldsArePushedAndReleased :
    let two := lineIn .held (stacked [record 2 .active, record 1 .released] State.reset)
    RunsWithoutHolds two ∧ answered (.hold .plan) .plan (lineIn .held (stacked
        [record 4 .active, record 3 .active, record 2 .active, record 1 .active] State.reset)) = (.full, 4, none) ∧
      answered (.release .print 1) .print two = (.state, 1, none) ∧
      answered (.release .plan 2) .plan two = (.owner, 0, none) ∧
      answered (.release .print 3) .print two = (.notFound, 0, none) ∧
      (ran (.release .print 2) two).line.state = .run ∧
      answered (.release .print 1) .print (lineIn .run State.reset) = (.empty, 0, none) ∧
      (ran (.release .print 2) { two with line := { two.line with estop := true } }).hold.stack.map (fun r => r.reason) =
        [.estop] := by decide
theorem test_the_next_hold_number_passes_the_stack :
    (ran (.hold .plan) (lineIn .held { stacked [record 1 .active] State.reset with
      hold := { stack := [record 1 .active], nextNumber := 255, overflow := false } })).hold.nextNumber = 2 := by decide
theorem test_ReadsShowTheState :
    let view : EntryView := { entry := panel, gap := 1000 }
    Listening .plan State.reset ∧ (holding panel).chosen 0 7 = some view ∧ (holding panel).chosen 1 0 = some view ∧
      (holding panel).chosen 2 0 = none ∧ (holding panel).chosen 0 0 = none ∧
      ((ran (.readMapEntry .plan 0 7) (holding panel)).port .plan).reply =
        [0, 1, 0, 0, 7, 0, 0, 3, 0xE8, 1, 0xF4, 1, 2, 3, 0, 0, 0, 0, 0, 0, 0, 0, 0, 0, 0, 0, 0, 3, 0xE8] := by decide
theorem test_ReadsThatChangeTheirPort :
    let view : EntryView := { entry := panel, gap := 1000 }
    let settled (x : SettledRead) : State := State.reset.setPort .plan { Port.reset with settled := x }
    ((ran (.readMapEntrySettled .plan 0 7) (settled (.ready view))).port .plan).settled = .empty ∧
      answered (.readMapEntrySettled .plan 0 7) .plan (settled (.waiting name)) = (.pending, 0, none) ∧
      ((ran (.readMapEntrySettled .plan 0 7) opened).port .plan).settled = .waiting name ∧
      ((ran (.readErrorCount .plan 2) (linkIn .lam { up with errorCount := 4 } State.reset)).port .plan).reply =
        [0, 4, 0] := by decide
theorem test_ReadsThatChangeTheirPort_rest :
    let s := State.reset.setPort .plan { Port.reset with errorCount := 5, overflow := true }
    let own := ran (.readErrorCount .plan 0) s
    ((own.port .plan).reply = [0, 5, 1] ∧ (own.port .plan).errorCount = 0 ∧ (own.port .plan).overflow = false) ∧
      ((ran (.readErrorCount .plan 5) s).port .plan).reply = [0, 0, 0] ∧
      ((ran (.readErrorCount .plan 5) s).port .plan).errorCount = 5 ∧
      ((ran (.readErrorCount .plan 0) (s.setPort .plan { s.port .plan with transaction := .receiving })).port
        .plan).transaction = .readTaken .clearPort ∧
      ((ran (.readMapEntrySettled .plan 0 7) (holding past)).port .plan).settled = .empty ∧
      (((ran (.readMapEntrySettled .plan 0 7) (holding past)).port .plan).reply.take 2 = [0, 1]) ∧
      ((ran (.readMapEntrySettled .plan 0 9) (holding past)).port .plan).reply = List.replicate 29 0 := by decide
theorem test_NoticeCommandsChangeTheOwnCopy :
    Ready .plan State.reset ∧ answered (.setNoticeMask .plan 0xFFFFFFFE) .plan State.reset = (.ok, 1, none) ∧
      answered (.setLatchMasked .plan 2) .plan State.reset = (.range, 1, none) ∧
      answered (.setLatchMasked .plan 1) .plan State.reset = (.ok, 1, none) ∧
      answered (.clearNotices .plan 0xFFFFFFFF) .plan State.reset = (.ok, 0, none) := by decide

end Sys2Proof.Tests
end

section
/-! What a write command's row does at a port that is ready, what a raise and a passed level do to the three copies, and
with these the four settings of the tracker, the map, Registration Control and Laminator Control (O44). -/

namespace Sys2Proof.Machine

/-! ### Raises and levels, in the words of the statements -/

/-- Latching a notice is the raise as the statements spell it (R191, R193). -/
theorem NoticeCopy.latch_eq_took (n : Nat) (c : NoticeCopy) : NoticeCopy.latch n c = c.took n := by
  unfold NoticeCopy.latch NoticeCopy.took
  cases c.mask.getLsbD n <;> cases c.latchMasked <;> simp [NoticeCopy.reckon, setBit]

/-- A raise inside its validity group reaches the Notice Unit alone. -/
theorem raiseNotice_eq_took (n : Notice) (s : State) (h : s.inGroup n = true) :
    raiseNotice n s = { s with notices := s.notices.took n.number } := by
  rw [raiseNotice_inside n s h]
  simp [State.setNotices, NoticeUnit.took, PerPort.map, NoticeCopy.latch_eq_took]

theorem raiseNotice_eq_withNotices (n : Notice) (s : State) :
    raiseNotice n s = { s with notices := (raiseNotice n s).notices } := by
  unfold raiseNotice
  split <;> rfl

theorem passLevel_eq_withNotices (n : Notice) (v : Bool) (s : State) :
    passLevel n v s = { s with notices := (passLevel n v s).notices } := by
  unfold passLevel
  split
  · rfl
  · rw [raiseNotice_eq_withNotices]
    rfl

theorem evalMapLevels_eq_withNotices (s : State) :
    evalMapLevels s = { s with notices := (evalMapLevels s).notices } := by
  unfold evalMapLevels
  rw [passLevel_eq_withNotices, passLevel_eq_withNotices .nearFull]

/-- A raise either changes no copy or latches its notice in all three (R191, R192). -/
theorem raiseNotice_copies (n : Notice) (s : State) :
    (raiseNotice n s).notices.copies = s.notices.copies ∨
      (raiseNotice n s).notices.copies = s.notices.copies.map (NoticeCopy.latch n.number) := by
  cases h : s.inGroup n with
  | false => exact .inl (by rw [raiseNotice_outside n s h])
  | true => exact .inr (by rw [raiseNotice_inside n s h, State.setNotices_notices])

/-- So does a passed level (R189). -/
theorem passLevel_copies (n : Notice) (v : Bool) (s : State) :
    (passLevel n v s).notices.copies = s.notices.copies ∨
      (passLevel n v s).notices.copies = s.notices.copies.map (NoticeCopy.latch n.number) := by
  unfold passLevel
  split
  · exact .inl rfl
  · exact raiseNotice_copies n _

/-- Passing a level keeps every copy's mask and option (R191). -/
theorem passLevel_settings (n : Notice) (v : Bool) (s : State) (p : PortId) :
    ((passLevel n v s).notices.copies.get p).mask = (s.notices.copies.get p).mask ∧
      ((passLevel n v s).notices.copies.get p).latchMasked = (s.notices.copies.get p).latchMasked := by
  rcases passLevel_copies n v s with h | h <;> rw [h]
  · exact ⟨rfl, rfl⟩
  · rw [PerPort.get_map]
    exact NoticeCopy.latch_settings _ _

/-- A level that changes, passed inside its validity group, latches its notice (R189, R191). -/
theorem passLevel_latched (n : Notice) (v : Bool) (s : State) (hn : n.number < 25)
    (hg : ∀ x, (s.setNotices x).inGroup n = true) (hv : v ≠ s.level n) : s.Latched (passLevel n v s) n.number := by
  intro p hp
  rw [passLevel, if_neg hv.symm, raiseNotice_inside n _ (hg _)]
  simp only [State.setNotices_notices, PerPort.get_map]
  exact NoticeCopy.latch_latched _ _ hn hp

/-- Passing a level keeps what is latched (R191). -/
theorem passLevel_keeps_latched (n : Notice) (v : Bool) (s t : State) (m : Nat) (hm : m < 25) (h : s.Latched t m) :
    s.Latched (passLevel n v t) m := by
  intro p hp
  rcases passLevel_copies n v t with hc | hc <;> rw [hc]
  · exact h p hp
  · rw [PerPort.get_map]
    exact NoticeCopy.latch_keeps _ _ _ hm (h p hp)

/-- A notice latched after a level has been passed is latched as seen from before: the masks are the same. -/
theorem State.Latched.of_passLevel {n : Notice} {v : Bool} {s t : State} {m : Nat}
    (h : (passLevel n v s).Latched t m) : s.Latched t m := by
  intro p hp
  obtain ⟨hmask, hoption⟩ := passLevel_settings n v s p
  exact h p (by rwa [hmask, hoption])

/-! ### NEAR_FULL and QUEUE_LOW evaluated (R41, R42) -/

theorem evalMapLevels_nearFull (s : State) : (evalMapLevels s).level .nearFull = s.nearFull := by
  rw [evalMapLevels, passLevel_other _ _ _ _ (by decide) (by decide), passLevel_level _ _ _ (by decide)]

theorem evalMapLevels_queueLow (s : State) : (evalMapLevels s).level .queueLow = s.queueLow := by
  rw [evalMapLevels, passLevel_level _ _ _ (by decide)]

theorem evalMapLevels_latched_nearFull (s : State) (h : s.nearFull ≠ s.level .nearFull) :
    s.Latched (evalMapLevels s) 4 :=
  passLevel_keeps_latched _ _ _ _ _ (by decide) (passLevel_latched .nearFull _ s (by decide) (fun _ => rfl) h)

theorem evalMapLevels_latched_queueLow (s : State) (h : s.queueLow ≠ s.level .queueLow) :
    s.Latched (evalMapLevels s) 5 := by
  have hpass : s.queueLow ≠ (passLevel .nearFull s.nearFull s).level .queueLow := by
    rwa [passLevel_other _ _ _ _ (by decide) (by decide)]
  exact (passLevel_latched .queueLow s.queueLow _ (by decide) (fun _ => rfl) hpass).of_passLevel

/-! ### A write command's row at a port that is ready -/

/-- The transaction closed on a new result record, over a body that left the ports alone (R176, R182). -/
theorem closeTransaction_replaceResult (p : PortId) (code : Byte) (a : Answer) (s t : State)
    (hports : t.ports = (sendNothing p s).ports) :
    closeTransaction p (replaceResult p code a t) =
      { t with ports := s.ports.set p ((s.port p).answered code a.outcome a.value a.slot) } := by
  simp only [closeTransaction, setTransaction, replaceResult, State.setPort_port_self]
  simp only [State.setPort, State.setPorts, State.port, hports, sendNothing, PerPort.get_set_self, PerPort.set_set]
  rfl

/-- A refusal closed: REFUSED is raised and nothing else has changed (R182). -/
theorem closeTransaction_answer_refused (p : PortId) (code : Byte) (o : PortOutcome) (v : Nat) (s : State) (ho : o ≠ .ok) :
    closeTransaction p (answer p code (refuse o v) (sendNothing p s)) = s.refused p code o v := by
  rw [answer_refused _ _ _ _ ho, raiseNotice_eq_took _ _ rfl]
  exact congrArg (fun t : State => { t with notices := s.notices.took 22 })
    (closeTransaction_replaceResult p code (refuse o v) s _ rfl)

/-- The STATE check of R179 in a line state the row does not accept (R180). -/
theorem portCheck_state (p : PortId) (r : CommandRow) (s : State) (hb : s.busy = none) (hp : r.permits p = true)
    (hl : r.lines.accepts s.line.state = false) : portCheck p r s = some (refuse .state 0) := by
  simp [portCheck, hb, hp, hl]

/-- A command refused by the checks of R179 changes nothing but its answer. -/
theorem writeRow_refused_by_check (p : PortId) (r : CommandRow) (body : WriteBody) (s : State) (o : PortOutcome) (v : Nat)
    (ht : Listening p s) (hc : portCheck p r s = some (refuse o v)) (ho : o ≠ .ok) :
    writeRow p r body s = s.refused p r.code o v := by
  rw [writeRow_refused p r body s _ ht hc, closeTransaction_answer_refused _ _ _ _ _ ho]

/-- A command refused by its own checks changes nothing but its answer. -/
theorem writeRow_refused_by_body (p : PortId) (r : CommandRow) (body : WriteBody) (s : State) (o : PortOutcome) (v : Nat)
    (ht : Listening p s) (hc : portCheck p r s = none)
    (hbody : body (sendNothing p s) = (sendNothing p s, refuse o v)) (ho : o ≠ .ok) :
    writeRow p r body s = s.refused p r.code o v := by
  rw [writeRow_taken p r body s ht hc, hbody, closeTransaction_answer_refused _ _ _ _ _ ho]

/-- A command that is accepted does what its body does, and is answered OK. -/
theorem writeRow_accepted (p : PortId) (r : CommandRow) (body : WriteBody) (s t : State) (v : Nat)
    (ht : Listening p s) (hc : portCheck p r s = none) (hbody : body (sendNothing p s) = (t, answerOk v))
    (hports : t.ports = (sendNothing p s).ports) :
    writeRow p r body s = { t with ports := s.ports.set p ((s.port p).answered r.code .ok v none) } := by
  rw [writeRow_taken p r body s ht hc, hbody, answer_accepted _ _ _ _ rfl]
  exact closeTransaction_replaceResult p r.code (answerOk v) s t hports

/-! ### ZONE DEFINE (R6) -/

/-- The six checks of ZONE DEFINE in order, true where one fails. -/
def zoneChecks (z : Zones) : List Bool :=
  [z.mark < 200, z.nip < z.mark + 200, z.commit < z.nip + 100, z.slit < z.commit + 200, z.knife < z.slit + 100,
    30000 < z.knife]

/-- The check ZONE DEFINE answers with is the first that fails, counted from 1. -/
theorem zoneFailure_eq_findIdx (z : Zones) :
    zoneFailure z = ((zoneChecks z).findIdx? (fun x => x)).map (· + 1) := by
  simp only [zoneFailure, zoneChecks, List.findIdx?_cons, List.findIdx?_nil, decide_eq_true_eq]
  split_ifs <;> rfl

theorem exec_zoneDefine (p : PortId) (d1 d2 d3 d4 d5 : BitVec 16) (s : State) :
    exec (.zoneDefine p d1 d2 d3 d4 d5) s = .next (writeRow p rowZoneDefine
      (zoneDefine { mark := d1.toNat, nip := d2.toNat, commit := d3.toNat, slit := d4.toNat, knife := d5.toNat }) s) :=
  rfl

theorem zoneDefine_occupied (z : Zones) (s : State) (h : s.map.entries ≠ []) : zoneDefine z s = (s, refuse .state 0) := by
  rw [zoneDefine, if_pos h]

theorem zoneDefine_out_of_range (z : Zones) (s : State) (i : Nat) (h : s.map.entries = [])
    (hi : (zoneChecks z).findIdx? (fun x => x) = some i) : zoneDefine z s = (s, refuse .range (i + 1)) := by
  simp [zoneDefine, h, zoneFailure_eq_findIdx, hi]

theorem zoneDefine_replaces (z : Zones) (s : State) (h : s.map.entries = [])
    (hnone : (zoneChecks z).findIdx? (fun x => x) = none) :
    zoneDefine z s = (s.setTracker { s.tracker with zones := z }, answerOk 0) := by
  simp [zoneDefine, h, zoneFailure_eq_findIdx, hnone]

/-- ZONE DEFINE's row takes the line states STOPPED alone (R180). -/
theorem rowZoneDefine_accepts (st : LineState) : rowZoneDefine.lines.accepts st = true ↔ st = .stopped := by
  cases st <;> decide

theorem zoneDefineChecksTheSeparations : ZoneDefineChecksTheSeparations := by
  intro d1 d2 d3 d4 d5 s ⟨hbusy, hlisten⟩ run checks fails
  let z : Zones := { mark := d1.toNat, nip := d2.toNat, commit := d3.toNat, slit := d4.toNat, knife := d5.toNat }
  have hrow := exec_zoneDefine .console d1 d2 d3 d4 d5 s
  have hpass (hstop : s.line.state = .stopped) : portCheck .console rowZoneDefine s = none :=
    portCheck_passes _ _ _ hbusy rfl ((rowZoneDefine_accepts _).mpr hstop)
  refine ⟨fun h => hrow.trans (congrArg _ ?_), fun hstop hempty => ⟨fun i hi => hrow.trans (congrArg _ ?_),
    fun hnone => hrow.trans (congrArg _ ?_)⟩⟩
  · by_cases hstop : s.line.state = .stopped
    · have hoccupied : s.map.entries ≠ [] := h.resolve_left (not_not.mpr hstop)
      exact writeRow_refused_by_body _ _ _ _ _ _ hlisten (hpass hstop) (zoneDefine_occupied z _ hoccupied) (by decide)
    · have hl := Bool.eq_false_iff.mpr (mt (rowZoneDefine_accepts _).mp hstop)
      exact writeRow_refused_by_check _ _ _ _ _ _ hlisten (portCheck_state _ _ _ hbusy rfl hl) (by decide)
  · exact writeRow_refused_by_body _ _ _ _ _ _ hlisten (hpass hstop) (zoneDefine_out_of_range z _ i hempty hi) (by decide)
  · exact writeRow_accepted _ _ _ _ _ _ hlisten (hpass hstop) (zoneDefine_replaces z _ hempty hnone) rfl

/-! ### THRESHOLD SET (R43) -/

theorem exec_thresholdSet (p : PortId) (high low : Byte) (s : State) :
    exec (.thresholdSet p high low) s = .next (writeRow p rowThresholdSet (thresholdSet high.toNat low.toNat) s) := rfl

theorem thresholdSetReplacesBothThresholds : ThresholdSetReplacesBothThresholds := by
  intro high low s ⟨hbusy, hlisten⟩ run
  have hrow := exec_thresholdSet .console high low s
  have hpass : portCheck .console rowThresholdSet s = none := portCheck_passes _ _ _ hbusy rfl rfl
  have hrefuse (v : Nat) (hbody : thresholdSet high.toNat low.toNat (sendNothing .console s) =
      (sendNothing .console s, refuse .range v)) : run = .next (s.refused .console 0x3C .range v) :=
    hrow.trans (congrArg _ (writeRow_refused_by_body _ _ _ _ _ _ hlisten hpass hbody (by decide)))
  refine ⟨fun h1 => hrefuse 1 ?_, fun h1 h1' h2 => hrefuse 2 ?_, fun h1 h1' h2 => ?_⟩
  · rw [thresholdSet, if_pos h1]
  · rw [thresholdSet, if_neg (by omega), if_pos h2]
  · let u := (sendNothing .console s).setMap { s.map with high := high.toNat, low := low.toNat }
    have hbody : thresholdSet high.toNat low.toNat (sendNothing .console s) = (evalMapLevels u, answerOk 0) := by
      rw [thresholdSet, if_neg (by omega), if_neg (by omega)]
      rfl
    have hframe := evalMapLevels_eq_withNotices u
    refine ⟨_, hrow.trans (congrArg _ (writeRow_accepted _ _ _ _ _ _ hlisten hpass hbody ?_)), ?_,
      evalMapLevels_nearFull u, evalMapLevels_queueLow u, fun hc => ?_, fun hc => ?_⟩
    · rw [hframe]
      rfl
    · rw [hframe]
      rfl
    · exact evalMapLevels_latched_nearFull u ((evalMapLevels_nearFull u) ▸ hc)
    · exact evalMapLevels_latched_queueLow u ((evalMapLevels_queueLow u) ▸ hc)

/-- A setting is inside its range exactly when the model's range check lets it pass. -/
theorem inside_iff {lo hi n : Nat} : (lo ≤ n ∧ n ≤ hi) ↔ ¬ (n < lo ∨ hi < n) := by omega

/-! ### REGISTRATION SET (R64) -/

theorem exec_registrationSet (p : PortId) (w tolerance : Byte) (s : State) :
    exec (.registrationSet p w tolerance) s =
      .next (writeRow p rowRegistrationSet (registrationSet w.toNat tolerance.toNat) s) := rfl

theorem registrationSetReplacesBothSettings : RegistrationSetReplacesBothSettings := by
  intro w tolerance s ⟨hbusy, hlisten⟩ run wGood
  have hrow := exec_registrationSet .console w tolerance s
  have hpass : portCheck .console rowRegistrationSet s = none := portCheck_passes _ _ _ hbusy rfl rfl
  have hrefuse (v : Nat) (hbody : registrationSet w.toNat tolerance.toNat (sendNothing .console s) =
      (sendNothing .console s, refuse .range v)) : run = .next (s.refused .console 0x3D .range v) :=
    hrow.trans (congrArg _ (writeRow_refused_by_body _ _ _ _ _ _ hlisten hpass hbody (by decide)))
  refine ⟨fun h1 => hrefuse 1 ?_, fun h1 h2 => hrefuse 2 ?_, fun h1 h2 h3 => hrefuse 3 ?_, fun h1 h2 h3 =>
    hrow.trans (congrArg _ (writeRow_accepted _ _ _ _
      ((sendNothing .console s).setReg { s.reg with halfWidth := w.toNat, tolerance := tolerance.toNat }) _
      hlisten hpass ?_ rfl))⟩
  · rw [registrationSet, if_pos (inside_iff.not_left.mp h1)]
  · rw [registrationSet, if_neg (inside_iff.mp h1), if_pos h2]
  · rw [registrationSet, if_neg (inside_iff.mp h1), if_neg (by omega), if_pos h3]
  · rw [registrationSet, if_neg (inside_iff.mp h1), if_neg (by omega), if_neg (by omega)]
    rfl

/-! ### GAP SET (R47, R88) -/

theorem exec_gapSet (p : PortId) (transition splice spacing : BitVec 16) (s : State) :
    exec (.gapSet p transition splice spacing) s =
      .next (writeRow p rowGapSet (gapSet transition.toNat splice.toNat spacing.toNat) s) := rfl

/-- The three settings replaced, with the length of a pending reservation, as the statement spells it. -/
theorem applyGaps_eq (transition splice spacing : Nat) (s : State) :
    applyGaps transition splice spacing s = { s with
      lam := { s.lam with
        transitionGap := transition, spliceGap := splice
        reservation := if s.lam.reservation.isSome then some splice else none }
      plans := { s.plans with spacing := spacing } } := by
  unfold applyGaps
  cases s.lam.reservation <;> rfl

theorem gapSetReplacesTheThreeSettings : GapSetReplacesTheThreeSettings := by
  intro transition splice spacing s ⟨hbusy, hlisten⟩ run good1 good2 good3
  have hrow := exec_gapSet .console transition splice spacing s
  have hpass : portCheck .console rowGapSet s = none := portCheck_passes _ _ _ hbusy rfl rfl
  have hrefuse (v : Nat) (hbody : gapSet transition.toNat splice.toNat spacing.toNat (sendNothing .console s) =
      (sendNothing .console s, refuse .range v)) : run = .next (s.refused .console 0x3E .range v) :=
    hrow.trans (congrArg _ (writeRow_refused_by_body _ _ _ _ _ _ hlisten hpass hbody (by decide)))
  refine ⟨fun h1 => hrefuse 1 ?_, fun h1 h2 => hrefuse 2 ?_, fun h1 h2 h3 => hrefuse 3 ?_, fun h1 h2 h3 => ?_⟩
  · rw [gapSet, if_pos (inside_iff.not_left.mp h1)]
  · rw [gapSet, if_neg (inside_iff.mp h1), if_pos (inside_iff.not_left.mp h2)]
  · rw [gapSet, if_neg (inside_iff.mp h1), if_neg (inside_iff.mp h2), if_pos (inside_iff.not_left.mp h3)]
  · have hbody : gapSet transition.toNat splice.toNat spacing.toNat (sendNothing .console s) =
        (applyGaps transition.toNat splice.toNat spacing.toNat (sendNothing .console s), answerOk 0) := by
      rw [gapSet, if_neg (inside_iff.mp h1), if_neg (inside_iff.mp h2), if_neg (inside_iff.mp h3)]
    rw [applyGaps_eq] at hbody
    exact hrow.trans (congrArg _ (writeRow_accepted _ _ _ _ _ _ hlisten hpass hbody rfl))

/-- Settles O44: each of the four commands goes through the row of a ready port to its body's checks in order. -/
theorem zoneThresholdRegistrationAndGapSettings : Obligations.ZoneThresholdRegistrationAndGapSettings :=
  ⟨zoneDefineChecksTheSeparations, thresholdSetReplacesBothThresholds, registrationSetReplacesBothSettings,
    gapSetReplacesTheThreeSettings⟩

end Sys2Proof.Machine
end

section
/-! The checks of ANNOUNCE PANEL (R21): what each of the model's check functions answers is the first failure in its part of
the table, and with these the whole table in order (O30). -/

namespace Sys2Proof.Machine

/-! ### The first failure in a list of checks -/

/-- The refusal by the first check of a list that fails, if one does; a check is true where it fails. -/
def firstFailure (checks : List (Bool × PortOutcome × Nat)) : Option Answer :=
  (checks.find? (fun x => x.1)).map (fun x => refuse x.2.1 x.2.2)

@[simp] theorem firstFailure_nil : firstFailure [] = none := rfl

@[simp] theorem firstFailure_cons (fails : Bool) (o : PortOutcome) (v : Nat) (rest : List (Bool × PortOutcome × Nat)) :
    firstFailure ((fails, o, v) :: rest) = if fails = true then some (refuse o v) else firstFailure rest := by
  cases fails <;> rfl

/-- The checks of a later part are made only where none of the earlier part fails. -/
theorem firstFailure_append (xs ys : List (Bool × PortOutcome × Nat)) :
    firstFailure (xs ++ ys) = (firstFailure xs).or (firstFailure ys) := by
  rw [firstFailure, List.find?_append, Option.map_or]
  rfl

/-! ### The parts of R21's table -/

/-- The six items of check 2, RANGE. -/
def rangeChecks (a : Announcement) (s : State) : List (Bool × PortOutcome × Nat) :=
  [(a.panel = 0, .range, 1), (a.length < 200 ∨ 30000 < a.length, .range, 2), (1 < a.cls, .range, 3),
    (2 < a.policy, .range, 4), (10000 < a.gap, .range, 5),
    (Config.odometerTop < s.proposedHead a.gap + a.length, .range, 6)]

/-- Checks 3 and 4, DUPLICATE and UNKNOWN. -/
def nameChecks (a : Announcement) (s : State) : List (Bool × PortOutcome × Nat) :=
  [((s.byPanel a.panel).isSome, .duplicate, ((s.byPanel a.panel).map MapEntry.slot).getD 0),
    (s.plans.plans.all (fun q => q.number ≠ a.plan), .unknown, a.plan)]

/-- Checks 5 and 6, GAP and RESERVED. -/
def gapChecks (a : Announcement) (s : State) : List (Bool × PortOutcome × Nat) :=
  [(¬ (a.cls = 1 ↔ s.map.lastClass = .film) ∧ s.distance a.gap < s.lam.transitionGap, .gap, s.distance a.gap),
    (s.lam.reservation.isSome ∧ s.distance a.gap < s.lam.spliceGap, .reserved, s.distance a.gap)]

/-- R21's table is check 1, FULL, and then the three parts. -/
theorem announceChecks_eq_parts (a : Announcement) (s : State) :
    announceChecks a.panel a.length a.cls a.policy a.plan a.gap s =
      (decide (Config.mapSize ≤ s.map.entries.length), .full, Config.mapSize) ::
        (rangeChecks a s ++ (nameChecks a s ++ gapChecks a s)) := by
  have hduplicate :
      (match s.map.entries.find? (fun e => e.panel == a.panel) with
        | some e => (true, PortOutcome.duplicate, e.slot)
        | none => (false, .duplicate, 0)) =
      ((s.byPanel a.panel).isSome, .duplicate, ((s.byPanel a.panel).map MapEntry.slot).getD 0) := by
    unfold State.byPanel
    cases s.map.entries.find? (fun e => e.panel == a.panel) <;> rfl
  exact congrArg (fun x => (decide (Config.mapSize ≤ s.map.entries.length), .full, Config.mapSize) ::
    (rangeChecks a s ++ (x :: (nameChecks a s).tail ++ gapChecks a s))) hduplicate

/-- No check of the table answers OK. -/
theorem announceChecks_outcome_ne_ok (a : Announcement) (s : State) :
    ∀ x ∈ announceChecks a.panel a.length a.cls a.policy a.plan a.gap s, x.2.1 ≠ .ok := by
  rw [announceChecks_eq_parts]
  simp [rangeChecks, nameChecks, gapChecks]

/-! ### Each check function of the model is its part of the table -/

theorem lamClassOf_isNone_iff (n : Nat) : (lamClassOf n).isNone = true ↔ 1 < n := by
  match n with
  | 0 | 1 | n + 2 => simp [lamClassOf]

theorem markPolicyOf_isNone_iff (n : Nat) : (markPolicyOf n).isNone = true ↔ 2 < n := by
  match n with
  | 0 | 1 | 2 | n + 3 => simp [markPolicyOf]

/-- A coded class differs from a class held exactly when only one of the two is FILM. -/
theorem lamClassOf_ne_iff {n : Nat} {cls : LamClass} (h : lamClassOf n = some cls) (last : LamClass) :
    cls ≠ last ↔ ¬ (n = 1 ↔ last = .film) := by
  match n with
  | 0 | 1 => cases h; cases last <;> decide
  | n + 2 => cases h

/-- No plan is found exactly when every plan has another number. -/
theorem State.plan_isNone_iff (s : State) (n : Nat) :
    (s.plan n).isNone = true ↔ s.plans.plans.all (fun q => q.number ≠ n) = true := by
  simp [State.plan]

theorem announceRange_eq_firstFailure (a : Announcement) (s : State) :
    (announceRange a s).map (refuse .range) = firstFailure (rangeChecks a s) := by
  simp only [announceRange, rangeChecks, lamClassOf_isNone_iff, markPolicyOf_isNone_iff, firstFailure_cons, firstFailure_nil,
    decide_eq_true_eq]
  split_ifs <;> rfl

theorem announceNames_eq_firstFailure (a : Announcement) (s : State) :
    announceNames a s = firstFailure (nameChecks a s) := by
  unfold announceNames nameChecks
  cases s.byPanel a.panel with
  | some e => rfl
  | none =>
    simp only [firstFailure_cons, firstFailure_nil, State.plan_isNone_iff]
    rfl

theorem announceGaps_eq_firstFailure (a : Announcement) (cls : LamClass) (s : State) (h : lamClassOf a.cls = some cls) :
    announceGaps a cls s = firstFailure (gapChecks a s) := by
  simp only [announceGaps, gapChecks, lamClassOf_ne_iff h, firstFailure_cons, firstFailure_nil, decide_eq_true_eq]

/-- An announcement that passes check 2 codes a class and a policy. -/
theorem announceRange_passes (a : Announcement) (s : State) (h : announceRange a s = none) :
    (∃ cls, lamClassOf a.cls = some cls) ∧ ∃ policy, markPolicyOf a.policy = some policy := by
  rw [announceRange] at h
  split_ifs at h with _ _ hcls hpolicy
  exact ⟨Option.isSome_iff_exists.mp (by simpa [Option.isSome_iff_ne_none] using hcls),
    Option.isSome_iff_exists.mp (by simpa [Option.isSome_iff_ne_none] using hpolicy)⟩

/-! ### The table in order -/

/-- ANNOUNCE PANEL's body answers with the first failure of R21's table and leaves the state as it is. -/
theorem announcePanel_refused (a : Announcement) (s : State) (no : Answer)
    (h : firstFailure (announceChecks a.panel a.length a.cls a.policy a.plan a.gap s) = some no) :
    announcePanel a s = (s, no) := by
  rw [announceChecks_eq_parts, firstFailure_cons, firstFailure_append, firstFailure_append,
    ← announceRange_eq_firstFailure, ← announceNames_eq_firstFailure] at h
  unfold announcePanel
  by_cases hfull : Config.mapSize ≤ s.map.entries.length
  · rw [if_pos (decide_eq_true hfull)] at h
    rw [if_pos hfull]
    cases h
    rfl
  rw [if_neg (mt of_decide_eq_true hfull)] at h
  rw [if_neg hfull]
  cases hrange : announceRange a s with
  | some item =>
    rw [hrange] at h
    cases h
    rfl
  | none =>
    obtain ⟨⟨cls, hcls⟩, policy, hpolicy⟩ := announceRange_passes a s hrange
    rw [hrange, ← announceGaps_eq_firstFailure a cls s hcls] at h
    cases hnames : announceNames a s with
    | some refusal =>
      rw [hnames] at h
      cases h
      rfl
    | none =>
      have hgaps : announceGaps a cls s = some no := by simpa [hnames] using h
      simp only [hcls, hpolicy, hgaps]

theorem exec_announcePanel (p : PortId) (panel length : BitVec 16) (cls policy plan : Byte) (gap : BitVec 16) (s : State) :
    exec (.announcePanel p panel length cls policy plan gap) s = .next (writeRow p rowAnnouncePanel
      (announcePanel { panel := panel.toNat, length := length.toNat, cls := cls.toNat, policy := policy.toNat,
                       plan := plan.toNat, gap := gap.toNat }) s) := rfl

/-- Settles O30: at a ready port the row comes to its body, whose check functions are R21's table part by part. -/
theorem announcementsAreRefusedInOrder : Obligations.AnnouncementsAreRefusedInOrder := by
  intro panel length cls policy plan gap s o value ⟨hbusy, hlisten⟩ hfirst
  let a : Announcement := { panel := panel.toNat, length := length.toNat, cls := cls.toNat, policy := policy.toNat,
                            plan := plan.toNat, gap := gap.toNat }
  have hpass : portCheck .print rowAnnouncePanel s = none := portCheck_passes _ _ _ hbusy rfl rfl
  have hrefusal : o ≠ .ok := announceChecks_outcome_ne_ok a s _ (List.mem_of_find?_eq_some hfirst)
  have hbody : announcePanel a (sendNothing .print s) = (sendNothing .print s, refuse o value) :=
    announcePanel_refused a (sendNothing .print s) (refuse o value) (congrArg (Option.map _) hfirst)
  rw [exec_announcePanel, writeRow_refused_by_body _ _ _ _ _ _ hlisten hpass hbody hrefusal]
  rfl

end Sys2Proof.Machine
end

section
/-! The commands of the PLAN port: what a lookup finds in a changed plan list, what each command's body answers, and with
these PLAN OPEN (O34), PLAN CLOSE (O35), PLAN APPEND and PLAN DISCARD (O36). -/

namespace Sys2Proof.Machine

/-! ### Lookups in a changed plan list -/

/-- Changing plan n, its number kept, changes what a lookup finds exactly where it finds plan n. -/
theorem find?_updatePlan (n m : Nat) (f : Plan → Plan) (hf : ∀ q, (q.number == n) = true → (f q).number = q.number)
    (qs : List Plan) :
    (updatePlan n f qs).find? (fun q => q.number == m) =
      (qs.find? (fun q => q.number == m)).map (fun q => if q.number == n then f q else q) := by
  have hnumber (q : Plan) : (if q.number == n then f q else q).number = q.number := by
    split
    · next h => exact hf q h
    · rfl
  rw [updatePlan, List.find?_map]
  simp only [Function.comp_def, hnumber]

/-- A plan put into a list that lacks its number is found under it. -/
theorem find?_insertPlan_self (x : Plan) (qs : List Plan) (h : qs.find? (fun q => q.number == x.number) = none) :
    (insertPlan x qs).find? (fun q => q.number == x.number) = some x := by
  induction qs with
  | nil => simp [insertPlan]
  | cons q qs ih =>
    rw [List.find?_cons] at h
    split at h
    · cases h
    · next hq =>
      rw [insertPlan]
      split
      · simp
      · rw [List.find?_cons, hq]
        exact ih h

/-- Under every other number a lookup finds what it found before. -/
theorem find?_insertPlan_of_ne (x : Plan) (m : Nat) (h : x.number ≠ m) (qs : List Plan) :
    (insertPlan x qs).find? (fun q => q.number == m) = qs.find? (fun q => q.number == m) := by
  have hx : (x.number == m) = false := beq_eq_false_iff_ne.mpr h
  induction qs with
  | nil => simp [insertPlan, hx]
  | cons q qs ih =>
    rw [insertPlan]
    split
    · rw [List.find?_cons, hx]
    · rw [List.find?_cons, List.find?_cons, ih]

/-- A plan found carries the number looked for. -/
theorem State.plan_number {s : State} {n : Nat} {q : Plan} (h : s.plan n = some q) : q.number = n := by
  simpa using List.find?_some h

/-- Where the numbers are distinct, removing the first plan of a number removes every plan of it (R45). -/
theorem eraseP_number_eq_filter (n : Nat) (qs : List Plan) (h : (qs.map (fun q => q.number)).Nodup) :
    qs.eraseP (fun q => q.number == n) = qs.filter (fun q => q.number ≠ n) := by
  induction qs with
  | nil => rfl
  | cons q qs ih =>
    obtain ⟨hq, hqs⟩ := List.nodup_cons.mp h
    by_cases hn : q.number = n
    · have hrest : ∀ x ∈ qs, x.number ≠ n := fun x hx hxn => hq (List.mem_map.mpr ⟨x, hx, hxn.trans hn.symm⟩)
      rw [List.eraseP_cons_of_pos (by simpa using hn), List.filter_cons_of_neg (by simpa using hn)]
      exact (List.filter_eq_self.mpr (by simpa using hrest)).symm
    · rw [List.eraseP_cons_of_neg (by simpa using hn), List.filter_cons_of_pos (by simpa using hn), ih hqs]

/-- The plan list changed, as the statements spell it. -/
theorem updatePlan_eq_map (n : Nat) (f : Plan → Plan) (qs : List Plan) :
    updatePlan n f qs = qs.map (fun q => if q.number = n then f q else q) := by
  simp only [updatePlan, beq_iff_eq]

/-! ### The rows of the plan commands -/

/-- A counted command with as many items as its count calls for is an ordinary write row over those items (R177). -/
theorem countedRow_exact (p : PortId) (r : CommandRow) (head most : Nat) (count : Byte) (items : List (BitVec 16))
    (body : List Nat → WriteBody) (s : State) (h : items.length = min count.toNat most) :
    countedRow p r head most count items body s = writeRow p r (body (items.map (fun x => x.toNat))) s := by
  have hcount : countedItems most count = items.length := h.symm
  have htake : takeByLength p r (head + 2 * items.length) (head + 2 * items.length) = takeWrite p r :=
    funext fun _ => funext fun _ => by simp [takeByLength]
  simp [countedRow, writeRow, hcount, htake]

theorem exec_planOpen (p : PortId) (plan ratio count : Byte) (slits : List (BitVec 16)) (s : State)
    (h : slits.length = min count.toNat 5) :
    exec (.planOpen p plan ratio count slits) s = .next (writeRow p rowPlanOpen
      (planOpen plan.toNat ratio.toNat count.toNat (slits.map (fun x => x.toNat))) s) :=
  congrArg Host.Outcome.next (countedRow_exact p rowPlanOpen 3 5 count slits _ s h)

theorem exec_planAppend (p : PortId) (plan count : Byte) (offsets : List (BitVec 16)) (s : State)
    (h : offsets.length = min count.toNat 4) :
    exec (.planAppend p plan count offsets) s = .next (writeRow p rowPlanAppend
      (planAppend plan.toNat count.toNat (offsets.map (fun x => x.toNat))) s) :=
  congrArg Host.Outcome.next (countedRow_exact p rowPlanAppend 2 4 count offsets _ s h)

theorem exec_planClose (p : PortId) (plan : Byte) (s : State) :
    exec (.planClose p plan) s = .next (writeRow p rowPlanClose (planClose plan.toNat) s) := rfl

theorem exec_planDiscard (p : PortId) (plan : Byte) (s : State) :
    exec (.planDiscard p plan) s = .next (writeRow p rowPlanDiscard (planDiscard plan.toNat) s) := rfl

section
variable {r : CommandRow} {body : WriteBody} {s : State} {run : Host.Outcome State Fault Refusal}

/-- A command of the PLAN port in every line state, refused by its body at a ready port. -/
theorem planRow_refused (hrun : run = .next (writeRow .plan r body s)) (hready : Ready .plan s)
    (hr : r.permits .plan = true ∧ r.lines = .all) {o : PortOutcome} {v : Nat}
    (hbody : body (sendNothing .plan s) = (sendNothing .plan s, refuse o v)) (ho : o ≠ .ok) :
    run = .next (s.refused .plan r.code o v) := by
  obtain ⟨hbusy, hlisten⟩ := hready
  have hpass := portCheck_passes .plan r s hbusy hr.1 (by rw [hr.2]; rfl)
  rw [hrun, writeRow_refused_by_body _ _ _ _ _ _ hlisten hpass hbody ho]

/-- Such a command accepted, where its body stores a plan list: the new list and the answer, and nothing else. -/
theorem planRow_stores (hrun : run = .next (writeRow .plan r body s)) (hready : Ready .plan s)
    (hr : r.permits .plan = true ∧ r.lines = .all) {qs : List Plan} {v : Nat}
    (hbody : body (sendNothing .plan s) = ((sendNothing .plan s).setPlans { s.plans with plans := qs }, answerOk v)) :
    run = .next { (s.accepted .plan r.code v) with plans := { s.plans with plans := qs } } := by
  obtain ⟨hbusy, hlisten⟩ := hready
  have hpass := portCheck_passes .plan r s hbusy hr.1 (by rw [hr.2]; rfl)
  rw [hrun, writeRow_accepted _ _ _ _ _ _ hlisten hpass hbody rfl]
  rfl

end

/-! ### PLAN OPEN (R49) -/

/-- The first item of PLAN OPEN's range check that fails, 0 where none does. -/
def openItem (ratio count : Nat) (slits : List Nat) : Nat :=
  if ratio < 30 ∨ 100 < ratio then 1 else if 5 < count then 2 else if ∃ x ∈ slits, 5000 < x then 3 else 0

theorem planOpenRange_eq (ratio count : Nat) (slits : List Nat) :
    planOpenRange ratio count slits =
      if openItem ratio count slits = 0 then none else some (openItem ratio count slits) := by
  simp only [planOpenRange, openItem, List.any_eq_true, decide_eq_true_eq]
  split
  · rfl
  · split
    · rfl
    · split <;> rfl

theorem planOpen_out_of_range (n ratio count : Nat) (slits : List Nat) (s : State) (h : openItem ratio count slits ≠ 0) :
    planOpen n ratio count slits s = (s, refuse .range (openItem ratio count slits)) := by
  rw [planOpen, planOpenRange_eq, if_neg h]

theorem planOpen_in_use (n ratio count : Nat) (slits : List Nat) (s : State) (q : Plan)
    (h : openItem ratio count slits = 0) (hq : s.plan n = some q) (hrefs : 0 < q.refs) :
    planOpen n ratio count slits s = (s, refuse .inUse q.refs) := by
  simp [planOpen, planOpenRange_eq, h, hq, hrefs]

theorem planOpen_full (n ratio count : Nat) (slits : List Nat) (s : State) (h : openItem ratio count slits = 0)
    (hq : s.plan n = none) (hfull : 24 ≤ s.plans.plans.length) :
    planOpen n ratio count slits s = (s, refuse .full 24) := by
  simp [planOpen, planOpenRange_eq, h, hq, Config.planSize, hfull]

/-- The store after PLAN OPEN: the new plan under its number, the others as they were, one plan more where it was absent. -/
structure Opened (n ratio : Nat) (slits : List Nat) (s : State) (qs : List Plan) : Prop where
  made : qs.find? (fun q => q.number == n) = some (newPlan n ratio slits)
  others : ∀ m, m ≠ n → qs.find? (fun q => q.number == m) = s.plan m
  length : qs.length = s.plans.plans.length + (if s.plan n = none then 1 else 0)

/-- A plan present is made anew in its place. -/
theorem Opened.of_updatePlan (n ratio : Nat) (slits : List Nat) (s : State) (q : Plan) (hq : s.plan n = some q) :
    Opened n ratio slits s (updatePlan n (fun _ => newPlan n ratio slits) s.plans.plans) := by
  have hfind (m : Nat) := find?_updatePlan n m (fun _ => newPlan n ratio slits)
    (fun q h => (beq_iff_eq.mp h).symm) s.plans.plans
  refine ⟨?_, fun m hm => ?_, by simp [hq]⟩
  · rw [hfind n]
    change (s.plan n).map _ = _
    simp [hq, State.plan_number hq]
  · rw [hfind m]
    change (s.plan m).map _ = s.plan m
    cases hplan : s.plan m with
    | none => rfl
    | some x => simp [State.plan_number hplan, hm]

/-- A plan absent is put in its place. -/
theorem Opened.of_insertPlan (n ratio : Nat) (slits : List Nat) (s : State) (hq : s.plan n = none) :
    Opened n ratio slits s (insertPlan (newPlan n ratio slits) s.plans.plans) :=
  ⟨find?_insertPlan_self (newPlan n ratio slits) _ hq, fun _ hm => find?_insertPlan_of_ne _ _ hm.symm _, by simp [hq]⟩

/-- With no check failing, PLAN OPEN stores the plan. -/
theorem planOpen_stores (n ratio count : Nat) (slits : List Nat) (s : State) (h : openItem ratio count slits = 0)
    (hfree : ∀ q, s.plan n = some q → q.refs = 0) (hroom : s.plan n = none → s.plans.plans.length < 24) :
    ∃ qs, planOpen n ratio count slits s = storePlans s qs ∧ Opened n ratio slits s qs := by
  cases hq : s.plan n with
  | some q =>
    exact ⟨_, by simp [planOpen, planOpenRange_eq, h, hq, hfree q hq], Opened.of_updatePlan n ratio slits s q hq⟩
  | none =>
    have hspace : ¬ Config.planSize ≤ s.plans.plans.length := Nat.not_le.mpr (hroom hq)
    exact ⟨_, by simp [planOpen, planOpenRange_eq, h, hq, hspace], Opened.of_insertPlan n ratio slits s hq⟩

/-- Settles O34: at a ready port the row comes to its body, whose checks are R49's in order; a command that passes them leaves a
store in which a lookup finds the new plan under its number and the old plans under theirs. -/
theorem planOpenMakesAnOpenPlan : Obligations.PlanOpenMakesAnOpenPlan := by
  intro plan ratio count slits s hready hlength slitSet run item
  have hrow := exec_planOpen .plan plan ratio count slits s hlength
  have hitem : item = openItem ratio.toNat count.toNat slitSet := rfl
  rw [hitem]
  have refused {o : PortOutcome} {v : Nat} := planRow_refused hrow hready ⟨rfl, rfl⟩ (o := o) (v := v)
  let u := sendNothing .plan s
  refine ⟨fun h => refused (planOpen_out_of_range _ _ _ _ u h) (by decide),
    fun h q hq hrefs => refused (planOpen_in_use _ _ _ _ u q h hq hrefs) (by decide),
    fun h hq hfull => refused (planOpen_full _ _ _ _ u h hq hfull) (by decide), fun h hfree hroom => ?_⟩
  obtain ⟨qs, hbody, hopened⟩ := planOpen_stores _ _ _ _ u h hfree hroom
  exact ⟨_, planRow_stores hrow hready ⟨rfl, rfl⟩ hbody, hopened.made, hopened.others, rfl, hopened.length, rfl⟩

/-! ### PLAN CLOSE (R51) -/

section
variable (ok : Nat → Nat → Prop) (x y : Nat) (rest : List Nat)

/-- An item past the second stands as it does, one place earlier, in the list without the first. -/
theorem standsRightly_cons (xs : List Nat) (j : Nat) (hj : 2 ≤ j) :
    ok ((x :: xs).getD (j + 1 - 2) 0) ((x :: xs).getD (j + 1 - 1) 0) ↔ ok (xs.getD (j - 2) 0) (xs.getD (j - 1) 0) := by
  obtain ⟨i, rfl⟩ := Nat.exists_eq_add_of_le' hj
  exact Iff.rfl

/-- Every item stands rightly exactly when the second does and all do in the list without the first. -/
theorem noneWrong_cons_cons : NoneWrong ok (x :: y :: rest) ↔ ok x y ∧ NoneWrong ok (y :: rest) := by
  refine ⟨fun h => ⟨h 2 le_rfl (by simp), fun j hj hlen => ?_⟩, fun ⟨hxy, hrest⟩ j hj hlen => ?_⟩
  · exact (standsRightly_cons ok x _ j hj).mp (h (j + 1) (by omega) (Nat.succ_le_succ hlen))
  · rcases hj.eq_or_lt with rfl | hlater
    · exact hxy
    · obtain ⟨i, rfl⟩ : ∃ i, j = i + 1 := ⟨j - 1, by omega⟩
      have hi : 2 ≤ i := Nat.le_of_lt_succ hlater
      exact (standsRightly_cons ok x _ i hi).mpr (hrest i hi (Nat.le_of_succ_le_succ hlen))

/-- The first wrong item is the second, or else the second stands rightly and it is one place earlier in the list without the
first. -/
theorem FirstWrong.cons_cons {ok : Nat → Nat → Prop} {x y : Nat} {rest : List Nat} {k : Nat}
    (h : FirstWrong ok (x :: y :: rest) k) :
    (k = 2 ∧ ¬ ok x y) ∨ (ok x y ∧ ∃ i, k = i + 1 ∧ FirstWrong ok (y :: rest) i) := by
  obtain ⟨hk, hlen, hwrong, hbefore⟩ := h
  rcases hk.eq_or_lt with rfl | hlater
  · exact .inl ⟨rfl, hwrong⟩
  · obtain ⟨i, rfl⟩ : ∃ i, k = i + 1 := ⟨k - 1, by omega⟩
    have hi : 2 ≤ i := Nat.le_of_lt_succ hlater
    exact .inr ⟨hbefore 2 le_rfl hlater, i, rfl, hi, Nat.le_of_succ_le_succ hlen,
      mt (standsRightly_cons ok x _ i hi).mpr hwrong,
      fun j hj hji => (standsRightly_cons ok x _ j hj).mp (hbefore (j + 1) (by omega) (Nat.succ_lt_succ hji))⟩

end

/-- The model's search, begun at number k, passes a list in which every item stands rightly. -/
theorem firstBad_eq_none {ok : Nat → Nat → Bool} {xs : List Nat} (h : NoneWrong (fun x y => ok x y = true) xs) (k : Nat) :
    firstBad ok k xs = none := by
  induction xs generalizing k with
  | nil => rfl
  | cons x xs ih =>
    cases xs with
    | nil => rfl
    | cons y rest =>
      obtain ⟨hxy, hrest⟩ := (noneWrong_cons_cons _ x y rest).mp h
      rw [firstBad, if_pos hxy, ih hrest]

/-- The model's search, begun at number n + 2, finds the first item that stands wrongly. -/
theorem firstBad_eq_some {ok : Nat → Nat → Bool} {xs : List Nat} {k : Nat}
    (h : FirstWrong (fun x y => ok x y = true) xs k) (n : Nat) : firstBad ok (n + 2) xs = some (n + k) := by
  induction xs generalizing k n with
  | nil =>
    obtain ⟨hk, hlen, -⟩ := h
    exact absurd (hk.trans hlen) (by simp)
  | cons x xs ih =>
    cases xs with
    | nil =>
      obtain ⟨hk, hlen, -⟩ := h
      exact absurd (hk.trans hlen) (by simp)
    | cons y rest =>
      rcases h.cons_cons with ⟨rfl, hxy⟩ | ⟨hxy, i, rfl, hrest⟩
      · rw [firstBad, if_neg hxy]
      · rw [firstBad, if_pos hxy, ih hrest (n + 1), Nat.add_right_comm, Nat.add_assoc]

theorem apart_eq_spaced (d : Nat) : (fun x y : Nat => x + d ≤ y) = fun x y => spaced d x y = true := by
  simp [spaced]

theorem firstBad_spaced_none {d : Nat} {xs : List Nat} (h : NoneWrong (fun x y => x + d ≤ y) xs) :
    firstBad (spaced d) 2 xs = none :=
  firstBad_eq_none (apart_eq_spaced d ▸ h) 2

theorem firstBad_spaced_some {d : Nat} {xs : List Nat} {k : Nat} (h : FirstWrong (fun x y => x + d ≤ y) xs k) :
    firstBad (spaced d) 2 xs = some k :=
  (firstBad_eq_some (apart_eq_spaced d ▸ h) 0).trans (congrArg some (Nat.zero_add k))

/-- With offsets in the cut list, PLAN CLOSE fails by the first of checks 2 to 5 that finds a wrong item; to ascend is to stand
at least 1 apart. -/
theorem closeFailure_of_cuts (d : Nat) (q : Plan) (h : q.cuts ≠ []) :
    closeFailure d q =
      ((firstBad (spaced 1) 2 q.cuts).map (fun k => 200 + k)).or
        (((firstBad (spaced d) 2 q.cuts).map (fun k => 300 + k)).or
          (((firstBad (spaced 1) 2 q.slits).map (fun k => 400 + k)).or
            ((firstBad (spaced 50) 2 q.slits).map (fun k => 500 + k)))) :=
  if_neg h

theorem planClose_absent (n : Nat) (s : State) (hq : s.plan n = none) : planClose n s = (s, refuse .notFound 0) := by
  rw [planClose, hq]

theorem planClose_closed (n : Nat) (s : State) (q : Plan) (hq : s.plan n = some q) (hstate : q.state = .closed) :
    planClose n s = (s, refuse .state 0) := by
  simp [planClose, hq, hstate]

theorem planClose_fails (n : Nat) (s : State) (q : Plan) (v : Nat) (hq : s.plan n = some q) (hstate : q.state = .opened)
    (h : closeFailure s.plans.spacing q = some v) : planClose n s = (s, refuse .range v) := by
  simp [planClose, hq, hstate, h]

theorem planClose_closes (n : Nat) (s : State) (q : Plan) (hq : s.plan n = some q) (hstate : q.state = .opened)
    (h : closeFailure s.plans.spacing q = none) :
    planClose n s = (s.setPlans { s.plans with
      plans := s.plans.plans.map (fun x => if x.number = n then { x with state := .closed } else x) },
      answerOk q.cuts.length) := by
  simp [planClose, hq, hstate, h, State.modifyPlan, updatePlan_eq_map]

/-- Settles O35: NOT_FOUND and STATE at the row's body, then R51's five checks, each the model's search for the first item that
stands wrongly; a plan that passes them all is CLOSED. -/
theorem planCloseChecksThePlan : Obligations.PlanCloseChecksThePlan := by
  intro plan s hready run
  have hrow := exec_planClose .plan plan s
  have refused {o : PortOutcome} {v : Nat} := planRow_refused hrow hready ⟨rfl, rfl⟩ (o := o) (v := v)
  let u := sendNothing .plan s
  refine ⟨fun hq => refused (planClose_absent _ u hq) (by decide), fun q hq => ?_⟩
  intro apart fails good2 good3 good4
  refine ⟨fun hstate => refused (planClose_closed _ u q hq hstate) (by decide), fun hstate => ?_⟩
  have hfails (v : Nat) (h : closeFailure s.plans.spacing q = some v) : fails v :=
    refused (planClose_fails _ u q v hq hstate h) (by decide)
  refine ⟨fun hempty => hfails _ (if_pos hempty), fun hcuts k h2 => hfails _ ?_, fun hcuts h2 k h3 => hfails _ ?_,
    fun hcuts h2 h3 k h4 => hfails _ ?_, fun hcuts h2 h3 h4 k h5 => hfails _ ?_, fun hcuts h2 h3 h4 h5 => ?_⟩
  · rw [closeFailure_of_cuts _ q hcuts, firstBad_spaced_some h2]
    rfl
  · rw [closeFailure_of_cuts _ q hcuts, firstBad_spaced_none h2, firstBad_spaced_some h3]
    rfl
  · rw [closeFailure_of_cuts _ q hcuts, firstBad_spaced_none h2, firstBad_spaced_none h3, firstBad_spaced_some h4]
    rfl
  · rw [closeFailure_of_cuts _ q hcuts, firstBad_spaced_none h2, firstBad_spaced_none h3, firstBad_spaced_none h4,
      firstBad_spaced_some h5]
    rfl
  · have hnone : closeFailure s.plans.spacing q = none := by
      rw [closeFailure_of_cuts _ q hcuts, firstBad_spaced_none h2, firstBad_spaced_none h3, firstBad_spaced_none h4,
        firstBad_spaced_none h5]
      rfl
    exact planRow_stores hrow hready ⟨rfl, rfl⟩ (planClose_closes _ u q hq hstate hnone)

/-! ### PLAN APPEND (R50) -/

theorem planAppend_absent (n count : Nat) (offsets : List Nat) (s : State) (hq : s.plan n = none) :
    planAppend n count offsets s = (s, refuse .notFound 0) := by
  rw [planAppend, hq]

theorem planAppend_closed (n count : Nat) (offsets : List Nat) (s : State) (q : Plan) (hq : s.plan n = some q)
    (hstate : q.state = .closed) : planAppend n count offsets s = (s, refuse .state 0) := by
  simp [planAppend, hq, hstate]

section
variable (n count : Nat) (offsets : List Nat) (s : State) (q : Plan)

theorem planAppend_count_out_of_range (hq : s.plan n = some q) (hstate : q.state = .opened) (h : count < 1 ∨ 4 < count) :
    planAppend n count offsets s = (s, refuse .range 1) := by
  rw [planAppend, hq]
  simp only [hstate, reduceCtorEq, if_false, if_pos h]

/-- With a count inside its range, the append to an OPEN plan comes to the offsets and then to the space (R50). -/
theorem planAppend_counted (hq : s.plan n = some q) (hstate : q.state = .opened) (h1 : 1 ≤ count) (h4 : count ≤ 4) :
    planAppend n count offsets s =
      if ∃ x ∈ offsets, 30000 < x then (s, refuse .range 2)
      else if 12 < q.cuts.length + offsets.length then (s, refuse .full q.cuts.length)
      else (s.setPlans { s.plans with plans := s.plans.plans.map (fun x =>
          if x.number = n then { x with cuts := x.cuts ++ offsets } else x) },
        answerOk (q.cuts.length + offsets.length)) := by
  have hcount : ¬ (count < 1 ∨ 4 < count) := by omega
  simp only [planAppend, hq, hstate, reduceCtorEq, if_false, hcount, List.any_eq_true, decide_eq_true_eq,
    Config.cutListSize, State.modifyPlan, updatePlan_eq_map]

end

theorem planAppendAddsTheOffsets : PlanAppendAddsTheOffsets := by
  intro plan count offsets s hready hlength more run
  have hrow := exec_planAppend .plan plan count offsets s hlength
  have refused {o : PortOutcome} {v : Nat} := planRow_refused hrow hready ⟨rfl, rfl⟩ (o := o) (v := v)
  let u := sendNothing .plan s
  refine ⟨fun hq => refused (planAppend_absent _ _ _ u hq) (by decide), fun q hq =>
    ⟨fun hstate => refused (planAppend_closed _ _ _ u q hq hstate) (by decide),
      fun hstate hcount => refused (planAppend_count_out_of_range _ _ _ u q hq hstate hcount) (by decide),
      fun hstate h1 h4 => ?_⟩⟩
  have hbody := planAppend_counted plan.toNat count.toNat more u q hq hstate h1 h4
  refine ⟨fun hlarge => refused (hbody.trans (if_pos hlarge)) (by decide), fun hsmall hfull => ?_,
    fun hsmall hspace => ?_⟩
  all_goals rw [if_neg (by simpa using hsmall)] at hbody
  · exact refused (hbody.trans (if_pos hfull)) (by decide)
  · exact planRow_stores hrow hready ⟨rfl, rfl⟩ (hbody.trans (if_neg (Nat.not_lt.mpr hspace)))

/-! ### PLAN DISCARD (R52) -/

theorem planDiscard_absent (n : Nat) (s : State) (hq : s.plan n = none) : planDiscard n s = (s, refuse .notFound 0) := by
  rw [planDiscard, hq]

theorem planDiscard_in_use (n : Nat) (s : State) (q : Plan) (hq : s.plan n = some q) (hrefs : 0 < q.refs) :
    planDiscard n s = (s, refuse .inUse q.refs) := by
  simp [planDiscard, hq, hrefs]

theorem planDiscard_removes (n : Nat) (s : State) (q : Plan) (hnodup : (s.plans.plans.map (fun x => x.number)).Nodup)
    (hq : s.plan n = some q) (hrefs : q.refs = 0) :
    planDiscard n s = storePlans s (s.plans.plans.filter (fun x => x.number ≠ n)) := by
  simp [planDiscard, hq, hrefs, eraseP_number_eq_filter n _ hnodup]

theorem planDiscardRemovesAnUnusedPlan : PlanDiscardRemovesAnUnusedPlan := by
  intro plan s hnodup hready run left
  have hrow := exec_planDiscard .plan plan s
  have refused {o : PortOutcome} {v : Nat} := planRow_refused hrow hready ⟨rfl, rfl⟩ (o := o) (v := v)
  let u := sendNothing .plan s
  exact ⟨fun hq => refused (planDiscard_absent _ u hq) (by decide), fun q hq =>
    ⟨fun hrefs => refused (planDiscard_in_use _ u q hq hrefs) (by decide),
      fun hrefs => planRow_stores hrow hready ⟨rfl, rfl⟩ (planDiscard_removes _ u q hnodup hq hrefs)⟩⟩

/-- Settles O36: each of the two commands goes through the row of a ready port to its body's checks in order. -/
theorem plansAreAppendedToAndDiscarded : Obligations.PlansAreAppendedToAndDiscarded :=
  ⟨planAppendAddsTheOffsets, planDiscardRemovesAnUnusedPlan⟩

end Sys2Proof.Machine
end

section
/-! Laminator Control's search and decision in the words of the statements: the model's gaps, transition decision (R92) and
splice search (R89) are the ones the statements spell out, and with these SPLICE REQUEST (O41). -/

namespace Sys2Proof.Machine

/-! ### The gaps before the entries (R32) and the gap open at the nip (R82) -/

/-- The model carries on the tail of the entry before, the statements the entry itself. -/
theorem withGaps_eq_gapsAfter (before : Option MapEntry) (es : List MapEntry) :
    (withGaps (before.map MapEntry.tail) es).map (fun p => ({ entry := p.1, gap := p.2 } : EntryView)) =
      gapsAfter before es := by
  induction es generalizing before with
  | nil => rfl
  | cons e es ih =>
    exact congrArg₂ List.cons (by cases before <;> rfl) (ih (some e))

theorem State.views_eq_gapped (s : State) : s.views = s.gapped := withGaps_eq_gapsAfter none s.map.entries

/-- The model carries on whether the entry before is clear of the nip, the statements its progress. -/
theorem gapOpenFrom_eq_gapAfter (before : Option Progress) (es : List MapEntry) :
    gapOpenFrom (decide (before = none ∨ before = some .past)) es = gapAfter before es := by
  induction es generalizing before with
  | nil => rfl
  | cons e es ih =>
    have hrest : gapOpenFrom (e.nip == .past) es = gapAfter (some e.nip) es := by
      rw [← ih (some e.nip)]
      cases e.nip <;> rfl
    rw [gapOpenFrom, gapAfter, hrest]
    simp

theorem State.gapOpen_eq_atGap (s : State) : gapOpen s.map.entries = s.atGap := gapOpenFrom_eq_gapAfter none s.map.entries

/-! ### The transition decision (R92, R93) -/

theorem LamClass.calls_eq_callsFor (c : LamClass) : c.calls = callsFor c := by
  cases c <;> rfl

/-- The parameter words of a nip operation as the statements spell them (R169). -/
theorem LamOp.params_eq (o : LamOp) :
    o.params = if o.kind = .splice then [if o.final = .closed then 1 else 0] else [] := by
  obtain ⟨kind, final, target⟩ := o
  cases final <;> rfl

theorem OpKind.timeout_eq_opTime (k : OpKind) : k.timeout = opTime k := by
  cases k <;> rfl

/-- A link that is ACTIVE with nothing in flight takes a request (R169). -/
theorem requestOp_taken (l : LinkId) (kind : OpKind) (ps : List Nat) (t : Option Target) (s : State)
    (h : (s.link l).state = .active ∧ (s.link l).op = none) :
    requestOp l kind ps t s = some (s.setLink l ((s.link l).given kind ps t)) := by
  simp only [requestOp, if_pos h, OpKind.timeout_eq_opTime]
  rfl

theorem issueNip_eq_askedNip (o : LamOp) (s : State) : issueNip o s = s.askedNip o.kind o.final o.target := by
  by_cases h : (s.link .lam).state = .active ∧ (s.link .lam).op = none
  · rw [issueNip, requestOp_taken _ _ _ _ _ h, LamOp.params_eq, State.askedNip, if_pos h]
    rfl
  · rw [issueNip, requestOp_refused _ _ _ _ _ h, State.askedNip, if_neg h]

/-- The kind of operation that brings the nip to the state a class calls for. -/
theorem nipKind_eq (c : LamClass) :
    (if c = .film then OpKind.nipClose else .nipOpen) = if callsFor c = .closed then .nipClose else .nipOpen := by
  cases c <;> rfl

theorem transitionDecision_in_flight {s : State} {o : LamOp} (h : s.lam.op = some o) : transitionDecision s = s := by
  rw [transitionDecision, h]

theorem transitionDecision_free {s : State} (h : s.lam.op = none) :
    transitionDecision s = (transitionChoice s).elim s (fun o => issueNip o s) := by
  rw [transitionDecision, h]
  cases transitionChoice s <;> rfl

theorem transitionDecision_eq_decided (s : State) : transitionDecision s = s.decided := by
  cases hop : s.lam.op with
  | some o => rw [transitionDecision_in_flight hop, State.decided, if_pos (by simp [hop])]
  | none =>
    rw [transitionDecision_free hop, State.decided, if_neg (by simp [hop])]
    simp only [transitionChoice, State.gapOpen_eq_atGap, LamClass.calls_eq_callsFor, nipKind_eq, issueNip_eq_askedNip]
    by_cases hout : s.lam.nip = .closed ∧ s.lam.remaining = 0
    · simp only [if_pos hout, Option.elim_some]
    · simp only [if_neg hout]
      cases s.atGap with
      | none => rfl
      | some x =>
        dsimp only
        split_ifs <;> rfl

/-! ### What a decision leaves as it is -/

/-- A decision asks for one operation, or does nothing (R92). -/
theorem State.decided_cases (s : State) : s.decided = s ∨ ∃ o : LamOp, s.decided = s.askedNip o.kind o.final o.target := by
  rw [← transitionDecision_eq_decided]
  cases hop : s.lam.op with
  | some o => exact .inl (transitionDecision_in_flight hop)
  | none =>
    rw [transitionDecision_free hop]
    cases transitionChoice s with
    | none => exact .inl rfl
    | some o => exact .inr ⟨o, issueNip_eq_askedNip o s⟩

/-- A decision changes the links and the operation in flight alone (R93). -/
theorem State.decided_changes (s : State) :
    ∃ links op, s.decided = { s with links := links, lam := { s.lam with op := op } } := by
  rcases s.decided_cases with h | ⟨o, h⟩ <;> rw [h]
  · exact ⟨_, _, rfl⟩
  · unfold State.askedNip
    dsimp only
    split
    · exact ⟨_, _, rfl⟩
    · exact ⟨_, _, rfl⟩

/-! ### The splice search (R89) -/

/-- The entry's gap can carry the splice (R89). -/
abbrev State.Fits (s : State) (v : EntryView) : Prop :=
  s.lam.spliceGap ≤ v.gap ∧ v.entry.nip = .ahead ∧ v.entry.spliceGap = false

/-- The entry the search chooses (R89). -/
def State.fitting (s : State) : Option EntryView := s.gapped.find? (fun v => decide (s.Fits v))

/-- The request PLACED on the entry named, its splice gap marked, a reservation removed (R89). -/
def State.placing (s : State) (t : Target) : State :=
  { s.changed t (fun e => { e with spliceGap := true }) with lam := { s.lam with request := .placed t, reservation := none } }

/-- The splice placed, with the decision at once where the entry's gap is open at the nip (R89, R92). -/
def State.splicePlaced (s : State) (t : Target) : State :=
  if (s.placing t).atGap.map MapEntry.target = some t then (s.placing t).decided else s.placing t

/-- A reservation posted, unless one is pending (R89). -/
def State.reserved (s : State) : State :=
  if s.lam.reservation ≠ none then s
  else ({ s with lam := { s.lam with reservation := some s.lam.spliceGap } } : State).noticed 15

theorem State.fitting_eq_some {s : State} {before after : List EntryView} {v : EntryView} (hs : s.gapped = before ++ v :: after)
    (hv : s.Fits v) (hbefore : ∀ u ∈ before, ¬ s.Fits u) : s.fitting = some v :=
  List.find?_eq_some_iff_append.mpr ⟨decide_eq_true hv, before, after, hs, fun u hu => by simp [hbefore u hu]⟩

theorem State.fitting_eq_none {s : State} (h : ∀ v ∈ s.gapped, ¬ s.Fits v) : s.fitting = none :=
  List.find?_eq_none.mpr fun v hv => by simp [h v hv]

theorem State.searched_of_some {s : State} {v : EntryView} (hw : s.lam.request = .wanted) (hv : s.fitting = some v) :
    s.searched = s.splicePlaced v.entry.target := by
  unfold State.fitting at hv
  rw [State.searched, if_pos hw, hv]
  rfl

theorem State.searched_of_none {s : State} (hw : s.lam.request = .wanted) (hv : s.fitting = none) :
    s.searched = s.reserved := by
  unfold State.fitting at hv
  rw [State.searched, if_pos hw, hv]
  rfl

theorem State.searched_of_not_wanted {s : State} (hw : s.lam.request ≠ .wanted) : s.searched = s := by
  rw [State.searched, if_neg hw]

/-! ### The model's search is the statements' -/

theorem State.modifyEntry_eq_changed (s : State) (t : Target) (f : MapEntry → MapEntry) : s.modifyEntry t f = s.changed t f := by
  simp only [State.modifyEntry, State.changed, State.setMap, updateEntry, State.entriesWith, MapEntry.named, Bool.and_eq_true,
    beq_iff_eq]

theorem searchChoice_eq_fitting (s : State) : searchChoice s.lam.spliceGap s.views = s.fitting := by
  rw [searchChoice, State.views_eq_gapped, State.fitting]
  congr 1
  funext v
  simp [Bool.and_assoc, Bool.beq_eq_decide_eq]

theorem spliceSearch_eq_searched (s : State) : spliceSearch s = s.searched := by
  by_cases hw : s.lam.request = .wanted
  · rw [spliceSearch, if_pos hw, searchChoice_eq_fitting]
    cases hv : s.fitting with
    | none =>
      rw [State.searched_of_none hw hv, State.reserved]
      cases s.lam.reservation with
      | some n => rfl
      | none => exact raiseNotice_eq_took .gapWanted _ rfl
    | some v =>
      simp only [State.modifyEntry_eq_changed, transitionDecision_eq_decided, State.openTarget, State.gapOpen_eq_atGap]
      exact (State.searched_of_some hw hv).symm
  · rw [spliceSearch, if_neg hw, State.searched_of_not_wanted hw]

theorem wantSplice_eq_wanting (s : State) : wantSplice s = s.wanting := spliceSearch_eq_searched _

/-! ### The ports have no part in the search -/

section
variable (s : State) (x : PerPort Port)

theorem issueNip_setPorts (o : LamOp) : issueNip o (s.setPorts x) = (issueNip o s).setPorts x := by
  rw [issueNip_eq_askedNip, issueNip_eq_askedNip, State.askedNip, State.askedNip]
  dsimp only
  rw [apply_ite (fun t : State => t.setPorts x)]
  rfl

theorem State.decided_setPorts : (s.setPorts x).decided = s.decided.setPorts x := by
  rw [← transitionDecision_eq_decided, ← transitionDecision_eq_decided]
  cases hop : s.lam.op with
  | some o => rw [transitionDecision_in_flight hop, transitionDecision_in_flight (s := s.setPorts x) hop]
  | none =>
    have hchoice : transitionChoice (s.setPorts x) = transitionChoice s := rfl
    rw [transitionDecision_free hop, transitionDecision_free (s := s.setPorts x) hop, hchoice]
    cases transitionChoice s with
    | none => rfl
    | some o => exact issueNip_setPorts s x o

theorem State.splicePlaced_setPorts (t : Target) : (s.setPorts x).splicePlaced t = (s.splicePlaced t).setPorts x := by
  have hdecided := (s.placing t).decided_setPorts x
  rw [splicePlaced, splicePlaced, apply_ite (fun t : State => t.setPorts x), ← hdecided]
  rfl

theorem State.reserved_setPorts : (s.setPorts x).reserved = s.reserved.setPorts x := by
  rw [reserved, reserved, apply_ite (fun t : State => t.setPorts x)]
  rfl

theorem State.searched_setPorts : (s.setPorts x).searched = s.searched.setPorts x := by
  by_cases hw : s.lam.request = .wanted
  · cases hv : s.fitting with
    | none => rw [searched_of_none hw hv, searched_of_none (s := s.setPorts x) hw hv, reserved_setPorts]
    | some v => rw [searched_of_some hw hv, searched_of_some (s := s.setPorts x) hw hv, splicePlaced_setPorts]
  · rw [searched_of_not_wanted hw, searched_of_not_wanted (s := s.setPorts x) hw]

theorem State.wanting_setPorts : (s.setPorts x).wanting = s.wanting.setPorts x :=
  (s.setLam { s.lam with request := .wanted }).searched_setPorts x

end

theorem State.wanting_ports (s : State) : s.wanting.ports = s.ports := by
  simp [← wantSplice_eq_wanting]

/-! ### What a request that becomes WANTED comes to (R89) -/

theorem State.wanting_of_some {s : State} {v : EntryView} (hv : s.fitting = some v) :
    s.wanting = s.splicePlaced v.entry.target :=
  searched_of_some (s := s.setLam { s.lam with request := .wanted }) rfl hv

theorem State.wanting_of_none {s : State} (hv : s.fitting = none) :
    s.wanting = (s.setLam { s.lam with request := .wanted }).reserved :=
  searched_of_none (s := s.setLam { s.lam with request := .wanted }) rfl hv

/-- With an entry that fits, the request is PLACED on it; a decision changes the links and the operation in flight beside. -/
theorem State.wanting_places {s : State} {v : EntryView} (hv : s.fitting = some v) :
    ∃ links op, s.wanting = { s.placing v.entry.target with
      links := links, lam := { (s.placing v.entry.target).lam with op := op } } := by
  rw [wanting_of_some hv, splicePlaced]
  split
  · exact decided_changes _
  · exact ⟨_, _, rfl⟩

/-- With none, a reservation stands, and GAP_WANTED is raised where none stood. -/
theorem State.wanting_reserves {s : State} (hv : s.fitting = none) :
    s.wanting = { s with
      lam := { s.lam with request := .wanted, reservation := some (s.lam.reservation.getD s.lam.spliceGap) }
      notices := if s.lam.reservation.isSome then s.notices else s.notices.took 15 } := by
  rw [wanting_of_none hv, reserved]
  cases hr : s.lam.reservation with
  | none => simp [hr, noticed, setLam]
  | some n => simp [hr, setLam]

/-! ### SPLICE REQUEST (R87) -/

theorem exec_spliceRequest (p : PortId) (s : State) :
    exec (.spliceRequest p) s = .next (writeRow p rowSpliceRequest spliceRequest s) := rfl

theorem spliceRequest_without_standby (s : State) (h : s.lam.standby = none) :
    spliceRequest s = (s, refuse .condition 0) := by
  simp [spliceRequest, h]

theorem spliceRequest_standing (s : State) (h : s.lam.standby.isSome) (hr : s.lam.request ≠ .idle) :
    spliceRequest s = (s, answerOk 0) := by
  simp [spliceRequest, Option.ne_none_iff_isSome.mpr h, hr]

theorem spliceRequest_wants (s : State) (h : s.lam.standby.isSome) (hr : s.lam.request = .idle) :
    spliceRequest s = (s.wanting, answerOk 1) := by
  simp [spliceRequest, Option.ne_none_iff_isSome.mpr h, hr, wantSplice_eq_wanting]

/-- Settles O41: at a ready port the row comes to its body, whose search takes the first entry that fits or posts a
reservation. -/
theorem spliceRequestSearchesForAGap : Obligations.SpliceRequestSearchesForAGap := by
  intro s ⟨hbusy, hlisten⟩ run fits
  have hrow := exec_spliceRequest .console s
  have hpass : portCheck .console rowSpliceRequest s = none := portCheck_passes _ _ _ hbusy rfl rfl
  let u := sendNothing .console s
  refine ⟨fun hnone => hrow.trans (congrArg _ ?_), fun hreel hr => hrow.trans (congrArg _ ?_), fun hreel hr => ?_⟩
  · exact writeRow_refused_by_body _ _ _ _ _ _ hlisten hpass (spliceRequest_without_standby u hnone) (by decide)
  · exact writeRow_accepted _ _ _ _ u _ hlisten hpass (spliceRequest_standing u hreel hr) rfl
  have hbody : spliceRequest u = (s.wanting.setPorts u.ports, answerOk 1) :=
    (spliceRequest_wants u hreel hr).trans (congrArg (·, answerOk 1) (s.wanting_setPorts u.ports))
  have hwanting : run = .next (s.wanting.accepted .console 0x36 1) := by
    refine hrow.trans (congrArg _ ?_)
    rw [writeRow_accepted _ _ _ _ _ _ hlisten hpass hbody rfl, State.accepted, State.port, State.port, s.wanting_ports]
    rfl
  refine ⟨hwanting, fun before v after hs hv hbefore => ?_, fun hnone => ?_⟩
  · obtain ⟨links, op, hplaced⟩ := State.wanting_places (State.fitting_eq_some hs hv hbefore)
    rw [hplaced] at hwanting
    exact ⟨_, hwanting, rfl, rfl, rfl, rfl, rfl⟩
  · rw [hwanting, State.wanting_reserves (State.fitting_eq_none hnone)]
    rfl

end Sys2Proof.Machine
end

section
/-! What a step is (O1), and, once for every relation on states, that a command stands in it if its body does: the checks of
R179, the transactions and the bytes of a command add only changes of a port, of a link's count, raises and a move of the
counter. With it: no command stops the part or touches the queue (O2), and hardware reset (O3, O60). -/

namespace Sys2Proof.Machine

/-! ### One step -/

/-- Settles O1: both clauses are the two branches of `step`. -/
theorem stepTakesTheFrontCommand : Obligations.StepTakesTheFrontCommand := by
  refine ⟨fun c rest s => rfl, fun s h => ?_⟩
  rw [step, h]

/-! ### Relations that the taking of a command respects -/

/-- What the taking of a command adds to its body's effect stands in the relation. -/
structure TakingRel (R : State → State → Prop) : Prop where
  refl : ∀ s, R s s
  trans : ∀ {s t u}, R s t → R t u → R s u
  port : ∀ p k s, R s (s.setPort p k)
  raise : ∀ n s, R s (raiseNotice n s)
  tick : ∀ n s, R s (s.setFreeTick n)
  cleared : ∀ l late s, R s (s.setLink l ((s.link l).countLate late))

/-- What a write command's body does, in the line states its row accepts, stands in the relation. -/
def WriteRespects (R : State → State → Prop) (r : CommandRow) (body : WriteBody) : Prop :=
  ∀ s, r.lines.accepts s.line.state = true → R s (body s).1

/-- What a read command's body does stands in the relation. -/
def ReadRespects (R : State → State → Prop) (body : ReadBody) : Prop := ∀ s, R s (body s).state

/-- What a command's body does, a write's or a read's, stands in the relation. -/
def Body.Respects (R : State → State → Prop) (r : CommandRow) : Body → Prop
  | .write body => WriteRespects R r body
  | .read body => ReadRespects R body

theorem portCheck_none_accepts {p : PortId} {r : CommandRow} {s : State} (h : portCheck p r s = none) :
    r.lines.accepts s.line.state = true := by
  unfold portCheck at h
  split_ifs at h with _ _ hl
  simpa using hl

section
variable {R : State → State → Prop} (hR : TakingRel R)
include hR

theorem TakingRel.answer (p : PortId) (code : Byte) (a : Answer) (s : State) : R s (answer p code a s) := by
  unfold Machine.answer
  dsimp only
  split
  · exact hR.port _ _ _
  · exact hR.trans (hR.port _ _ _) (hR.raise _ _)

theorem TakingRel.portError (p : PortId) (s : State) : R s (portError p s) :=
  hR.trans (hR.port _ _ _) (hR.raise _ _)

theorem TakingRel.shortTransaction (p : PortId) (code : Byte) (n : Nat) (s : State) : R s (shortTransaction p code n s) :=
  hR.trans (hR.portError _ _) (hR.answer _ _ _ _)

theorem TakingRel.incompleteByte (p : PortId) (b : Bool) (s : State) : R s (incompleteByte p b s) := by
  cases b
  · exact hR.refl s
  · exact hR.portError p s

theorem TakingRel.endRead (p : PortId) (e : ReadEnd) (s : State) : R s (endRead p e s) := by
  cases e with
  | keep => exact hR.refl s
  | clearPort => exact hR.port _ _ _
  | clearLink l late => exact hR.cleared l late s

theorem TakingRel.endReadWith (p : PortId) (e : ReadEnd) (b : Bool) (s : State) : R s (endReadWith p e b s) := by
  unfold Machine.endReadWith
  split
  · exact hR.trans (hR.endRead p e s) (hR.portError _ _)
  · exact hR.endRead p e s

variable {r : CommandRow} (p : PortId)

theorem TakingRel.takeWrite {body : WriteBody} (hbody : WriteRespects R r body) (s : State) : R s (takeWrite p r body s) := by
  unfold Machine.takeWrite
  split
  · exact hR.answer _ _ _ _
  · next hc => exact hR.trans (hbody s (portCheck_none_accepts hc)) (hR.answer _ _ _ _)

theorem TakingRel.takeByLength {body : WriteBody} (hbody : WriteRespects R r body) (m n : Nat) (s : State) :
    R s (takeByLength p r m n body s) := by
  unfold Machine.takeByLength
  split_ifs
  · exact hR.shortTransaction _ _ _ _
  · exact hR.trans (hR.portError p s) (hR.takeWrite p hbody _)
  · exact hR.takeWrite p hbody s

theorem TakingRel.takeRead {body : ReadBody} (hbody : ReadRespects R body) (s : State) : R s (takeRead p r body s).1 := by
  unfold Machine.takeRead
  split
  · exact hR.trans (hR.answer _ _ _ _) (hR.port _ _ _)
  · exact hR.trans (hbody s) (hR.trans (hR.tick _ _) (hR.port _ _ _))

theorem TakingRel.writeCommand {take : State → State} (htake : ∀ s, R s (take s)) (s : State) :
    R s (writeCommand p take s) := by
  have hclose (t : State) (h : R s t) : R s (closeTransaction p t) := hR.trans h (hR.port _ _ _)
  unfold Machine.writeCommand
  split
  · exact hclose _ (hR.trans (hR.port _ _ _) (htake _))
  · exact hclose _ (hR.trans (hR.port _ _ _) (htake _))
  · exact hclose _ (hR.endRead _ _ _)
  · exact hclose _ (hR.refl s)

theorem TakingRel.writeRow {body : WriteBody} (hbody : WriteRespects R r body) (s : State) : R s (writeRow p r body s) :=
  hR.writeCommand p (hR.takeWrite p hbody) s

theorem TakingRel.countedRow {body : List Nat → WriteBody} (hbody : ∀ xs, WriteRespects R r (body xs)) (head most : Nat)
    (count : Byte) (items : List (BitVec 16)) (s : State) : R s (countedRow p r head most count items body s) :=
  hR.writeCommand p (hR.takeByLength p (hbody _) _ _) s

theorem TakingRel.readRow {body : ReadBody} (hbody : ReadRespects R body) (params : Bytes) (s : State) :
    R s (readRow p r params body s) := by
  have htake := hR.takeRead (r := r) p hbody s
  unfold Machine.readRow readCommand
  split
  · exact hR.trans htake (hR.trans (hR.endRead _ _ _) (hR.port _ _ _))
  · exact hR.trans htake (hR.port _ _ _)
  · exact hR.refl s
  · exact hR.refl s

theorem TakingRel.takeKnown (hbody : ∀ ps b, bodyOf p r.code.toNat ps = some b → b.Respects R r) (params : Bytes)
    (incomplete : Bool) (s : State) : R s (takeKnown p r params incomplete s) := by
  unfold Machine.takeKnown
  dsimp only
  split
  · next body hb => exact hR.trans (hR.takeByLength p (hbody _ _ hb) _ _ s) (hR.incompleteByte _ _ _)
  · next body hb =>
    split
    · exact hR.trans (hR.shortTransaction _ _ _ _) (hR.incompleteByte _ _ _)
    · exact hR.trans (hR.takeRead p (hbody _ _ hb) s) (hR.endReadWith _ _ _ _)
  · exact hR.refl s

theorem TakingRel.selectRelease (hbody : ∀ r ∈ commandTable, ∀ ps b, bodyOf p r.code.toNat ps = some b → b.Respects R r)
    (bytes : Bytes) (incomplete : Bool) (s : State) : R s (selectRelease p bytes incomplete s) := by
  have hbytes (bs : Bytes) (u : State) : R u (takeBytes p bs incomplete u) := by
    unfold takeBytes
    split
    · exact hR.incompleteByte _ _ _
    · split
      · exact hR.trans (hR.trans (hR.portError _ _) (hR.answer _ _ _ _)) (hR.incompleteByte _ _ _)
      · next r hr => exact hR.takeKnown p (hbody r (List.mem_of_find?_eq_some hr)) _ _ u
  unfold Machine.selectRelease
  split
  · exact hR.refl s
  · exact hR.trans (hR.trans (hR.port _ _ _) (hbytes _ _)) (hR.port _ _ _)
  · exact hR.trans (hR.endReadWith _ _ _ _) (hR.port _ _ _)
  · exact hR.port _ _ _

theorem TakingRel.selectAssert (s : State) : R s (selectAssert p s) := by
  unfold Machine.selectAssert
  split
  · exact hR.trans (hR.port _ _ _) (hR.port _ _ _)
  · exact hR.refl s

end

/-! ### Relations that every command respects -/

/-- What the events but an encoder step and a mark, and the command bodies that change more than a port, do stands in the
relation, under the line states in which their rows are accepted (R180). -/
structure CommandRel (R : State → State → Prop) : Prop extends TakingRel R where
  announcePanel : ∀ a s, R s (announcePanel a s).1
  withdrawPanel : ∀ n s, R s (withdrawPanel n s).1
  dropReprint : ∀ r rest s, s.map.reprints = r :: rest → R s (s.setMap { s.map with reprints := rest })
  planOpen : ∀ n ratio count slits s, R s (planOpen n ratio count slits s).1
  planAppend : ∀ n count offsets s, R s (planAppend n count offsets s).1
  planClose : ∀ n s, R s (planClose n s).1
  planDiscard : ∀ n s, R s (planDiscard n s).1
  dropOutcome : ∀ r rest s, s.map.outcomes = r :: rest → R s (s.setMap { s.map with outcomes := rest })
  lineStart : ∀ s, s.line.state = .stopped → R s (lineStart s).1
  lineStop : ∀ s, s.line.state ≠ .stopped → R s (lineStop s).1
  speedSet : ∀ v s, R s (speedSet v s).1
  minSpeedSet : ∀ v s, R s (minSpeedSet v s).1
  filmStandby : ∀ n s, R s (filmStandby n s).1
  filmThread : ∀ n s, R s (filmThread n s).1
  spliceRequest : ∀ s, R s (spliceRequest s).1
  linkAcknowledge : ∀ n s, R s (linkAcknowledge n s).1
  linkTest : ∀ n s, s.line.state = .stopped → R s (linkTest n s).1
  linkTestEnd : ∀ n s, R s (linkTestEnd n s).1
  zoneDefine : ∀ z s, R s (zoneDefine z s).1
  syncSet : ∀ mode lead s, R s (syncSet mode lead s).1
  thresholdSet : ∀ high low s, R s (thresholdSet high low s).1
  registrationSet : ∀ w tolerance s, R s (registrationSet w tolerance s).1
  gapSet : ∀ transition splice spacing s, R s (gapSet transition splice spacing s).1
  scrapPanel : ∀ n s, R s (scrapPanel n s).1
  lineReset : ∀ s, s.line.state = .stopped → R s (lineReset s).1
  hold : ∀ p s, s.line.state ≠ .stopped → R s (holdCommand p s).1
  release : ∀ p n s, R s (releaseCommand p n s).1
  clearNotices : ∀ p set s, R s (clearNotices p set s).1
  setNoticeMask : ∀ p mask s, R s (setNoticeMask p mask s).1
  setLatchMasked : ∀ p option s, R s (setLatchMasked p option s).1
  hardwareReset : ∀ s, R s (hardwareReset s)
  reverseStep : ∀ s, R s (reverseStep s)
  emergencyStop : ∀ s, R s (emergencyStop s)
  emergencyStopEnds : ∀ s, R s (s.setLine { s.line with estop := false })
  framePeriod : ∀ s, R s (framePeriod s)
  stationFrame : ∀ l bytes s, R s (stationFrame l bytes s)
  wakeExpiry : ∀ l s, R s (wakeExpiry l s)
  armExpiry : ∀ l s, R s (armExpiry l s)
  flywheelExpiry : ∀ l s, R s (flywheelExpiry l s)
  parkExpiry : ∀ l s, R s (parkExpiry l s)
  operationTimeout : ∀ l s, R s (operationTimeout l s)
  rampExpiry : ∀ s, R s (rampExpiry s)
  syncPulseEnd : ∀ s, R s (s.setTracker { s.tracker with syncPulse := none })
  busyExpiry : ∀ s, R s (busyExpiry s)

section
variable {R : State → State → Prop}

/-- A write command that its row accepts in every line state. -/
theorem WriteRespects.of_all {r : CommandRow} {body : WriteBody} (h : ∀ s, R s (body s).1) : WriteRespects R r body :=
  fun s _ => h s

theorem WriteRespects.of_stopped {r : CommandRow} {body : WriteBody} (hr : r.lines = .stopped)
    (h : ∀ s, s.line.state = .stopped → R s (body s).1) : WriteRespects R r body :=
  fun s hs => h s (by simpa [hr, LineRule.accepts] using hs)

theorem WriteRespects.of_notStopped {r : CommandRow} {body : WriteBody} (hr : r.lines = .notStopped)
    (h : ∀ s, s.line.state ≠ .stopped → R s (body s).1) : WriteRespects R r body :=
  fun s hs => h s (by simpa [hr, LineRule.accepts] using hs)

variable (hR : CommandRel R)
include hR

/-- A read that only shows state. -/
theorem CommandRel.showRecord (record : State → Bytes) : ReadRespects R (showRecord record) := fun s => hR.refl s

theorem CommandRel.takeReprint (p : PortId) : ReadRespects R (takeReprint p) := by
  intro s
  unfold Machine.takeReprint
  split
  · exact hR.answer p rowTakeReprint.code (refuse .empty 0) s
  · next r rest h =>
    exact hR.trans (hR.dropReprint r rest s h) (hR.answer p rowTakeReprint.code (answerOk rest.length) _)

theorem CommandRel.takeOutcome (p : PortId) : ReadRespects R (takeOutcome p) := by
  intro s
  unfold Machine.takeOutcome
  split
  · exact hR.answer p rowTakeOutcome.code (refuse .empty 0) s
  · next r rest h =>
    exact hR.trans (hR.dropOutcome r rest s h) (hR.answer p rowTakeOutcome.code (answerOk rest.length) _)

theorem CommandRel.readSettled (p : PortId) (selector key : Nat) : ReadRespects R (readSettled p selector key) := by
  intro s
  unfold Machine.readSettled
  split
  · exact hR.port _ _ _
  · exact hR.port _ _ _
  · split
    · exact hR.refl s
    · split
      · exact hR.trans (hR.port _ _ _) (hR.port _ _ _)
      · exact hR.refl s

theorem CommandRel.readErrorCount (p : PortId) (source : Nat) : ReadRespects R (readErrorCount p source) := by
  intro s
  unfold Machine.readErrorCount
  split
  · exact hR.refl s
  · split <;> exact hR.refl s

/-- Every body that a row of the command code table calls for stands in the relation. -/
theorem CommandRel.bodyOf (p : PortId) (r : CommandRow) (hr : r ∈ commandTable) (ps : Bytes) (b : Body)
    (h : bodyOf p r.code.toNat ps = some b) : b.Respects R r := by
  simp only [commandTable, List.cons_append, List.nil_append, List.mem_cons, List.not_mem_nil, or_false] at hr
  rcases hr with rfl | rfl | rfl | rfl | rfl | rfl | rfl | rfl | rfl | rfl | rfl | rfl | rfl | rfl | rfl | rfl | rfl | rfl |
    rfl | rfl | rfl | rfl | rfl | rfl | rfl | rfl | rfl | rfl | rfl | rfl | rfl | rfl | rfl | rfl | rfl | rfl | rfl | rfl | rfl <;>
    cases h
  · exact .of_all (hR.announcePanel _)
  · exact .of_all (hR.withdrawPanel _)
  · exact hR.takeReprint p
  · exact .of_all (hR.planOpen _ _ _ _)
  · exact .of_all (hR.planAppend _ _ _)
  · exact .of_all (hR.planClose _)
  · exact .of_all (hR.planDiscard _)
  · exact hR.takeOutcome p
  · exact .of_stopped rfl hR.lineStart
  · exact .of_notStopped rfl hR.lineStop
  · exact .of_all (hR.speedSet _)
  · exact .of_all (hR.minSpeedSet _)
  · exact .of_all (hR.filmStandby _)
  · exact .of_all (hR.filmThread _)
  · exact .of_all hR.spliceRequest
  · exact .of_all (hR.linkAcknowledge _)
  · exact .of_stopped rfl (hR.linkTest _)
  · exact .of_all (hR.linkTestEnd _)
  · exact .of_all (hR.zoneDefine _)
  · exact .of_all (hR.syncSet _ _)
  · exact .of_all (hR.thresholdSet _ _)
  · exact .of_all (hR.registrationSet _ _)
  · exact .of_all (hR.gapSet _ _ _)
  · exact .of_all (hR.scrapPanel _)
  · exact .of_stopped rfl hR.lineReset
  · exact .of_notStopped rfl (hR.hold p)
  · exact .of_all (hR.release p _)
  · exact hR.showRecord _
  · exact hR.showRecord _
  · exact hR.readSettled p _ _
  · exact hR.showRecord _
  · exact hR.showRecord _
  · exact hR.showRecord _
  · exact hR.showRecord _
  · exact .of_all (hR.clearNotices p _)
  · exact .of_all (hR.setNoticeMask p _)
  · exact .of_all (hR.setLatchMasked p _)
  · exact hR.readErrorCount p _
  · exact hR.showRecord _

/-- Every command answers a next state, in the relation to the state before if what an encoder step and a mark do is. -/
theorem CommandRel.exec (c : Instr) (s : State) (hforward : c = .encoderForwardStep → R s (forwardStep s))
    (hmark : c = .mark → R s (markRow s)) : ∃ t, exec c s = .next t ∧ R s t := by
  cases c with
  | hardwareReset => exact ⟨_, rfl, hR.hardwareReset s⟩
  | encoderForwardStep => exact ⟨_, rfl, hforward rfl⟩
  | encoderReverseStep => exact ⟨_, rfl, hR.reverseStep s⟩
  | mark => exact ⟨_, rfl, hmark rfl⟩
  | emergencyStopActive => exact ⟨_, rfl, hR.emergencyStop s⟩
  | emergencyStopInactive => exact ⟨_, rfl, hR.emergencyStopEnds s⟩
  | framePeriod => exact ⟨_, rfl, hR.framePeriod s⟩
  | stationFrame l bytes => exact ⟨_, rfl, hR.stationFrame l bytes s⟩
  | wakeTimerExpiry l => exact ⟨_, rfl, hR.wakeExpiry l s⟩
  | armTimerExpiry l => exact ⟨_, rfl, hR.armExpiry l s⟩
  | flywheelTimerExpiry l => exact ⟨_, rfl, hR.flywheelExpiry l s⟩
  | parkTimerExpiry l => exact ⟨_, rfl, hR.parkExpiry l s⟩
  | operationTimeout l => exact ⟨_, rfl, hR.operationTimeout l s⟩
  | rampTimerExpiry => exact ⟨_, rfl, hR.rampExpiry s⟩
  | syncPulseEnd => exact ⟨_, rfl, hR.syncPulseEnd s⟩
  | busyTimerExpiry => exact ⟨_, rfl, hR.busyExpiry s⟩
  | selectRelease p bytes incomplete => exact ⟨_, rfl, hR.selectRelease p (hR.bodyOf p) bytes incomplete s⟩
  | announcePanel p panel length cls policy plan gap => exact ⟨_, rfl, hR.writeRow p (.of_all (hR.announcePanel _)) s⟩
  | withdrawPanel p panel => exact ⟨_, rfl, hR.writeRow p (.of_all (hR.withdrawPanel _)) s⟩
  | takeReprint p => exact ⟨_, rfl, hR.readRow p (hR.takeReprint p) _ s⟩
  | planOpen p plan ratio count slits =>
    exact ⟨_, rfl, hR.countedRow p (fun _ => .of_all (hR.planOpen _ _ _ _)) _ _ _ _ s⟩
  | planAppend p plan count offsets => exact ⟨_, rfl, hR.countedRow p (fun _ => .of_all (hR.planAppend _ _ _)) _ _ _ _ s⟩
  | planClose p plan => exact ⟨_, rfl, hR.writeRow p (.of_all (hR.planClose _)) s⟩
  | planDiscard p plan => exact ⟨_, rfl, hR.writeRow p (.of_all (hR.planDiscard _)) s⟩
  | takeOutcome p => exact ⟨_, rfl, hR.readRow p (hR.takeOutcome p) _ s⟩
  | lineStart p => exact ⟨_, rfl, hR.writeRow p (.of_stopped rfl hR.lineStart) s⟩
  | lineStop p => exact ⟨_, rfl, hR.writeRow p (.of_notStopped rfl hR.lineStop) s⟩
  | speedSet p speed => exact ⟨_, rfl, hR.writeRow p (.of_all (hR.speedSet _)) s⟩
  | minSpeedSet p speed => exact ⟨_, rfl, hR.writeRow p (.of_all (hR.minSpeedSet _)) s⟩
  | filmStandby p length => exact ⟨_, rfl, hR.writeRow p (.of_all (hR.filmStandby _)) s⟩
  | filmThread p length => exact ⟨_, rfl, hR.writeRow p (.of_all (hR.filmThread _)) s⟩
  | spliceRequest p => exact ⟨_, rfl, hR.writeRow p (.of_all hR.spliceRequest) s⟩
  | linkAcknowledge p l => exact ⟨_, rfl, hR.writeRow p (.of_all (hR.linkAcknowledge _)) s⟩
  | linkTest p l => exact ⟨_, rfl, hR.writeRow p (.of_stopped rfl (hR.linkTest _)) s⟩
  | linkTestEnd p l => exact ⟨_, rfl, hR.writeRow p (.of_all (hR.linkTestEnd _)) s⟩
  | zoneDefine p d1 d2 d3 d4 d5 => exact ⟨_, rfl, hR.writeRow p (.of_all (hR.zoneDefine _)) s⟩
  | syncSet p mode lead => exact ⟨_, rfl, hR.writeRow p (.of_all (hR.syncSet _ _)) s⟩
  | thresholdSet p high low => exact ⟨_, rfl, hR.writeRow p (.of_all (hR.thresholdSet _ _)) s⟩
  | registrationSet p w tolerance => exact ⟨_, rfl, hR.writeRow p (.of_all (hR.registrationSet _ _)) s⟩
  | gapSet p transition splice spacing => exact ⟨_, rfl, hR.writeRow p (.of_all (hR.gapSet _ _ _)) s⟩
  | scrapPanel p panel => exact ⟨_, rfl, hR.writeRow p (.of_all (hR.scrapPanel _)) s⟩
  | lineReset p => exact ⟨_, rfl, hR.writeRow p (.of_stopped rfl hR.lineReset) s⟩
  | hold p => exact ⟨_, rfl, hR.writeRow p (.of_notStopped rfl (hR.hold p)) s⟩
  | release p number => exact ⟨_, rfl, hR.writeRow p (.of_all (hR.release p _)) s⟩
  | readStatus p => exact ⟨_, rfl, hR.readRow p (hR.showRecord _) _ s⟩
  | readMapEntry p selector key => exact ⟨_, rfl, hR.readRow p (hR.showRecord _) _ s⟩
  | readMapEntrySettled p selector key => exact ⟨_, rfl, hR.readRow p (hR.readSettled p _ _) _ s⟩
  | readPlan p selector key => exact ⟨_, rfl, hR.readRow p (hR.showRecord _) _ s⟩
  | readHoldContext p depth => exact ⟨_, rfl, hR.readRow p (hR.showRecord _) _ s⟩
  | readResult p => exact ⟨_, rfl, hR.readRow p (hR.showRecord _) _ s⟩
  | readNotices p => exact ⟨_, rfl, hR.readRow p (hR.showRecord _) _ s⟩
  | clearNotices p set => exact ⟨_, rfl, hR.writeRow p (.of_all (hR.clearNotices p _)) s⟩
  | setNoticeMask p mask => exact ⟨_, rfl, hR.writeRow p (.of_all (hR.setNoticeMask p _)) s⟩
  | setLatchMasked p option => exact ⟨_, rfl, hR.writeRow p (.of_all (hR.setLatchMasked p _)) s⟩
  | readErrorCount p source => exact ⟨_, rfl, hR.readRow p (hR.readErrorCount p _) _ s⟩
  | readIdent p => exact ⟨_, rfl, hR.readRow p (hR.showRecord _) _ s⟩
  | selectAssert p => exact ⟨_, rfl, hR.selectAssert p s⟩

end

/-- A property that says nothing of the queue, and that every command keeps, is kept by every step. -/
theorem Kept.of_commands {inv : State → Prop} (hpending : ∀ q s, inv s → inv (s.setPending q))
    (h : CommandRel (fun s t => inv s → inv t)) (hforward : ∀ s, inv s → inv (forwardStep s))
    (hmark : ∀ s, inv s → inv (markRow s)) : Kept inv := by
  intro s t hs hstep
  unfold step at hstep
  split at hstep
  · cases hstep
    exact hs
  · next c rest _ =>
    obtain ⟨u, hu, hinv⟩ := h.exec c (s.setPending rest) (fun _ => hforward _) (fun _ => hmark _)
    rw [hu] at hstep
    cases hstep
    exact hinv (hpending rest s hs)

/-! ### No command stops the part or touches the queue -/

@[simp] theorem startOrder_frame (l : LinkId) (s : State) :
    (startOrder l s).tracker = s.tracker ∧ (startOrder l s).map = s.map ∧ (startOrder l s).plans = s.plans ∧
    (startOrder l s).reg = s.reg ∧ (startOrder l s).lam = s.lam ∧ (startOrder l s).cut = s.cut ∧
    (startOrder l s).hold = s.hold ∧ (startOrder l s).ports = s.ports ∧ (startOrder l s).busy = s.busy ∧
    (startOrder l s).freeTick = s.freeTick ∧ (startOrder l s).pending = s.pending := by
  unfold startOrder
  split <;> simp

/-- Every command's body and every event keeps the queue. -/
theorem keepsPending : CommandRel (fun s t => t.pending = s.pending) where
  refl _ := rfl
  trans h1 h2 := h2.trans h1
  port _ _ _ := rfl
  raise _ _ := by simp
  tick _ _ := rfl
  cleared _ _ _ := rfl
  announcePanel a s := by
    unfold announcePanel
    (repeat' split) <;> simp [acceptPanel, takeReservation, startTracking]
    (repeat' split) <;> simp
  withdrawPanel n s := by
    unfold withdrawPanel
    (repeat' split) <;> simp [withdrawEntry]
  dropReprint _ _ _ _ := rfl
  planOpen n ratio count slits s := by
    unfold planOpen
    dsimp only
    (repeat' split) <;> rfl
  planAppend n count offsets s := by
    unfold planAppend
    (repeat' split) <;> rfl
  planClose n s := by
    unfold planClose
    (repeat' split) <;> rfl
  planDiscard n s := by
    unfold planDiscard
    (repeat' split) <;> rfl
  dropOutcome _ _ _ _ := rfl
  lineStart s hs := by
    unfold lineStart
    split <;> simp [allLinks]
  lineStop s hs := by simp [lineStop, emptyStack]
  speedSet v s := by
    unfold speedSet
    dsimp only
    split_ifs <;> simp
  minSpeedSet v s := by
    unfold minSpeedSet
    split <;> simp
  filmStandby n s := by
    unfold filmStandby
    (repeat' split) <;> simp
  filmThread n s := by
    unfold filmThread
    (repeat' split) <;> simp
  spliceRequest s := by
    unfold spliceRequest
    (repeat' split) <;> simp
  linkAcknowledge n s := by
    unfold linkAcknowledge acknowledgeLink
    dsimp only
    (repeat' split) <;> simp
  linkTest n s hs := by
    unfold linkTest testLink
    dsimp only
    (repeat' split) <;> simp
  linkTestEnd n s := by
    unfold linkTestEnd
    (repeat' split) <;> simp
  zoneDefine z s := by
    unfold zoneDefine
    (repeat' split) <;> simp
  syncSet mode lead s := by
    unfold syncSet recomputeSync
    (repeat' split) <;> simp
  thresholdSet high low s := by
    unfold thresholdSet
    (repeat' split) <;> simp
  registrationSet w tolerance s := by
    unfold registrationSet
    (repeat' split) <;> simp
  gapSet transition splice spacing s := by
    unfold gapSet
    (repeat' split) <;> rfl
  scrapPanel n s := by
    unfold scrapPanel
    split <;> simp
  lineReset s hs := by
    simp [lineReset, passLevels, allLinks, resetBlocks]
  hold p s hs := by
    unfold holdCommand
    split <;> simp
  release p n s := by
    unfold releaseCommand acceptRelease
    dsimp only
    (repeat' split) <;> simp
  clearNotices p set s := by simp [clearNotices, setCopy]
  setNoticeMask p mask s := by simp [setNoticeMask, setCopy]
  setLatchMasked p option s := by
    unfold setLatchMasked
    split <;> simp [setCopy]
  hardwareReset _ := rfl
  reverseStep s := by simp
  emergencyStop s := by simp
  emergencyStopEnds _ := rfl
  framePeriod s := by simp
  stationFrame l bytes s := by simp
  wakeExpiry l s := by simp
  armExpiry l s := by simp
  flywheelExpiry l s := by simp
  parkExpiry l s := by simp
  operationTimeout l s := by simp
  rampExpiry s := by simp
  syncPulseEnd _ := rfl
  busyExpiry s := by
    unfold busyExpiry
    split <;> simp

/-! ### Hardware reset -/

/-- Settles O3: the reset values are those of `State.reset` field by field, and HARDWARE_RESET keeps the pins, the queue and
the counter beside them. -/
theorem hardwareResetRestoresTheResetState : Obligations.HardwareResetRestoresTheResetState := by
  refine ⟨⟨rfl, rfl, rfl, rfl, rfl, rfl, fun l => ?_, ?_, rfl, fun p => ?_, rfl, fun p => ?_⟩, fun s => ?_⟩
  · cases l <;> decide
  · decide
  · cases p <;> decide
  · cases p <;> rfl
  · refine ⟨hardwareReset s, rfl, rfl, fun p => ?_⟩
    have hport : (hardwareReset s).port p = (s.port p).hardwareReset := PerPort.get_map _ _ p
    rw [hport]
    cases p <;> rfl

@[simp] theorem State.reset_entries : State.reset.map.entries = [] := rfl
@[simp] theorem State.reset_plans : State.reset.plans.plans = [] := rfl
@[simp] theorem State.reset_xcut : State.reset.cut.xcut = [] := rfl
@[simp] theorem State.reset_cutFlight : State.reset.cut.cutFlight = none := rfl

/-- Settles O60: each property is a closed statement about `State.reset`, those about every entry, plan or cut being empty. -/
theorem propertiesHoldAtReset : Obligations.PropertiesHoldAtReset := by
  have hnames : NamesApart State.reset.map := by simp [NamesApart]
  have horder : MapInOrder State.reset := ⟨hnames, by simp [InWebOrder]; decide⟩
  exact ⟨⟨by decide, by decide⟩, by decide, ⟨by decide, by decide, by decide⟩, by decide,
    ⟨horder, horder, by decide, by decide, by decide, by decide, by simp⟩, ⟨hnames, by simp, by simp, by simp⟩,
    ⟨hnames, by decide⟩, by decide, hnames, by decide, by simp, by simp⟩

/-- Settles O2: every command is one call of a meaning that answers a next state, and each body keeps the queue. -/
theorem everyCommandAnswersNextAndKeepsTheQueue : Obligations.EveryCommandAnswersNextAndKeepsTheQueue :=
  fun c s => keepsPending.exec c s (fun _ => by simp) (fun _ => by simp)

end Sys2Proof.Machine
end

section
/-! The ports have no part in what the other blocks do: every operation below the ports commutes with a change of them. -/

namespace Sys2Proof.Machine

section
variable (s : State) (x : PerPort Port)

/-! ### Setters and reads of the other blocks -/


@[simp] theorem State.setPorts_setTracker (y) : (s.setPorts x).setTracker y = (s.setTracker y).setPorts x := rfl
@[simp] theorem State.setPorts_setMap (y) : (s.setPorts x).setMap y = (s.setMap y).setPorts x := rfl
@[simp] theorem State.setPorts_setPlans (y) : (s.setPorts x).setPlans y = (s.setPlans y).setPorts x := rfl
@[simp] theorem State.setPorts_setReg (y) : (s.setPorts x).setReg y = (s.setReg y).setPorts x := rfl
@[simp] theorem State.setPorts_setLam (y) : (s.setPorts x).setLam y = (s.setLam y).setPorts x := rfl
@[simp] theorem State.setPorts_setCut (y) : (s.setPorts x).setCut y = (s.setCut y).setPorts x := rfl
@[simp] theorem State.setPorts_setLinks (y) : (s.setPorts x).setLinks y = (s.setLinks y).setPorts x := rfl
@[simp] theorem State.setPorts_setLine (y) : (s.setPorts x).setLine y = (s.setLine y).setPorts x := rfl
@[simp] theorem State.setPorts_setHold (y) : (s.setPorts x).setHold y = (s.setHold y).setPorts x := rfl
@[simp] theorem State.setPorts_setBusy (y) : (s.setPorts x).setBusy y = (s.setBusy y).setPorts x := rfl
@[simp] theorem State.setPorts_setNotices (y) : (s.setPorts x).setNotices y = (s.setNotices y).setPorts x := rfl
@[simp] theorem State.setPorts_setFreeTick (y) : (s.setPorts x).setFreeTick y = (s.setFreeTick y).setPorts x := rfl
@[simp] theorem State.setPorts_setLink (l : LinkId) (k : Link) :
    (s.setPorts x).setLink l k = (s.setLink l k).setPorts x := rfl
@[simp] theorem State.setPorts_setOwed (l : LinkId) (o : Owed) :
    (s.setPorts x).setOwed l o = (s.setOwed l o).setPorts x := rfl
@[simp] theorem State.setPorts_modifyEntry (t : Target) (f : MapEntry → MapEntry) :
    (s.setPorts x).modifyEntry t f = (s.modifyEntry t f).setPorts x := rfl
@[simp] theorem State.setPorts_modifyPlan (n : Nat) (f : Plan → Plan) :
    (s.setPorts x).modifyPlan n f = (s.modifyPlan n f).setPorts x := rfl
@[simp] theorem State.setPorts_addRef (n : Nat) : (s.setPorts x).addRef n = (s.addRef n).setPorts x := rfl
@[simp] theorem State.setPorts_dropRef (n : Nat) : (s.setPorts x).dropRef n = (s.dropRef n).setPorts x := rfl
@[simp] theorem State.setPorts_dropEntry (t : Target) : (s.setPorts x).dropEntry t = (s.dropEntry t).setPorts x := rfl
@[simp] theorem State.setPorts_link (l : LinkId) : (s.setPorts x).link l = s.link l := rfl
@[simp] theorem State.setPorts_entry (t : Target) : (s.setPorts x).entry t = s.entry t := rfl
@[simp] theorem State.setPorts_plan (n : Nat) : (s.setPorts x).plan n = s.plan n := rfl
@[simp] theorem State.setPorts_level (n : Notice) : (s.setPorts x).level n = s.level n := rfl
@[simp] theorem State.setPorts_inGroup (n : Notice) : (s.setPorts x).inGroup n = s.inGroup n := rfl
@[simp] theorem State.setPorts_nearFull : (s.setPorts x).nearFull = s.nearFull := rfl
@[simp] theorem State.setPorts_queueLow : (s.setPorts x).queueLow = s.queueLow := rfl
@[simp] theorem State.setPorts_filmLow : (s.setPorts x).filmLow = s.filmLow := rfl
@[simp] theorem State.setPorts_linkUp (l : LinkId) : (s.setPorts x).linkUp l = s.linkUp l := rfl
@[simp] theorem State.setPorts_holdActive : (s.setPorts x).holdActive = s.holdActive := rfl
@[simp] theorem State.setPorts_regLocked : (s.setPorts x).regLocked = s.regLocked := rfl
@[simp] theorem State.setPorts_lineUp : (s.setPorts x).lineUp = s.lineUp := rfl
@[simp] theorem State.setPorts_ratioAtNip : (s.setPorts x).ratioAtNip = s.ratioAtNip := rfl
@[simp] theorem State.setPorts_allLinksIn (q : LinkState → Bool) : (s.setPorts x).allLinksIn q = s.allLinksIn q := rfl
@[simp] theorem State.setPorts_openTarget : (s.setPorts x).openTarget = s.openTarget := rfl
@[simp] theorem State.setPorts_splicing : (s.setPorts x).splicing = s.splicing := rfl
@[simp] theorem State.setPorts_views : (s.setPorts x).views = s.views := rfl
@[simp] theorem State.setPorts_good (t : Target) : (s.setPorts x).good t = s.good t := rfl
@[simp] theorem State.setPorts_slitReady (front : SlitEntry) : (s.setPorts x).slitReady front = s.slitReady front := rfl
@[simp] theorem State.setPorts_unissuedOf (t : Target) : (s.setPorts x).unissuedOf t = s.unissuedOf t := rfl
@[simp] theorem State.setPorts_byPanel (n : Nat) : (s.setPorts x).byPanel n = s.byPanel n := rfl
@[simp] theorem State.setPorts_releasable (r : HoldReason) : (s.setPorts x).releasable r = s.releasable r := rfl
@[simp] theorem State.setPorts_startBlocker : (s.setPorts x).startBlocker = s.startBlocker := rfl
@[simp] theorem State.setPorts_transitionChoice : transitionChoice (s.setPorts x) = transitionChoice s := rfl
@[simp] theorem State.setPorts_setPorts' (y : PerPort Port) : (s.setPorts x).setPorts y = s.setPorts y := rfl


/-! ### The Notice Unit, the links and Line Control -/


@[simp] theorem raiseNotice_setPorts (n : Notice) : raiseNotice n (s.setPorts x) = (raiseNotice n s).setPorts x := by
  by_cases h : s.inGroup n <;> simp [raiseNotice, h]

@[simp] theorem passLevel_setPorts (n : Notice) (v : Bool) :
    passLevel n v (s.setPorts x) = (passLevel n v s).setPorts x := by
  by_cases h : s.level n = v <;> simp [passLevel, h]

@[simp] theorem evalMapLevels_setPorts : evalMapLevels (s.setPorts x) = (evalMapLevels s).setPorts x := by
  simp [evalMapLevels]

@[simp] theorem clearLatched_setPorts : clearLatched (s.setPorts x) = (clearLatched s).setPorts x := by
  simp [clearLatched]

@[simp] theorem passLinkUp_setPorts (l : LinkId) : passLinkUp l (s.setPorts x) = (passLinkUp l s).setPorts x := by
  simp [passLinkUp]

@[simp] theorem enterLink_setPorts (l : LinkId) (st : LinkState) :
    enterLink l st (s.setPorts x) = (enterLink l st s).setPorts x := by
  simp [enterLink]

@[simp] theorem wakeLink_setPorts (l : LinkId) : wakeLink l (s.setPorts x) = (wakeLink l s).setPorts x := by
  simp [wakeLink]

@[simp] theorem giveGo_setPorts (l : LinkId) : giveGo l (s.setPorts x) = (giveGo l s).setPorts x := by
  by_cases h : (s.link l).state = .armed <;> simp [giveGo, h]

@[simp] theorem parkLink_setPorts (l : LinkId) : parkLink l (s.setPorts x) = (parkLink l s).setPorts x := by
  simp [parkLink]

@[simp] theorem setSpeeds_setPorts (c t : Nat) : setSpeeds c t (s.setPorts x) = (setSpeeds c t s).setPorts x := by
  by_cases h : s.line.commanded ≠ s.line.target ∧ c = t
  · have hx : (s.setPorts x).line.commanded ≠ (s.setPorts x).line.target ∧ c = t := h
    rw [setSpeeds, setSpeeds, if_pos h, if_pos hx, ← raiseNotice_setPorts]
    rfl
  · have hx : ¬ ((s.setPorts x).line.commanded ≠ (s.setPorts x).line.target ∧ c = t) := h
    rw [setSpeeds, setSpeeds, if_neg h, if_neg hx]
    rfl

@[simp] theorem retarget_setPorts : retarget (s.setPorts x) = (retarget s).setPorts x := by
  simp [retarget]

@[simp] theorem enterLine_setPorts (st : LineState) : enterLine st (s.setPorts x) = (enterLine st s).setPorts x := by
  simp [enterLine, State.lineUp]

@[simp] theorem parkOrOwe_setPorts (l : LinkId) : parkOrOwe l (s.setPorts x) = (parkOrOwe l s).setPorts x := by
  by_cases ha : (s.link l).state = .armed
  · simp [parkOrOwe, ha]
  · by_cases hc : (s.link l).state.carries
    · by_cases ho : (s.link l).op.isSome <;> simp [parkOrOwe, ha, hc, ho]
    · simp [parkOrOwe, ha, hc]

@[simp] theorem parkAll_setPorts : parkAll (s.setPorts x) = (parkAll s).setPorts x := by
  simp [parkAll, allLinks]

@[simp] theorem enterStopped_setPorts : enterStopped (s.setPorts x) = (enterStopped s).setPorts x := by
  simp [enterStopped]

@[simp] theorem settleAtRest_setPorts : settleAtRest (s.setPorts x) = (settleAtRest s).setPorts x := by
  by_cases h : s.line.commanded = 0
  · cases hs : s.line.state <;> simp [settleAtRest, h, hs]
  · simp [settleAtRest, h]

@[simp] theorem pushHold_setPorts (o : HoldOwner) (r : HoldReason) (d : FaultDetail) :
    pushHold o r d (s.setPorts x) = (pushHold o r d s).setPorts x := by
  rfl

@[simp] theorem haltReport_setPorts : haltReport (s.setPorts x) = (haltReport s).setPorts x := by
  by_cases h : s.line.state = .run ∧ s.hold.stack ≠ [] <;> simp [haltReport, h]

@[simp] theorem takeFault_setPorts (r : HoldReason) (d : FaultDetail) :
    takeFault r d (s.setPorts x) = (takeFault r d s).setPorts x := by
  cases hs : s.hold.stack with
  | nil => simp [takeFault, hs]
  | cons r' rest =>
    by_cases h : r'.owner = .line ∧ r'.reason = r
    · simp [takeFault, hs, h]
    · by_cases hl : rest.length + 1 < Config.holdSize <;> simp [takeFault, hs, h, hl]

@[simp] theorem faultHold_setPorts (r : HoldReason) (d : FaultDetail) :
    faultHold r d (s.setPorts x) = (faultHold r d s).setPorts x := by
  simp [faultHold, State.holdActive]

@[simp] theorem runEntry_setPorts : runEntry (s.setPorts x) = (runEntry s).setPorts x := by
  cases he : s.line.estop
  · simp [runEntry, he]
  · by_cases h : (faultHold .estop noDetail s).line.state = .arming <;> simp [runEntry, he, h]

@[simp] theorem stackReport_setPorts : stackReport (s.setPorts x) = (stackReport s).setPorts x := by
  by_cases h : s.hold.stack = []
  · cases hs : s.line.state <;> simp [stackReport, h, hs]
  · simp [stackReport, h]

@[simp] theorem dropWakes_setPorts : dropWakes (s.setPorts x) = (dropWakes s).setPorts x := by
  rfl

@[simp] theorem startFailure_setPorts : startFailure (s.setPorts x) = (startFailure s).setPorts x := by
  simp [startFailure, State.lineUp]

@[simp] theorem wakeOwed_setPorts (l : LinkId) : wakeOwed l (s.setPorts x) = (wakeOwed l s).setPorts x := by
  by_cases h : (s.link l).state = .down ∧ s.line.owed.get l = .wake <;> simp [wakeOwed, h]

@[simp] theorem goReport_setPorts (l : LinkId) : goReport l (s.setPorts x) = (goReport l s).setPorts x := by
  by_cases hg : s.line.go
  · simp [goReport, hg]
  · by_cases h : s.allLinksIn LinkState.armedUp <;> simp [goReport, hg, h, allLinks]

@[simp] theorem armedReport_setPorts : armedReport (s.setPorts x) = (armedReport s).setPorts x := by
  by_cases h : s.allLinksIn (fun st => st == .active)
  · by_cases hs : s.hold.stack = [] <;> simp [armedReport, h, hs]
  · simp [armedReport, h]

@[simp] theorem linkReport_setPorts (l : LinkId) (old : LinkState) (w : Bool) :
    linkReport l old w (s.setPorts x) = (linkReport l old w s).setPorts x := by
  cases hs : s.line.state with
  | stopping => simp [linkReport, hs]
  | arming => by_cases h : failsStart old (s.link l).state w <;> simp [linkReport, hs, h]
  | stopped =>
    by_cases h : ((s.link l).state = .armed ∨ (s.link l).state = .active) ∧ (s.link l).op = none <;>
      simp [linkReport, hs, h]
  | run | halting | held => by_cases h : (s.link l).state = .armed <;> simp [linkReport, hs, h]

@[simp] theorem owedParkReport_setPorts (l : LinkId) :
    owedParkReport l (s.setPorts x) = (owedParkReport l s).setPorts x := by
  by_cases h : s.line.owed.get l = .park
  · by_cases hc : ((s.setOwed l .nothing).link l).state.carries <;> simp [owedParkReport, h, hc]
  · simp [owedParkReport, h]

@[simp] theorem moveLink_setPorts (l : LinkId) (st : LinkState) (w : Bool) :
    moveLink l st w (s.setPorts x) = (moveLink l st w s).setPorts x := by
  simp [moveLink]

@[simp] theorem startOrder_setPorts (l : LinkId) : startOrder l (s.setPorts x) = (startOrder l s).setPorts x := by
  cases h : (s.link l).state <;> simp [startOrder, h]

/-! ### Laminator Control -/


@[simp] theorem reportNip_setPorts : reportNip (s.setPorts x) = (reportNip s).setPorts x := by
  by_cases h : s.line.atNip = (entryAtNip s.map.entries).map MapEntry.target <;> simp [reportNip, h]

@[simp] theorem transitionDecision_setPorts : transitionDecision (s.setPorts x) = (transitionDecision s).setPorts x := by
  rw [transitionDecision_eq_decided, transitionDecision_eq_decided, State.decided_setPorts]

@[simp] theorem decideIfOpen_setPorts : decideIfOpen (s.setPorts x) = (decideIfOpen s).setPorts x := by
  by_cases h : s.openTarget.isSome <;> simp [decideIfOpen, h]

@[simp] theorem spliceSearch_setPorts : spliceSearch (s.setPorts x) = (spliceSearch s).setPorts x := by
  rw [spliceSearch_eq_searched, spliceSearch_eq_searched, State.searched_setPorts]

@[simp] theorem wantSplice_setPorts : wantSplice (s.setPorts x) = (wantSplice s).setPorts x := by
  simp [wantSplice]

@[simp] theorem autoSplice_setPorts : autoSplice (s.setPorts x) = (autoSplice s).setPorts x := by
  by_cases h : s.filmLow ∧ s.lam.standby.isSome ∧ s.lam.request = .idle <;> simp [autoSplice, h]

@[simp] theorem evalFilm_setPorts : evalFilm (s.setPorts x) = (evalFilm s).setPorts x := by
  simp [evalFilm]

@[simp] theorem lamFail_setPorts : lamFail (s.setPorts x) = (lamFail s).setPorts x := by
  cases h : s.lam.op with
  | none => simp [lamFail, h]
  | some o => by_cases hk : o.kind = .splice <;> simp [lamFail, h, hk]

@[simp] theorem lamAnnounced_setPorts (t : Target) : lamAnnounced t (s.setPorts x) = (lamAnnounced t s).setPorts x := by
  by_cases h : (spliceSearch s).openTarget = some t <;> simp [lamAnnounced, h]

@[simp] theorem lamRemoved_setPorts (t : Target) (w : Bool) :
    lamRemoved t w (s.setPorts x) = (lamRemoved t w s).setPorts x := by
  by_cases hb : s.lam.request = .placed t ∧ s.splicing = false <;> cases w <;> simp [lamRemoved, hb]

/-! ### Scrap claims and cuts -/


@[simp] theorem appendReprint_setPorts (r : ReprintRecord) :
    appendReprint r (s.setPorts x) = (appendReprint r s).setPorts x := by
  by_cases h : s.map.reprints.length < Config.reprintSize <;> simp [appendReprint, h]

@[simp] theorem markScrap_setPorts (t : Target) (r : ScrapReason) :
    markScrap t r (s.setPorts x) = (markScrap t r s).setPorts x := by
  cases h : s.entry t with
  | none => simp [markScrap, h]
  | some e => by_cases hs : e.scrap.isSome <;> simp [markScrap, h, hs]

@[simp] theorem slitAttempt_setPorts : slitAttempt (s.setPorts x) = (slitAttempt s).setPorts x := by
  cases hq : s.cut.slit with
  | nil => simp [slitAttempt, hq]
  | cons front rest =>
    cases hr : s.slitReady front
    · simp [slitAttempt, hq, hr]
    · by_cases hl : (s.link .slit).state = .active ∧ (s.link .slit).op = none
      · simp only [slitAttempt, State.setPorts_cut, hq, State.setPorts_slitReady, hr, requestOp_taken _ _ _ _ s hl,
          requestOp_taken _ _ _ _ (s.setPorts x) hl]
        rfl
      · simp only [slitAttempt, State.setPorts_cut, hq, State.setPorts_slitReady, hr, requestOp_refused _ _ _ _ s hl,
          requestOp_refused _ _ _ _ (s.setPorts x) hl, if_true]

@[simp] theorem convertCuts_setPorts (t : Target) : convertCuts t (s.setPorts x) = (convertCuts t s).setPorts x := by
  rfl

@[simp] theorem handOn_setPorts (i : Nat) (t : Target) (d : Nat) :
    handOn i t d (s.setPorts x) = (handOn i t d s).setPorts x := by
  rfl

omit s in
@[simp] theorem disposeOver_setPorts (i : Nat) (ts : List Target) (s : State) :
    disposeOver i ts (s.setPorts x) = (disposeOver i ts s).setPorts x := by
  induction ts generalizing s with
  | nil => simp [disposeOver]
  | cons t ts ih =>
    cases h : s.entry t with
    | none => simp [disposeOver, h, ih]
    | some q =>
      by_cases hs : q.scrap.isSome
      · simp [disposeOver, h, hs, ih]
      · by_cases ha : q.slitter = .ahead
        · by_cases hd : q.headAt s.tracker.zones.slit = s.tracker.odometer <;> simp [disposeOver, h, hs, ha, hd, ih]
        · simp [disposeOver, h, hs, ha, ih]

@[simp] theorem disposeSlit_setPorts (t : Target) : disposeSlit t (s.setPorts x) = (disposeSlit t s).setPorts x := by
  cases h : s.unissuedOf t <;> simp [disposeSlit, h]

@[simp] theorem convertPanel_setPorts (t : Target) : convertPanel t (s.setPorts x) = (convertPanel t s).setPorts x := by
  simp [convertPanel]

@[simp] theorem scrapClaim_setPorts (t : Target) (r : ScrapReason) :
    scrapClaim t r (s.setPorts x) = (scrapClaim t r s).setPorts x := by
  cases h : s.entry t with
  | none => simp [scrapClaim, h]
  | some e =>
    by_cases hs : e.scrap.isSome
    · simp [scrapClaim, h, hs]
    · by_cases hp : e.phase = .committed ∨ e.phase = .atKnife <;> simp [scrapClaim, h, hs, hp]

@[simp] theorem moveFail_setPorts : moveFail (s.setPorts x) = (moveFail s).setPorts x := by
  cases h : s.cut.moveFlight with
  | none => simp [moveFail, h]
  | some m => cases ho : m.owner <;> simp [moveFail, h, ho]

@[simp] theorem cutRemoved_setPorts (t : Target) : cutRemoved t (s.setPorts x) = (cutRemoved t s).setPorts x := by
  cases h : s.cut.slit with
  | nil => simp [cutRemoved, h]
  | cons front rest => by_cases hf : front.issued ∧ front.owner = t <;> simp [cutRemoved, h, hf]

@[simp] theorem appendOutcome_setPorts (r : OutcomeRecord) :
    appendOutcome r (s.setPorts x) = (appendOutcome r s).setPorts x := by
  by_cases h : s.map.outcomes.length < Config.outcomeSize <;> simp [appendOutcome, h]

@[simp] theorem retire_setPorts (t : Target) : retire t (s.setPorts x) = (retire t s).setPorts x := by
  cases h : s.entry t <;> simp [retire, h]

@[simp] theorem retireIfDone_setPorts (t : Target) : retireIfDone t (s.setPorts x) = (retireIfDone t s).setPorts x := by
  cases h : s.entry t with
  | none => simp [retireIfDone, h]
  | some e => by_cases hd : e.tailCleared ∧ e.cutsPending = 0 <;> simp [retireIfDone, h, hd]

@[simp] theorem resolveCut_setPorts (t : Target) (m : Bool) :
    resolveCut t m (s.setPorts x) = (resolveCut t m s).setPorts x := by
  simp [resolveCut]

@[simp] theorem cutFail_setPorts : cutFail (s.setPorts x) = (cutFail s).setPorts x := by
  cases h : s.cut.cutFlight with
  | none => simp [cutFail, h]
  | some c => by_cases hk : c.kind = .cut <;> simp [cutFail, h, hk]

@[simp] theorem askerFail_setPorts (l : LinkId) : askerFail l (s.setPorts x) = (askerFail l s).setPorts x := by
  cases l <;> simp [askerFail]

@[simp] theorem reportFailure_setPorts (l : LinkId) : reportFailure l (s.setPorts x) = (reportFailure l s).setPorts x := by
  simp [reportFailure]

@[simp] theorem seekLock_setPorts : seekLock (s.setPorts x) = (seekLock s).setPorts x := by
  simp [seekLock, setLock, State.regLocked]

@[simp] theorem syncCrossings_setPorts (es : List MapEntry) :
    syncCrossings es (s.setPorts x) = (syncCrossings es s).setPorts x := by
  by_cases h : es.any s.tracker.syncPoint <;> simp [syncCrossings, syncPulse, h]

@[simp] theorem printLineCrossing_setPorts (t : Target) :
    printLineCrossing t (s.setPorts x) = (printLineCrossing t s).setPorts x := by
  simp [printLineCrossing, State.queueLow]
  rfl


end

end Sys2Proof.Machine
end

section
/-! What a step can do, in its smallest pieces. `LineMove` is what Line Control, the Hold Unit and the links do among
themselves; `InnerMove` adds what Laminator Control and the scrap claims do; `Move` adds what changes an entry's course. -/

namespace Sys2Proof.Machine

/-! ### The moves of the line, the holds and the links -/

/-- The line states in which the commanded speed is 0 (R139). -/
def LineState.atRest : LineState → Bool
  | .stopped | .arming | .held => true
  | .run | .halting | .stopping => false

/-- Line Control with its orders, its go flag, its emergency-stop input and the ramp timer's count changed. -/
def LineControl.SameCourse (k x : LineControl) : Prop :=
  x.state = k.state ∧ x.setSpeed = k.setSpeed ∧ x.target = k.target ∧ x.commanded = k.commanded ∧ x.ratio = k.ratio ∧
    x.rampTimer.isSome = k.rampTimer.isSome

/-- One move of the line, the holds or the links: no operation begins or ends by it. -/
inductive LineMove : State → State → Prop
  | raise (n : Notice) (s : State) : LineMove s (raiseNotice n s)
  /-- A link changed in its state, in order. -/
  | link (l : LinkId) (k : Link) (s : State) (hstate : k.state = (s.link l).state) (hop : k.op = (s.link l).op)
      (horder : (s.link l).InOrder → k.InOrder) : LineMove s (s.setLink l k)
  /-- A link that enters a state, in order. -/
  | enterLink (l : LinkId) (st : LinkState) (k : Link) (s : State) (hop : k.op = (s.link l).op)
      (horder : (s.link l).InOrder → Link.InOrder { k with state := st }) : LineMove s (enterLink l st (s.setLink l k))
  | orders (k : LineControl) (s : State) (hk : s.line.SameCourse k) : LineMove s (s.setLine k)
  /-- A line state entered: RUN over an empty stack (R140), a state of rest at commanded speed 0 or from another (R139). -/
  | enterLine (st : LineState) (s : State) (hrun : st = .run → s.hold.stack = [])
      (hrest : st.atRest = true → s.line.commanded = 0 ∨ s.line.state.atRest = true) : LineMove s (enterLine st s)
  | nip (t : Option Target) (s : State) : LineMove s (retarget (s.setLine { s.line with atNip := t }))
  | fault (reason : HoldReason) (detail : FaultDetail) (s : State) : LineMove s (faultHold reason detail s)

abbrev LineMoves : State → State → Prop := Relation.ReflTransGen LineMove

/-- A link of which only what is no part of R158's order has changed, or a count within its range. -/
theorem LineMoves.of_eq {s t : State} (h : t = s) : LineMoves s t := h ▸ .refl

theorem LineMove.moves {s t : State} (h : LineMove s t) : LineMoves s t := .single h

/-- The moves of a fold over the links are those of its steps. -/
theorem LineMoves.foldl {f : State → LinkId → State} (h : ∀ s l, LineMoves s (f s l)) (ls : List LinkId) (s : State) :
    LineMoves s (ls.foldl f s) := by
  induction ls generalizing s with
  | nil => exact .refl
  | cons l ls ih => exact (h s l).trans (ih (f s l))

/-! #### The links -/

/-- A link that waits DOWN, or wakes already, is woken. -/
theorem wakeLink_moves (l : LinkId) (s : State) (h : (s.link l).state = .down ∨ (s.link l).state = .waking) :
    LineMoves s (wakeLink l s) := by
  refine (LineMove.enterLink l .waking { s.link l with goGiven := false, faults := 0, wakeTimer := some Config.wakeMs } s rfl
    fun ho => ?_).moves
  rcases h with h | h <;> simp_all [Link.InOrder]

theorem giveGo_moves (l : LinkId) (s : State) : LineMoves s (giveGo l s) := by
  unfold giveGo
  split
  · next h =>
    refine (LineMove.link l { s.link l with goGiven := true, armTimer := some Config.armMs } s rfl rfl fun ho => ?_).moves
    simp_all [Link.InOrder]
  · exact .refl

/-- A link that has armed or is up, with nothing in flight, parks. -/
theorem parkLink_moves (l : LinkId) (s : State) (h : (s.link l).state = .armed ∨ (s.link l).state.carries = true)
    (hop : (s.link l).state ≠ .armed → (s.link l).op = none) : LineMoves s (parkLink l s) := by
  refine (LineMove.enterLink l .parking { s.link l with armTimer := none, flywheel := none, parkTimer := some Config.parkMs }
    s rfl fun ho => ?_).moves
  cases hs : (s.link l).state <;> simp_all [Link.InOrder, LinkState.carries]

/-! #### Line states -/

theorem enterLine_moves {st : LineState} {s : State} (hrun : st = .run → s.hold.stack = [])
    (hrest : st.atRest = true → s.line.commanded = 0 ∨ s.line.state.atRest = true) : LineMoves s (enterLine st s) :=
  (LineMove.enterLine st s hrun hrest).moves

theorem setOwed_moves (l : LinkId) (o : Owed) (s : State) : LineMoves s (s.setOwed l o) :=
  (LineMove.orders { s.line with owed := s.line.owed.set l o } s ⟨rfl, rfl, rfl, rfl, rfl, rfl⟩).moves

theorem parkOrOwe_moves (l : LinkId) (s : State) : LineMoves s (parkOrOwe l s) := by
  unfold parkOrOwe
  dsimp only
  split_ifs with harmed hcarries hop
  · exact parkLink_moves l s (.inl harmed) (fun h => absurd harmed h)
  · exact setOwed_moves l .park s
  · exact parkLink_moves l s (.inr hcarries) (fun _ => by simpa using hop)
  · exact .refl

theorem parkOrOwe_state (l : LinkId) (s : State) : (parkOrOwe l s).line.state = s.line.state := by
  unfold parkOrOwe
  dsimp only
  split_ifs <;> simp [State.setOwed]

theorem parkAll_moves (s : State) : LineMoves s (parkAll s) :=
  LineMoves.foldl (fun s l => parkOrOwe_moves l s) allLinks s

theorem settleAtRest_moves (s : State) : LineMoves s (settleAtRest s) := by
  unfold settleAtRest
  split
  · next h =>
    split
    · exact enterLine_moves (by simp) (fun _ => .inl h)
    · exact (enterLine_moves (by simp) (fun _ => .inl h)).trans (parkAll_moves _)
    · exact .refl
  · exact .refl

/-! #### Reports -/

theorem faultHold_moves (reason : HoldReason) (detail : FaultDetail) (s : State) :
    LineMoves s (faultHold reason detail s) := (LineMove.fault reason detail s).moves

/-- The entry into RUN over an empty stack, from HALTING, HELD or ARMING. -/
theorem runEntry_moves (s : State) (h : s.hold.stack = []) : LineMoves s (runEntry s) := by
  unfold runEntry
  split
  · refine (faultHold_moves .estop noDetail s).trans ?_
    dsimp only
    split
    · next harming => exact enterLine_moves (by simp) (fun _ => .inr (by rw [harming]; rfl))
    · exact .refl
  · exact enterLine_moves (fun _ => h) (by simp [LineState.atRest])

theorem dropWakes_moves (s : State) : LineMoves s (dropWakes s) :=
  (LineMove.orders { s.line with owed := s.line.owed.map (fun o => if o = .wake then .nothing else o) } s
    ⟨rfl, rfl, rfl, rfl, rfl, rfl⟩).moves

/-! A start that fails is an entry into STOPPED from ARMING, for the links' parking does not read the line's state. -/

/-- The line in another state, its level and target not told yet. -/
def State.inState (s : State) (st : LineState) : State := s.setLine { s.line with state := st }

theorem parkLink_inState (l : LinkId) (st : LineState) (s : State) :
    parkLink l (s.inState st) = (parkLink l s).inState st := by
  have hpass (u : State) (v : Bool) : passLevel (.linkUp l) v (u.inState st) = (passLevel (.linkUp l) v u).inState st := by
    have hraise (w : State) : raiseNotice (.linkUp l) (w.inState st) = (raiseNotice (.linkUp l) w).inState st := by
      by_cases h : (w.link l).state = .down
      · rw [raiseNotice_outside, raiseNotice_outside] <;> simp [State.inGroup, h]
        simpa [State.link, State.inState] using h
      · rw [raiseNotice_inside, raiseNotice_inside] <;> simp [State.inGroup, h]
        · rfl
        · simpa [State.link, State.inState] using h
    unfold passLevel
    by_cases h : u.level (.linkUp l) = v
    · rw [if_pos h, if_pos (by exact h)]
    · rw [if_neg h, if_neg (by exact h), ← hraise]
      rfl
  have hpark (u : State) :
      parkLink l u = passLevel (.linkUp l) false (u.setLink l { u.link l with
        armTimer := none, flywheel := none, parkTimer := some Config.parkMs, state := .parking }) := by
    unfold parkLink enterLink passLinkUp
    cases l <;> rfl
  rw [hpark, hpark, ← hpass]
  rfl

theorem parkOrOwe_inState (l : LinkId) (st : LineState) (s : State) :
    parkOrOwe l (s.inState st) = (parkOrOwe l s).inState st := by
  have hlink : (s.inState st).link l = s.link l := rfl
  unfold parkOrOwe
  dsimp only
  rw [hlink]
  split_ifs
  · exact parkLink_inState l st s
  · rfl
  · exact parkLink_inState l st s
  · rfl

theorem parkAll_inState (st : LineState) (s : State) : parkAll (s.inState st) = (parkAll s).inState st := by
  simp only [parkAll, allLinks, List.foldl, parkOrOwe_inState]

theorem startFailure_eq_enterLine (s : State) :
    startFailure s =
      enterLine .stopped (raiseNotice .lineStartFailed (parkAll (dropWakes (s.setLine { s.line with go := false })))) := by
  have hstate : dropWakes (s.setLine { s.line with state := .stopped, go := false }) =
      (dropWakes (s.setLine { s.line with go := false })).inState .stopped := rfl
  unfold startFailure
  dsimp only
  rw [hstate, parkAll_inState]
  rfl

theorem startFailure_moves (s : State) (h : s.line.state = .arming) : LineMoves s (startFailure s) := by
  rw [startFailure_eq_enterLine]
  have hgo := (LineMove.orders { s.line with go := false } s ⟨rfl, rfl, rfl, rfl, rfl, rfl⟩).moves
  refine ((hgo.trans (dropWakes_moves _)).trans (parkAll_moves _)).trans ?_
  refine (LineMove.raise .lineStartFailed _).moves.trans (enterLine_moves (by simp) fun _ => .inr ?_)
  simp [parkAll, allLinks, parkOrOwe_state, dropWakes, h, LineState.atRest]

theorem wakeOwed_moves (l : LinkId) (s : State) : LineMoves s (wakeOwed l s) := by
  unfold wakeOwed
  split
  · next h => exact (setOwed_moves l .nothing s).trans (wakeLink_moves l _ (.inl h.1))
  · exact .refl

theorem goReport_moves (l : LinkId) (s : State) : LineMoves s (goReport l s) := by
  unfold goReport
  split_ifs
  · exact giveGo_moves l s
  · refine (LineMove.orders { s.line with go := true } s ⟨rfl, rfl, rfl, rfl, rfl, rfl⟩).moves.trans ?_
    exact LineMoves.foldl (fun s l => giveGo_moves l s) allLinks (s.setLine { s.line with go := true })
  · exact .refl

theorem armedReport_moves (s : State) (h : s.line.state = .arming) : LineMoves s (armedReport s) := by
  unfold armedReport
  split
  · refine (LineMove.orders { s.line with go := false } s ⟨rfl, rfl, rfl, rfl, rfl, rfl⟩).moves.trans ?_
    dsimp only
    split
    · next hs => exact runEntry_moves _ hs
    · exact enterLine_moves (by simp) (fun _ => .inr (by simp [h, LineState.atRest]))
  · exact .refl

/-- Giving the go leaves the line as it is, and waking an owed link changes its orders alone. -/
theorem goReport_state (l : LinkId) (s : State) : (goReport l s).line.state = s.line.state := by
  unfold goReport
  split_ifs <;> simp [allLinks]

theorem wakeOwed_state (l : LinkId) (s : State) : (wakeOwed l s).line.state = s.line.state := by
  unfold wakeOwed
  split <;> simp [State.setOwed]

theorem linkReport_moves (l : LinkId) (old : LinkState) (w : Bool) (s : State) : LineMoves s (linkReport l old w s) := by
  unfold linkReport
  dsimp only
  split
  · next h =>
    split
    · exact startFailure_moves s h
    · exact ((wakeOwed_moves l s).trans (goReport_moves l _)).trans
        (armedReport_moves _ (by rw [goReport_state, wakeOwed_state, h]))
  · split
    · exact giveGo_moves l s
    · exact .refl
  · split
    · exact giveGo_moves l s
    · exact .refl
  · split
    · exact giveGo_moves l s
    · exact .refl
  · split
    · next h =>
      obtain ⟨hstate, hop⟩ := h
      refine parkLink_moves l s (hstate.imp_right fun ha => ?_) (fun _ => hop)
      rw [ha]
      rfl
    · exact .refl
  · exact .refl

/-- An owed park is served once nothing is in flight (R147). -/
theorem owedParkReport_moves (l : LinkId) (s : State) (hop : (s.link l).op = none) : LineMoves s (owedParkReport l s) := by
  unfold owedParkReport
  split
  · refine (setOwed_moves l .nothing s).trans ?_
    dsimp only
    split
    · next hc => exact parkLink_moves l _ (.inr hc) (fun _ => hop)
    · exact .refl
  · exact .refl

/-- A link that enters a state in order, with its report. -/
theorem moveLink_moves {l : LinkId} {st : LinkState} {w : Bool} {k : Link} {s : State} (hop : k.op = (s.link l).op)
    (horder : (s.link l).InOrder → Link.InOrder { k with state := st }) : LineMoves s (moveLink l st w (s.setLink l k)) :=
  (LineMove.enterLink l st k s hop horder).moves.trans (linkReport_moves _ _ _ _)

theorem State.setLink_self (s : State) (l : LinkId) : s.setLink l (s.link l) = s := by
  cases l <;> rfl

theorem parkAndReport_moves (l : LinkId) (w : Bool) (s : State)
    (h : (s.link l).state = .armed ∨ (s.link l).state.carries = true)
    (hop : (s.link l).state ≠ .armed → (s.link l).op = none) : LineMoves s (parkAndReport l w s) :=
  (parkLink_moves l s h hop).trans (linkReport_moves _ _ _ _)

theorem reportNip_moves (s : State) : LineMoves s (reportNip s) := by
  unfold reportNip
  dsimp only
  split
  · exact .refl
  · exact (LineMove.nip _ s).moves

end Sys2Proof.Machine
end

section
/-! What the moves of the line, the holds and the links keep: the order of the hold stack (R122, R124, R140), the Notice Unit's
settings and latched notices (R191, R193), the speeds (R148, R149), the raw levels (R189) and the links (R158). -/

namespace Sys2Proof.Machine

/-! ### The line after a push onto its stack -/

/-- A push onto the stack of a line in RUN, taken apart: HALTING, and HELD at commanded speed 0 (R140). -/
theorem haltReport_eq (s : State) (h : s.line.state = .run) (hs : s.hold.stack ≠ []) :
    haltReport s =
      if s.line.commanded = 0 then enterLine .held (enterLine .halting s) else enterLine .halting s := by
  obtain ⟨hstate, hcommanded, _⟩ := enterLine_line .halting s
  rw [haltReport, if_pos ⟨h, hs⟩, settleAtRest, hcommanded, hstate]

theorem takeFault_stack_ne (reason : HoldReason) (detail : FaultDetail) (s : State) :
    (takeFault reason detail s).hold.stack ≠ [] := by
  unfold takeFault
  split
  · split_ifs <;> simp_all [pushHold_stack]
  · simp [pushHold_stack]

/-- After a fault hold request the line is not in RUN (R126, R140). -/
theorem faultHold_not_run (reason : HoldReason) (detail : FaultDetail) (s : State) :
    (faultHold reason detail s).line.state ≠ .run := by
  have hraise : (faultHold reason detail s).line = (haltReport (takeFault reason detail s)).line := by simp [faultHold]
  rw [hraise]
  by_cases h : (takeFault reason detail s).line.state = .run
  · rw [haltReport_eq _ h (takeFault_stack_ne reason detail s)]
    split_ifs <;> simp [enterLine_line]
  · rwa [haltReport_of_not_run _ h]

/-! ### The Notice Unit -/

/-- The copy's ATTN tells whether a notice is both latched and unmasked (R193). -/
def NoticeCopy.Tells (c : NoticeCopy) : Prop := c.attn = (c.latched &&& ~~~ c.mask != 0)

theorem NoticeCopy.latch_tells (n : Nat) (c : NoticeCopy) (h : c.Tells) : (NoticeCopy.latch n c).Tells := by
  unfold NoticeCopy.latch
  split
  · rfl
  · exact h

/-- The copies carried on by raises alone: masks and options as they were, what was latched still latched, and ATTN telling
where it told. -/
structure State.Carries (s t : State) : Prop where
  settings : ∀ p, (t.notices.copies.get p).mask = (s.notices.copies.get p).mask ∧
    (t.notices.copies.get p).latchMasked = (s.notices.copies.get p).latchMasked
  latched : ∀ p m, m < 25 → (s.notices.copies.get p).latched.getLsbD m = true →
    (t.notices.copies.get p).latched.getLsbD m = true
  tells : ∀ p, (s.notices.copies.get p).Tells → (t.notices.copies.get p).Tells

theorem State.Carries.of_eq {s t : State} (h : t.notices = s.notices) : s.Carries t := by
  constructor <;> intros <;> simp_all

theorem State.Carries.refl (s : State) : s.Carries s := .of_eq rfl

theorem State.Carries.trans {s t u : State} (h : s.Carries t) (k : t.Carries u) : s.Carries u where
  settings p := ⟨(k.settings p).1.trans (h.settings p).1, (k.settings p).2.trans (h.settings p).2⟩
  latched p m hm hl := k.latched p m hm (h.latched p m hm hl)
  tells p ht := k.tells p (h.tells p ht)

/-- Notices carried on from a state with the same ones. -/
theorem State.Carries.of_notices {s t u : State} (h : t.Carries u) (hnotices : t.notices = s.notices) : s.Carries u :=
  State.Carries.trans (.of_eq hnotices) h

theorem State.Carries.of_copies {s t : State} (n : Nat)
    (h : t.notices.copies = s.notices.copies ∨ t.notices.copies = s.notices.copies.map (NoticeCopy.latch n)) :
    s.Carries t := by
  rcases h with h | h
  · constructor <;> intros <;> simp_all
  · constructor <;> intro p
    · rw [h, PerPort.get_map]
      exact NoticeCopy.latch_settings _ _
    · intro m hm hl
      rw [h, PerPort.get_map]
      exact NoticeCopy.latch_keeps _ _ _ hm hl
    · intro ht
      rw [h, PerPort.get_map]
      exact NoticeCopy.latch_tells _ _ ht

theorem raiseNotice_carries (n : Notice) (s : State) : s.Carries (raiseNotice n s) := .of_copies _ (raiseNotice_copies n s)

theorem passLevel_carries (n : Notice) (v : Bool) (s : State) : s.Carries (passLevel n v s) :=
  .of_copies _ (passLevel_copies n v s)

theorem setSpeeds_carries (c t : Nat) (s : State) : s.Carries (setSpeeds c t s) := by
  by_cases h : s.line.commanded ≠ s.line.target ∧ c = t
  · rw [setSpeeds, if_pos h]
    exact .trans (.of_eq (by rw [State.setLine_notices])) (raiseNotice_carries _ _)
  · rw [setSpeeds, if_neg h]
    exact .of_eq rfl

theorem retarget_carries (s : State) : s.Carries (retarget s) :=
  .trans (.of_eq (by simp)) (setSpeeds_carries _ _ (s.setLine { s.line with ratio := s.ratioAtNip }))

theorem enterLine_carries (st : LineState) (s : State) : s.Carries (enterLine st s) :=
  .trans (.trans (.of_eq (by simp)) (passLevel_carries .lineState _ (s.setLine { s.line with state := st })))
    (retarget_carries _)

theorem haltReport_carries (s : State) : s.Carries (haltReport s) := by
  by_cases h : s.line.state = .run ∧ s.hold.stack ≠ []
  · rw [haltReport_eq s h.1 h.2]
    split_ifs
    · exact (enterLine_carries _ _).trans (enterLine_carries _ _)
    · exact enterLine_carries _ _
  · rw [haltReport, if_neg h]
    exact .refl s

theorem takeFault_carries (reason : HoldReason) (detail : FaultDetail) (s : State) :
    s.Carries (takeFault reason detail s) := .of_eq (by simp)

theorem faultHold_carries (reason : HoldReason) (detail : FaultDetail) (s : State) :
    s.Carries (faultHold reason detail s) :=
  .trans (.trans (.trans (takeFault_carries reason detail s) (haltReport_carries _)) (passLevel_carries _ _ _))
    (raiseNotice_carries _ _)

theorem LineMove.carries {s t : State} (h : LineMove s t) : s.Carries t := by
  cases h with
  | raise n => exact raiseNotice_carries n s
  | link l k => exact .of_eq (by simp)
  | enterLink l st k => exact .trans (.of_eq (by simp)) (passLevel_carries (.linkUp l) _ _)
  | orders k => exact .of_eq (by simp)
  | enterLine st => exact enterLine_carries st s
  | nip t => exact .trans (.of_eq (by simp)) (retarget_carries _)
  | fault reason detail => exact faultHold_carries reason detail s

/-- What each of the pieces keeps, the moves they make up keep. -/
theorem LineMoves.keep {P : State → Prop} (hP : ∀ {s t}, LineMove s t → P s → P t) {s t : State} (h : LineMoves s t)
    (hs : P s) : P t := by
  induction h with
  | refl => exact hs
  | tail _ hmove ih => exact hP hmove ih

theorem LineMoves.carries {s t : State} (h : LineMoves s t) : s.Carries t :=
  h.keep (P := s.Carries) (fun hm hc => hc.trans hm.carries) (.refl s)

/-! ### Hold numbers (R124) -/

/-- The k-th hold number after n, counting from 0. -/
def numberOn (n k : Nat) : Nat := (n + k) % 255 + 1

theorem numberAfter_numberOn (n k : Nat) : numberAfter (numberOn n k) = numberOn n (k + 1) := by
  unfold numberAfter numberOn
  split <;> omega

theorem numberAfter_eq_numberOn {n : Nat} (h : n ≤ 255) : numberAfter n = numberOn n 0 := by
  unfold numberAfter numberOn
  split <;> omega

/-- Of more numbers in a row than a stack has records, fewer than 256, one is no record's. -/
theorem exists_numberOn_not_mem (n : Nat) (held : List Nat) (h : held.length < 255) :
    ∃ k ≤ held.length, numberOn n k ∉ held := by
  by_contra hall
  push Not at hall
  have hnodup : ((List.range (held.length + 1)).map (numberOn n)).Nodup := by
    refine List.Nodup.map_on ?_ List.nodup_range
    intro i hi j hj hij
    simp only [List.mem_range] at hi hj
    unfold numberOn at hij
    omega
  have hsub : (List.range (held.length + 1)).map (numberOn n) ⊆ held := by
    intro m hm
    obtain ⟨k, hk, rfl⟩ := List.mem_map.1 hm
    exact hall k (Nat.lt_succ_iff.1 (List.mem_range.1 hk))
  have hlength := (hnodup.subperm hsub).length_le
  simp at hlength

/-- Going on past the numbers held finds the first that is not, in the order of the numbers. -/
theorem skipHeld_eq_find? (held : List Nat) (n : Nat) (fuel j : Nat) (h : ∃ k ≤ fuel, numberOn n (j + k) ∉ held) :
    some (skipHeld held fuel (numberOn n j)) =
      ((List.range' j (fuel + 1)).map (numberOn n)).find? (fun m => !held.contains m) := by
  induction fuel generalizing j with
  | zero =>
    obtain ⟨k, hk, hmem⟩ := h
    obtain rfl : k = 0 := by omega
    simp_all [skipHeld]
  | succ fuel ih =>
    rw [List.range'_succ, List.map_cons, List.find?_cons, skipHeld]
    by_cases hj : numberOn n j ∈ held
    · have hrest : ∃ k ≤ fuel, numberOn n (j + 1 + k) ∉ held := by
        obtain ⟨k, hk, hmem⟩ := h
        match k with
        | 0 => exact absurd hj hmem
        | k + 1 => exact ⟨k, by omega, by rwa [Nat.add_right_comm]⟩
      simpa [hj, numberAfter_numberOn] using ih (j + 1) hrest
    · simp [hj]

theorem skipHeld_eq_numberFollowing (n : Nat) (stack : List HoldRecord) (hn : n ≤ 255) (h : stack.length < 255) :
    some (skipHeld (stack.map (fun r => r.number)) stack.length (numberAfter n)) = numberFollowing n stack := by
  have hfind := skipHeld_eq_find? (stack.map (fun r => r.number)) n stack.length 0
    (by simpa using exists_numberOn_not_mem n (stack.map (fun r => r.number)) (by simpa using h))
  rw [numberAfter_eq_numberOn hn, hfind, numberFollowing, ← List.range_eq_range']
  congr 1
  funext m
  rw [Bool.eq_iff_iff]
  simp

/-- The number that follows is a hold number that no record of the stack carries. -/
theorem skipHeld_spec (n : Nat) (stack : List HoldRecord) (hn : n ≤ 255) (h : stack.length < 255) :
    let m := skipHeld (stack.map (fun r => r.number)) stack.length (numberAfter n)
    m ∉ stack.map (fun r => r.number) ∧ 1 ≤ m ∧ m ≤ 255 := by
  have hfind := (skipHeld_eq_numberFollowing n stack hn h).symm
  have hfree := List.find?_some hfind
  have hmem := List.mem_of_find?_eq_some hfind
  simp only [List.mem_map] at hmem ⊢
  obtain ⟨k, -, hk⟩ := hmem
  refine ⟨fun hheld => ?_, by omega, by omega⟩
  obtain ⟨r, hr, heq⟩ := hheld
  simp only [List.all_eq_true, decide_eq_true_eq] at hfree
  exact hfree r hr heq

/-! ### The hold stack in order -/

/-- The Hold Unit as R122 and R124 say. -/
abbrev HoldUnit.InOrder (k : HoldUnit) : Prop :=
  k.stack.length ≤ 4 ∧ (∀ r ∈ k.stack.head?, r.tag = .active) ∧ k.numbers.Nodup ∧ k.nextNumber ∉ k.numbers ∧
    1 ≤ k.nextNumber ∧ k.nextNumber ≤ 255

theorem holdsInOrder_iff (s : State) : HoldsInOrder s ↔ s.hold.InOrder := Iff.rfl

theorem pushHold_inOrder (o : HoldOwner) (reason : HoldReason) (detail : FaultDetail) (s : State) (h : s.hold.InOrder)
    (hroom : s.hold.stack.length < 4) : (pushHold o reason detail s).hold.InOrder := by
  obtain ⟨hlength, htop, hnodup, hnext, hlow, hhigh⟩ := h
  obtain ⟨hstack, -⟩ := pushHold_stack o reason detail s
  have hspec := skipHeld_spec s.hold.nextNumber (pushHold o reason detail s).hold.stack hhigh (by rw [hstack]; simp; omega)
  refine ⟨by rw [hstack]; simp; omega, ?_, ?_, hspec.1, hspec.2⟩
  · rw [hstack]
    simp
  · rw [HoldUnit.numbers, hstack, List.map_cons]
    exact List.nodup_cons.2 ⟨hnext, hnodup⟩

theorem takeFault_inOrder (reason : HoldReason) (detail : FaultDetail) (s : State) (h : s.hold.InOrder) :
    (takeFault reason detail s).hold.InOrder := by
  unfold takeFault
  split
  · next r rest hstack =>
    split_ifs with hagain hroom
    · obtain ⟨hlength, htop, hnodup, hnext, hrange⟩ := h
      rw [HoldUnit.numbers, hstack] at hnodup
      simp_all [HoldRecord.repeat, HoldUnit.InOrder, HoldUnit.numbers]
    · exact pushHold_inOrder _ _ _ s h hroom
    · exact h
  · next hstack => exact pushHold_inOrder _ _ _ s h (by simp [hstack])

theorem haltReport_not_run (s : State) (hs : s.hold.stack ≠ []) : (haltReport s).line.state ≠ .run := by
  by_cases h : s.line.state = .run
  · rw [haltReport_eq s h hs]
    split_ifs <;> simp [enterLine_line]
  · rwa [haltReport_of_not_run s h]

/-- The line runs only over an empty stack, and the stack is in order. -/
abbrev HoldsKept (s : State) : Prop := RunsWithoutHolds s ∧ HoldsInOrder s

theorem HoldsKept.of_eq {s t : State} (hstate : t.line.state = s.line.state) (hhold : t.hold = s.hold)
    (h : HoldsKept s) : HoldsKept t := by
  unfold HoldsKept RunsWithoutHolds HoldsInOrder
  rwa [hstate, hhold]

theorem enterLine_holdsKept {st : LineState} {s : State} (hrun : st = .run → s.hold.stack = []) (h : HoldsKept s) :
    HoldsKept (enterLine st s) := by
  have hhold : (enterLine st s).hold = s.hold := by simp
  refine ⟨fun hst => ?_, ?_⟩
  · rw [(enterLine_line st s).1] at hst
    rw [hhold]
    exact hrun hst
  · unfold HoldsInOrder
    rw [hhold]
    exact h.2

theorem faultHold_hold (reason : HoldReason) (detail : FaultDetail) (s : State) :
    (faultHold reason detail s).hold = (takeFault reason detail s).hold := by simp [faultHold]

theorem LineMove.holdsKept {s t : State} (h : LineMove s t) (hs : HoldsKept s) : HoldsKept t := by
  cases h with
  | raise n => exact hs.of_eq (by simp) (by simp)
  | link l k => exact hs.of_eq (by simp) (by simp)
  | enterLink l st k => exact hs.of_eq (by simp) (by simp)
  | orders k _ hk => exact hs.of_eq (by simp [hk.1]) (by simp)
  | enterLine st _ hrun _ => exact enterLine_holdsKept hrun hs
  | nip t => exact hs.of_eq (by simp [retarget_line]) (by simp)
  | fault reason detail =>
    refine ⟨fun hrun => absurd hrun (faultHold_not_run reason detail s), ?_⟩
    rw [holdsInOrder_iff, faultHold_hold]
    exact takeFault_inOrder reason detail s hs.2

/-! ### The speeds -/

theorem SpeedsInOrder.of_eq {s t : State} (hline : t.line = s.line) (hplans : t.plans = s.plans) (h : SpeedsInOrder s) :
    SpeedsInOrder t := by
  unfold SpeedsInOrder
  rwa [hline, hplans]

/-- The ratio read at the nip is a percentage where the plans' are. -/
theorem ratioAtNip_le (s : State) (h : ∀ q ∈ s.plans.plans, q.ratio ≤ 100) : s.ratioAtNip ≤ 100 := by
  unfold State.ratioAtNip
  split
  · rfl
  · split
    · rfl
    · split
      · rfl
      · next hq => exact h _ (List.mem_of_find?_eq_some hq)

theorem goal_le (k : LineControl) (h : k.ratio ≤ 100) : k.goal ≤ k.setSpeed := by
  have hmul : k.setSpeed * k.ratio ≤ k.setSpeed * 100 := Nat.mul_le_mul_left _ h
  unfold LineControl.goal
  split <;> omega

/-- What is asked of the line before a new target is reckoned: all of the order but what is said of the target. -/
structure SpeedsReady (s : State) : Prop where
  timer : s.line.commanded ≠ s.line.target → s.line.rampTimer.isSome
  commanded : s.line.commanded ≤ s.line.setSpeed
  set : s.line.setSpeed ≤ 1000
  rest : s.line.state.atRest = true → s.line.commanded = 0
  ratios : ∀ q ∈ s.plans.plans, q.ratio ≤ 100

theorem SpeedsReady.of_eq {s t : State} (hline : t.line = s.line) (hplans : t.plans = s.plans) (h : SpeedsReady s) :
    SpeedsReady t := by
  obtain ⟨h1, h2, h3, h4, h5⟩ := h
  exact ⟨by rwa [hline], by rwa [hline], by rwa [hline], by rwa [hline], by rwa [hplans]⟩

theorem LineState.atRest_iff (st : LineState) : st.atRest = true ↔ st = .stopped ∨ st = .arming ∨ st = .held := by
  cases st <;> simp [LineState.atRest]

theorem SpeedsInOrder.ready {s : State} (h : SpeedsInOrder s) : SpeedsReady s := by
  obtain ⟨htimer, hc, -, hset, -, hrest, -, hplans⟩ := h
  exact ⟨htimer.2, hc, hset, fun hr => hrest ((LineState.atRest_iff _).1 hr), hplans⟩

/-- A new target puts the speeds in order (R148, R149). -/
theorem retarget_speedsInOrder {s : State} (h : SpeedsReady s) : SpeedsInOrder (retarget s) := by
  obtain ⟨hstate, hset, hcommanded, -, htarget⟩ := retarget_line s
  have hratio := ratioAtNip_le s h.ratios
  have hr : (retarget s).line.ratio = s.ratioAtNip := by simp [retarget, setSpeeds_line]
  have htimer : (retarget s).line.rampTimer.isSome ↔ (retarget s).line.commanded ≠ (retarget s).line.target := by
    rw [hcommanded, htarget]
    exact setSpeeds_timer _ _ (s.setLine { s.line with ratio := s.ratioAtNip }) h.timer
  refine ⟨htimer, by rw [hcommanded, hset]; exact h.commanded, ?_, by rw [hset]; exact h.set, fun hrun => ?_, fun hrest => ?_,
    by rw [hr]; exact hratio, by simpa using h.ratios⟩
  · rw [htarget, hset]
    exact goal_le { s.line with ratio := s.ratioAtNip } hratio
  · rw [htarget]
    exact LineControl.goal_of_not_run _ (by rwa [hstate] at hrun)
  · rw [hcommanded]
    exact h.rest ((LineState.atRest_iff _).2 (by rwa [hstate] at hrest))

theorem enterLine_speedsInOrder {st : LineState} {s : State}
    (hrest : st.atRest = true → s.line.commanded = 0 ∨ s.line.state.atRest = true) (h : SpeedsReady s) :
    SpeedsInOrder (enterLine st s) := by
  refine retarget_speedsInOrder (SpeedsReady.of_eq (s := s.setLine { s.line with state := st }) (by simp) (by simp) ?_)
  exact ⟨h.timer, h.commanded, h.set, fun hr => (hrest hr).elim id h.rest, h.ratios⟩

theorem haltReport_speedsInOrder {s : State} (h : SpeedsInOrder s) : SpeedsInOrder (haltReport s) := by
  by_cases hrun : s.line.state = .run ∧ s.hold.stack ≠ []
  · have hhalting := enterLine_speedsInOrder (st := .halting) (s := s) (by simp [LineState.atRest]) h.ready
    rw [haltReport_eq s hrun.1 hrun.2]
    split_ifs with h0
    · exact enterLine_speedsInOrder (fun _ => .inl (by rw [(enterLine_line _ _).2.1, h0])) hhalting.ready
    · exact hhalting
  · rwa [haltReport, if_neg hrun]

theorem takeFault_speedsInOrder {reason : HoldReason} {detail : FaultDetail} {s : State} (h : SpeedsInOrder s) :
    SpeedsInOrder (takeFault reason detail s) := h.of_eq (by simp) (by simp)

theorem LineMove.speedsInOrder {s t : State} (h : LineMove s t) (hs : SpeedsInOrder s) : SpeedsInOrder t := by
  cases h with
  | raise n => exact hs.of_eq (by simp) (by simp)
  | link l k => exact hs.of_eq (by simp) (by simp)
  | enterLink l st k => exact hs.of_eq (by simp) (by simp)
  | orders k _ hk =>
    obtain ⟨hstate, hset, htarget, hcommanded, hratio, htimer⟩ := hk
    unfold SpeedsInOrder
    simpa only [State.setLine_line, State.setLine_plans, hstate, hset, htarget, hcommanded, hratio, htimer] using hs
  | enterLine st _ _ hrest => exact enterLine_speedsInOrder hrest hs.ready
  | nip t => exact retarget_speedsInOrder ⟨hs.ready.timer, hs.ready.commanded, hs.ready.set, hs.ready.rest, hs.ready.ratios⟩
  | fault reason detail =>
    have htake := haltReport_speedsInOrder (takeFault_speedsInOrder (reason := reason) (detail := detail) hs)
    exact htake.of_eq (by simp [faultHold]) (by simp [faultHold])

/-! ### The raw levels -/

/-- The raw level of a level notice as its block computes it (R189); no other notice has one. -/
def State.raw (s : State) : Notice → Option Bool
  | .lineState => some s.lineUp
  | .holdActive => some s.holdActive
  | .regLock => some s.regLocked
  | .filmLow => some s.filmLow
  | .nearFull => some s.nearFull
  | .queueLow => some s.queueLow
  | .linkUp l => some (s.linkUp l)
  | _ => none

/-- The level held of a notice is its block's. -/
def State.Agrees (s : State) (n : Notice) : Prop := ∀ v ∈ s.raw n, s.level n = v

theorem levelsAgree_iff (s : State) : LevelsAgree s ↔ NamesApart s.map ∧ ∀ n, s.Agrees n := by
  refine ⟨fun h => ⟨h.1, fun n => ?_⟩, fun h => ⟨h.1, ?_⟩⟩
  · obtain ⟨-, hline, hhold, hreg, hfilm, hfull, hqueue, hlinks⟩ := h
    unfold State.Agrees
    cases n with
    | linkUp l => simpa [State.raw] using hlinks l (by cases l <;> simp [allLinks])
    | _ => simp_all [State.raw]
  · refine ⟨?_, ?_, ?_, ?_, ?_, ?_, fun l _ => ?_⟩
    · exact h.2 .lineState _ rfl
    · exact h.2 .holdActive _ rfl
    · exact h.2 .regLock _ rfl
    · exact h.2 .filmLow _ rfl
    · exact h.2 .nearFull _ rfl
    · exact h.2 .queueLow _ rfl
    · exact h.2 (.linkUp l) _ rfl

/-- The level notices by their numbers. -/
theorem number_inj_of_raw {s : State} {n m : Notice} (hn : (s.raw n).isSome) (hm : (s.raw m).isSome)
    (h : n.number = m.number) : n = m := by
  cases n with
  | linkUp l => cases m with
    | linkUp k => revert h; cases l <;> cases k <;> simp [Notice.number, linkNumber]
    | _ => revert h hm; cases l <;> simp [Notice.number, linkNumber, State.raw]
  | _ => cases m with
    | linkUp k => revert h hn; cases k <;> simp [Notice.number, linkNumber, State.raw]
    | _ => revert h hn hm; simp [Notice.number, State.raw]

theorem number_lt_of_raw {s : State} {n : Notice} (hn : (s.raw n).isSome) : n.number < 10 := by
  revert hn
  cases n with
  | linkUp l => cases l <;> simp [Notice.number, linkNumber]
  | _ => simp [Notice.number, State.raw]

theorem State.Agrees.of_eq {s t : State} {n : Notice} (h : s.Agrees n) (hraw : t.raw n = s.raw n)
    (hlevel : t.level n = s.level n) : t.Agrees n := by
  unfold State.Agrees
  rwa [hraw, hlevel]

/-- A level that is passed agrees with its block, and the others are left. -/
theorem passLevel_agrees {n m : Notice} {v : Bool} {s : State} (hv : s.raw n = some v) (h : m ≠ n → s.Agrees m) :
    (passLevel n v s).Agrees m := by
  have hraw : (passLevel n v s).raw m = s.raw m := by
    rw [passLevel_eq_withNotices]
    cases m <;> rfl
  intro w hw
  rw [hraw] at hw
  by_cases hm : m = n
  · subst hm
    obtain rfl : v = w := by simpa [hv] using hw
    exact passLevel_level _ _ _ (number_lt_of_raw (s := s) (by simp [hv]))
  · have hmraw : (s.raw m).isSome := by
      rw [Option.mem_def.1 hw]
      rfl
    rw [passLevel_other _ _ _ _ (number_lt_of_raw hmraw)]
    · exact h hm w hw
    · exact fun hnum => hm (number_inj_of_raw hmraw (by simp [hv]) hnum)

/-- What the levels of the line, the holds and the links are reckoned from, and the rest, which no move of theirs touches. -/
theorem State.raw_congr {s t : State} (n : Notice) (hline : n = .lineState → t.lineUp = s.lineUp)
    (hhold : n = .holdActive → t.holdActive = s.holdActive) (hlinks : ∀ l, n = .linkUp l → t.linkUp l = s.linkUp l)
    (hreg : t.reg = s.reg) (hlam : t.lam = s.lam) (hmap : t.map = s.map) : t.raw n = s.raw n := by
  cases n <;>
    simp_all [State.raw, State.regLocked, State.filmLow, State.nearFull, State.queueLow]

theorem linkUp_setLink_of_ne (s : State) {l m : LinkId} (h : m ≠ l) (k : Link) :
    (s.setLink l k).linkUp m = s.linkUp m := by
  unfold State.linkUp
  rw [State.setLink_link_of_ne _ _ _ _ h]

theorem setSpeeds_level (c t : Nat) (s : State) (n : Notice) : (setSpeeds c t s).level n = s.level n := by
  unfold setSpeeds
  dsimp only
  split_ifs
  · rw [raiseNotice_level]
    rfl
  all_goals rfl

theorem retarget_level (s : State) (n : Notice) : (retarget s).level n = s.level n := setSpeeds_level _ _ _ n

theorem raiseNotice_raw (n m : Notice) (s : State) : (raiseNotice n s).raw m = s.raw m := by
  rw [raiseNotice_eq_withNotices]
  cases m <;> rfl

theorem raiseNotice_agrees {n m : Notice} {s : State} (h : s.Agrees m) : (raiseNotice n s).Agrees m :=
  h.of_eq (raiseNotice_raw n m s) (raiseNotice_level n m s)

theorem retarget_raw (s : State) (m : Notice) : (retarget s).raw m = s.raw m :=
  State.raw_congr m (fun _ => by simp [State.lineUp, retarget_line]) (fun _ => by simp [State.holdActive])
    (fun l _ => by simp [State.linkUp, State.link]) (by simp) (by simp) (by simp)

theorem enterLine_agrees {st : LineState} {m : Notice} {s : State} (h : m ≠ .lineState → s.Agrees m) :
    (enterLine st s).Agrees m := by
  refine State.Agrees.of_eq (passLevel_agrees rfl fun hm => ?_) (retarget_raw _ m) (retarget_level _ m)
  refine (h hm).of_eq (State.raw_congr m (fun hl => absurd hl hm) ?_ ?_ rfl rfl rfl) rfl <;> intros <;> rfl

theorem enterLink_agrees {l : LinkId} {st : LinkState} {m : Notice} {s : State} (h : m ≠ .linkUp l → s.Agrees m) :
    (enterLink l st s).Agrees m := by
  refine passLevel_agrees rfl fun hm => ?_
  refine (h hm).of_eq (State.raw_congr m (fun _ => rfl) (fun _ => rfl) (fun k hk => ?_) rfl rfl rfl) rfl
  have hne : k ≠ l := fun hkl => hm (by rw [hk, hkl])
  exact linkUp_setLink_of_ne s hne _

theorem haltReport_agrees {m : Notice} {s : State} (h : s.Agrees m) : (haltReport s).Agrees m := by
  by_cases hrun : s.line.state = .run ∧ s.hold.stack ≠ []
  · rw [haltReport_eq s hrun.1 hrun.2]
    split_ifs
    · exact enterLine_agrees fun _ => enterLine_agrees fun _ => h
    · exact enterLine_agrees fun _ => h
  · rwa [haltReport, if_neg hrun]

theorem faultHold_agrees {reason : HoldReason} {detail : FaultDetail} {m : Notice} {s : State}
    (h : m ≠ .holdActive → s.Agrees m) : (faultHold reason detail s).Agrees m := by
  refine raiseNotice_agrees (passLevel_agrees rfl fun hm => haltReport_agrees ?_)
  refine (h hm).of_eq (State.raw_congr m (fun _ => ?_) (fun hh => absurd hh hm) (fun l _ => ?_) (by simp) (by simp) (by simp)) ?_
  · simp [State.lineUp]
  · simp [State.linkUp, State.link]
  · simp [State.level]

theorem LineMove.agrees {s t : State} {n : Notice} (h : LineMove s t) (hs : s.Agrees n) : t.Agrees n := by
  cases h with
  | raise m => exact raiseNotice_agrees hs
  | link l k _ hstate =>
    refine hs.of_eq (State.raw_congr n (fun _ => rfl) (fun _ => rfl) (fun m _ => ?_) rfl rfl rfl) rfl
    by_cases hm : m = l
    · subst hm
      simp [State.linkUp, hstate]
    · exact linkUp_setLink_of_ne s hm k
  | enterLink l st k =>
    refine enterLink_agrees fun hn => ?_
    refine hs.of_eq (State.raw_congr n (fun _ => rfl) (fun _ => rfl) (fun m hm => ?_) rfl rfl rfl) rfl
    have hne : m ≠ l := fun hml => hn (by rw [hm, hml])
    exact linkUp_setLink_of_ne s hne _
  | orders k _ hk =>
    refine hs.of_eq (State.raw_congr n (fun _ => ?_) ?_ ?_ rfl rfl rfl) rfl
    · simp [State.lineUp, hk.1]
    all_goals intros; rfl
  | enterLine st => exact enterLine_agrees fun _ => hs
  | nip t =>
    refine State.Agrees.of_eq ?_ (retarget_raw _ n) (retarget_level _ n)
    refine hs.of_eq (State.raw_congr n ?_ ?_ ?_ rfl rfl rfl) rfl <;> intros <;> rfl
  | fault reason detail => exact faultHold_agrees fun _ => hs

/-! ### The links and their operations -/

theorem LineMove.linksInOrder {s t : State} (h : LineMove s t) (hs : ∀ l, (s.link l).InOrder) (l : LinkId) :
    (t.link l).InOrder := by
  have hsame (h : t.links = s.links) : (t.link l).InOrder := by
    unfold State.link
    rw [h]
    exact hs l
  cases h with
  | raise n => exact hsame (by simp)
  | link m k _ _ _ horder =>
    by_cases hl : l = m
    · subst hl
      rw [State.setLink_link_self]
      exact horder (hs l)
    · rw [State.setLink_link_of_ne _ _ _ _ hl]
      exact hs l
  | enterLink m st k _ _ horder =>
    rw [Machine.enterLink, passLinkUp, State.link, (passLevel_frame _ _ _).2.2.2.2.2.2.1, ← State.link]
    by_cases hl : l = m
    · subst hl
      rw [State.setLink_link_self, State.setLink_link_self]
      exact horder (hs l)
    · rw [State.setLink_link_of_ne _ _ _ _ hl, State.setLink_link_of_ne _ _ _ _ hl]
      exact hs l
  | orders k => exact hs l
  | enterLine st => exact hsame (by simp)
  | nip t => exact hsame (by simp)
  | fault reason detail =>
    refine hsame ?_
    have htake : (takeFault reason detail s).links = s.links := by simp
    have hhalt : (haltReport (takeFault reason detail s)).links = (takeFault reason detail s).links := by
      by_cases hrun : (takeFault reason detail s).line.state = .run
      · rw [haltReport_eq _ hrun (takeFault_stack_ne reason detail s)]
        split_ifs <;> simp
      · rw [haltReport_of_not_run _ hrun]
    simp [faultHold, hhalt]

end Sys2Proof.Machine
end

section
/-! What a step can do, one level up: the moves of Laminator Control and of the scrap claims, with those of the line. None of
them adds or removes an entry or touches what fixes its course. -/

namespace Sys2Proof.Machine

/-! ### What fixes an entry's course -/

/-- What of an entry only its own crossings and its retirement touch: name, place, plan, phase, cuts pending and window. -/
structure Course where
  target : Target
  head : Nat
  length : Nat
  plan : Nat
  phase : Phase
  cutsPending : Nat
  window : Option Window

def MapEntry.course (e : MapEntry) : Course :=
  { target := e.target, head := e.head, length := e.length, plan := e.plan, phase := e.phase, cutsPending := e.cutsPending
    window := e.window }

def State.courses (s : State) : List Course := s.map.entries.map MapEntry.course

theorem State.courses_modifyEntry (s : State) (t : Target) {f : MapEntry → MapEntry} (hf : ∀ e, (f e).course = e.course) :
    (s.modifyEntry t f).courses = s.courses := by
  rw [State.courses, State.modifyEntry_entries, updateEntry, List.map_map]
  refine List.map_congr_left fun e _ => ?_
  rw [Function.comp_apply]
  split
  · exact hf e
  · rfl

/-! ### The moves -/

/-- One move of Laminator Control, of a scrap claim or of the line. -/
inductive InnerMove : State → State → Prop
  | line {s t : State} (h : LineMove s t) : InnerMove s t
  /-- Laminator Control changed in neither its operation nor its film. -/
  | lam (x : Laminator) (s : State) (hop : x.op.isSome = s.lam.op.isSome) (hremaining : x.remaining = s.lam.remaining)
      (hlow : x.filmLow = s.lam.filmLow) : InnerMove s (s.setLam x)
  /-- Its film changed, with FILM_LOW passed (R84). -/
  | film (x : Laminator) (s : State) (hop : x.op.isSome = s.lam.op.isSome) :
      InnerMove s (passLevel .filmLow (s.setLam x).filmLow (s.setLam x))
  | issue (o : LamOp) (s : State) (hop : s.lam.op = none) : InnerMove s (issueNip o s)
  | entry (t : Target) (f : MapEntry → MapEntry) (s : State) (hf : ∀ e, (f e).course = e.course) :
      InnerMove s (s.modifyEntry t f)
  | reprint (r : ReprintRecord) (s : State) (hroom : s.map.reprints.length < 16) :
      InnerMove s (s.setMap { s.map with reprints := s.map.reprints ++ [r] })
  /-- Cut Control's queues changed in the kinds of their cuts and in their slit entries. -/
  | queues (x : CutControl) (s : State) (howners : x.xcut.map (fun c => c.owner) = s.cut.xcut.map (fun c => c.owner))
      (hslit : x.slit.length ≤ s.cut.slit.length) (hcut : x.cutFlight = s.cut.cutFlight)
      (hmove : x.moveFlight.isSome = s.cut.moveFlight.isSome) : InnerMove s (s.setCut x)
  | attempt (s : State) : InnerMove s (slitAttempt s)

abbrev InnerMoves : State → State → Prop := Relation.ReflTransGen InnerMove

theorem InnerMove.moves {s t : State} (h : InnerMove s t) : InnerMoves s t := .single h

theorem LineMoves.inner {s t : State} (h : LineMoves s t) : InnerMoves s t := by
  induction h with
  | refl => exact .refl
  | tail _ hmove ih => exact ih.tail (.line hmove)

theorem InnerMoves.of_if {c : Prop} [Decidable c] {s t u : State} (ht : c → InnerMoves s t) (hu : ¬c → InnerMoves s u) :
    InnerMoves s (if c then t else u) := by
  by_cases h : c
  · rw [if_pos h]
    exact ht h
  · rw [if_neg h]
    exact hu h

/-! ### Laminator Control -/

theorem raiseNotice_inner (n : Notice) (s : State) : InnerMoves s (raiseNotice n s) := (LineMove.raise n s).moves.inner

theorem transitionDecision_moves (s : State) : InnerMoves s (transitionDecision s) := by
  unfold transitionDecision
  split
  · exact .refl
  · next hop =>
    split
    · next o _ => exact (InnerMove.issue o s hop).moves
    · exact .refl

theorem decideIfOpen_moves (s : State) : InnerMoves s (decideIfOpen s) :=
  .of_if (fun _ => transitionDecision_moves s) (fun _ => .refl)

theorem spliceSearch_moves (s : State) : InnerMoves s (spliceSearch s) := by
  unfold spliceSearch
  refine .of_if (fun _ => ?_) (fun _ => .refl)
  split
  · next v _ =>
    have hmark := (InnerMove.entry v.entry.target (fun e => { e with spliceGap := true }) s (fun _ => rfl)).moves
    have hplace := (InnerMove.lam
      { (s.modifyEntry v.entry.target (fun e => { e with spliceGap := true })).lam with
        request := .placed v.entry.target, reservation := none } _ rfl rfl rfl).moves
    refine (hmark.trans hplace).trans ?_
    exact InnerMoves.of_if (fun _ => transitionDecision_moves _) (fun _ => .refl)
  · refine .of_if (fun _ => .refl) (fun _ => ?_)
    exact (InnerMove.lam { s.lam with reservation := some s.lam.spliceGap } s rfl rfl rfl).moves.trans
      (raiseNotice_inner _ _)

theorem wantSplice_moves (s : State) : InnerMoves s (wantSplice s) :=
  (InnerMove.lam { s.lam with request := .wanted } s rfl rfl rfl).moves.trans (spliceSearch_moves _)

theorem autoSplice_moves (s : State) : InnerMoves s (autoSplice s) :=
  .of_if (fun _ => wantSplice_moves s) (fun _ => .refl)

/-- FILM_LOW and the splice condition evaluated over changed film. -/
theorem evalFilm_moves (x : Laminator) (s : State) (hop : x.op.isSome = s.lam.op.isSome) :
    InnerMoves s (evalFilm (s.setLam x)) := (InnerMove.film x s hop).moves.trans (autoSplice_moves _)

theorem lamAnnounced_moves (t : Target) (s : State) : InnerMoves s (lamAnnounced t s) :=
  (spliceSearch_moves s).trans (InnerMoves.of_if (fun _ => transitionDecision_moves _) (fun _ => .refl))

theorem lamRemoved_moves (t : Target) (withdrawn : Bool) (s : State) : InnerMoves s (lamRemoved t withdrawn s) := by
  have hsearch (x : Laminator) (hop : x.op.isSome = s.lam.op.isSome) (hremaining : x.remaining = s.lam.remaining)
      (hlow : x.filmLow = s.lam.filmLow) (c : Prop) [Decidable c] :
      InnerMoves s (decideIfOpen (if c then spliceSearch (reportNip (s.setLam x)) else reportNip (s.setLam x))) := by
    have htold := (InnerMove.lam x s hop hremaining hlow).moves.trans (reportNip_moves _).inner
    refine .trans ?_ (decideIfOpen_moves _)
    exact InnerMoves.of_if (fun _ => htold.trans (spliceSearch_moves _)) (fun _ => htold)
  unfold lamRemoved
  refine hsearch _ ?_ ?_ ?_ _ <;> simp

/-! ### Scrap claims -/

theorem appendReprint_moves (r : ReprintRecord) (s : State) : InnerMoves s (appendReprint r s) :=
  .of_if (fun hroom => (InnerMove.reprint r s hroom).moves.trans (raiseNotice_inner _ _)) (fun _ => raiseNotice_inner _ _)

theorem markScrap_moves (t : Target) (reason : ScrapReason) (s : State) : InnerMoves s (markScrap t reason s) := by
  unfold markScrap
  split
  · exact .refl
  · refine .of_if (fun _ => .refl) (fun _ => ?_)
    have hmark := (InnerMove.entry t (fun x => { x with scrap := some reason }) s (fun _ => rfl)).moves
    exact (hmark.trans (appendReprint_moves _ _)).trans (raiseNotice_inner _ _)

theorem slitAttempt_moves (s : State) : InnerMoves s (slitAttempt s) := (InnerMove.attempt s).moves

theorem convertCuts_moves (t : Target) (s : State) : InnerMoves s (convertCuts t s) := by
  unfold convertCuts
  refine (InnerMove.queues _ s ?_ ?_ ?_ ?_).moves
  · rw [List.map_map]
    refine List.map_congr_left fun c _ => ?_
    simp only [Function.comp_apply]
    split <;> rfl
  all_goals simp

theorem handOn_moves (i : Nat) (t : Target) (deadline : Nat) (s : State) : InnerMoves s (handOn i t deadline s) := by
  unfold handOn
  refine (InnerMove.queues _ s ?_ ?_ ?_ ?_).moves <;> simp

theorem disposeOver_moves (i : Nat) (ts : List Target) (s : State) : InnerMoves s (disposeOver i ts s) := by
  induction ts generalizing s with
  | nil =>
    refine (InnerMove.queues { s.cut with slit := s.cut.slit.eraseIdx i } s rfl ?_ rfl rfl).moves.trans (slitAttempt_moves _)
    exact List.length_eraseIdx_le _ _
  | cons t ts ih =>
    have hclaim (u : State) : InnerMoves u (convertCuts t (markScrap t .slitLate u)) :=
      (markScrap_moves t .slitLate u).trans (convertCuts_moves t _)
    unfold disposeOver
    split
    · exact ih s
    · next q _ =>
      refine .of_if (fun _ => ih s) (fun _ => .of_if (fun _ => ?_) (fun _ => ?_))
      · have hhand := handOn_moves i t (q.headAt s.tracker.zones.slit) s
        exact .of_if (fun _ => (hhand.trans (hclaim _)).trans (ih _)) (fun _ => hhand.trans (slitAttempt_moves _))
      · exact ((hclaim s).trans (slitAttempt_moves _)).trans (ih _)

theorem disposeSlit_moves (t : Target) (s : State) : InnerMoves s (disposeSlit t s) := by
  unfold disposeSlit
  split
  · exact .refl
  · exact disposeOver_moves _ _ s

theorem convertPanel_moves (t : Target) (s : State) : InnerMoves s (convertPanel t s) :=
  ((convertCuts_moves t s).trans (disposeSlit_moves t _)).trans (slitAttempt_moves _)

theorem scrapClaim_moves (t : Target) (reason : ScrapReason) (s : State) : InnerMoves s (scrapClaim t reason s) := by
  unfold scrapClaim
  split
  · exact .refl
  · refine .of_if (fun _ => .refl) (fun _ => ?_)
    exact .of_if (fun _ => (markScrap_moves t reason s).trans (convertPanel_moves t _)) (fun _ => markScrap_moves t reason s)

theorem foldScrap_moves (reason : ScrapReason) (ts : List Target) (s : State) :
    InnerMoves s (ts.foldl (fun s t => scrapClaim t reason s) s) := by
  induction ts generalizing s with
  | nil => exact .refl
  | cons t ts ih => exact (scrapClaim_moves t reason s).trans (ih _)

theorem cutRemoved_moves (t : Target) (s : State) : InnerMoves s (cutRemoved t s) := by
  unfold cutRemoved
  split
  · exact .refl
  · next front rest hslit =>
    refine .of_if (fun _ => (InnerMove.queues _ s ?_ ?_ ?_ ?_).moves) (fun _ => .refl) <;> simp [hslit]

/-! ### Laminator Control's and Cut Control's crossings -/

theorem filmOut_moves (s : State) : InnerMoves s (filmOut s) :=
  ((foldScrap_moves .filmOut _ s).trans (faultHold_moves _ _ _).inner).trans (transitionDecision_moves _)

theorem filmStep_moves (s : State) : InnerMoves s (filmStep s) := by
  have hcount := evalFilm_moves { s.lam with remaining := s.lam.remaining - 1 } s rfl
  exact .of_if (fun _ => hcount.trans (filmOut_moves _)) (fun _ => hcount)

theorem nipCheck_moves (e : MapEntry) (s : State) : InnerMoves s (nipCheck e s) := by
  unfold nipCheck
  dsimp only
  refine .of_if (fun _ => scrapClaim_moves _ _ s) (fun _ => .of_if (fun _ => scrapClaim_moves _ _ s) (fun _ => ?_))
  refine .of_if (fun _ => (scrapClaim_moves _ _ s).trans (wantSplice_moves _)) (fun _ => ?_)
  exact .of_if (fun _ => scrapClaim_moves _ _ s) (fun _ => .refl)

theorem nipHeadCrossing_moves (t : Target) (s : State) : InnerMoves s (nipHeadCrossing t s) := by
  unfold nipHeadCrossing
  split
  · exact .refl
  · have henter := (InnerMove.entry t (fun x => { x with nip := .inside }) s (fun _ => rfl)).moves
    exact (henter.trans (reportNip_moves _).inner).trans (nipCheck_moves _ _)

theorem nipTailCrossing_moves (t : Target) (s : State) : InnerMoves s (nipTailCrossing t s) := by
  have hpass := (InnerMove.entry t (fun x => { x with nip := .past }) s (fun _ => rfl)).moves
  exact (hpass.trans (reportNip_moves _).inner).trans (transitionDecision_moves _)

theorem slitHeadCrossing_moves (t : Target) (s : State) : InnerMoves s (slitHeadCrossing t s) :=
  (InnerMove.entry t (fun x => { x with slitter := .inside }) s (fun _ => rfl)).moves

theorem slitTailCrossing_moves (t : Target) (s : State) : InnerMoves s (slitTailCrossing t s) :=
  (InnerMove.entry t (fun x => { x with slitter := .past }) s (fun _ => rfl)).moves.trans (slitAttempt_moves _)

end Sys2Proof.Machine
end

section
/-! What the inner moves keep: what those of the line keep, and with it every entry's course, the plans, the tracker, the
lengths of the lists and the agreement of the flights. -/

namespace Sys2Proof.Machine

/-! ### What the moves of the line leave -/

/-- The blocks outside the line, the holds, the links and the notices are as they were, and so is every operation in flight. -/
structure State.LineOnly (s t : State) : Prop where
  tracker : t.tracker = s.tracker
  map : t.map = s.map
  plans : t.plans = s.plans
  reg : t.reg = s.reg
  lam : t.lam = s.lam
  cut : t.cut = s.cut
  pending : t.pending = s.pending
  op : ∀ l, (t.link l).op = (s.link l).op

theorem State.LineOnly.refl (s : State) : s.LineOnly s := ⟨rfl, rfl, rfl, rfl, rfl, rfl, rfl, fun _ => rfl⟩

theorem State.LineOnly.trans {s t u : State} (h : s.LineOnly t) (k : t.LineOnly u) : s.LineOnly u :=
  ⟨k.tracker.trans h.tracker, k.map.trans h.map, k.plans.trans h.plans, k.reg.trans h.reg, k.lam.trans h.lam,
    k.cut.trans h.cut, k.pending.trans h.pending, fun l => (k.op l).trans (h.op l)⟩

theorem State.setLink_op (s : State) (l m : LinkId) {k : Link} (h : k.op = (s.link l).op) :
    ((s.setLink l k).link m).op = (s.link m).op := by
  by_cases hm : m = l
  · subst hm
    rw [State.setLink_link_self, h]
  · rw [State.setLink_link_of_ne _ _ _ _ hm]

theorem link_of_links_eq {s t : State} (h : t.links = s.links) (l : LinkId) : t.link l = s.link l := by
  unfold State.link
  rw [h]

/-- A fault hold request does not reach the links. -/
theorem faultHold_links (reason : HoldReason) (detail : FaultDetail) (s : State) :
    (faultHold reason detail s).links = s.links := by
  have htake : (takeFault reason detail s).links = s.links := by simp
  have hhalt : (haltReport (takeFault reason detail s)).links = (takeFault reason detail s).links := by
    by_cases hrun : (takeFault reason detail s).line.state = .run
    · rw [haltReport_eq _ hrun (takeFault_stack_ne reason detail s)]
      split_ifs <;> simp
    · rw [haltReport_of_not_run _ hrun]
  simp [faultHold, hhalt]

theorem enterLink_op (l m : LinkId) (st : LinkState) (s : State) : ((enterLink l st s).link m).op = (s.link m).op := by
  have hlinks : (enterLink l st s).links = (s.setLink l { s.link l with state := st }).links := by
    simp [enterLink]
  rw [link_of_links_eq hlinks]
  exact State.setLink_op s l m rfl

theorem LineMove.lineOnly {s t : State} (h : LineMove s t) : s.LineOnly t := by
  have hsame {u : State} (h : u.links = s.links) (l : LinkId) : (u.link l).op = (s.link l).op := by
    rw [link_of_links_eq h]
  cases h with
  | raise n => exact ⟨by simp, by simp, by simp, by simp, by simp, by simp, by simp, hsame (by simp)⟩
  | link l k _ _ hop => exact ⟨by simp, by simp, by simp, by simp, by simp, by simp, by simp, fun m => s.setLink_op l m hop⟩
  | enterLink l st k _ hop =>
    exact ⟨by simp, by simp, by simp, by simp, by simp, by simp, by simp,
      fun m => (enterLink_op l m st _).trans (s.setLink_op l m hop)⟩
  | orders k => exact ⟨by simp, by simp, by simp, by simp, by simp, by simp, by simp, hsame (by simp)⟩
  | enterLine st => exact ⟨by simp, by simp, by simp, by simp, by simp, by simp, by simp, hsame (by simp)⟩
  | nip t => exact ⟨by simp, by simp, by simp, by simp, by simp, by simp, by simp, hsame (by simp)⟩
  | fault reason detail =>
    exact ⟨by simp, by simp, by simp, by simp, by simp, by simp, by simp, hsame (faultHold_links _ _ s)⟩

theorem LineMoves.lineOnly {s t : State} (h : LineMoves s t) : s.LineOnly t :=
  h.keep (P := s.LineOnly) (fun hm hl => hl.trans hm.lineOnly) (.refl s)

/-! ### What the inner moves leave -/

/-- Every entry's course is as it was, with the plans, the tracker, the lock, the cut entries' owners and the cut in flight; no
list has grown past its places, and the flights agree with the links where they did. -/
structure State.KeepsCourses (s t : State) : Prop where
  courses : t.courses = s.courses
  tracker : t.tracker = s.tracker
  plans : t.plans = s.plans
  reg : t.reg = s.reg
  pending : t.pending = s.pending
  lastTail : t.map.lastTail = s.map.lastTail
  marks : t.map.high = s.map.high ∧ t.map.low = s.map.low
  outcomes : t.map.outcomes = s.map.outcomes
  reprints : s.map.reprints.length ≤ 16 → t.map.reprints.length ≤ 16
  owners : t.cut.xcut.map (fun c => c.owner) = s.cut.xcut.map (fun c => c.owner)
  cutFlight : t.cut.cutFlight = s.cut.cutFlight
  slit : t.cut.slit.length ≤ s.cut.slit.length
  flights : FlightsAgree s → FlightsAgree t

theorem State.KeepsCourses.refl (s : State) : s.KeepsCourses s :=
  ⟨rfl, rfl, rfl, rfl, rfl, rfl, ⟨rfl, rfl⟩, rfl, id, rfl, rfl, le_rfl, id⟩

theorem State.KeepsCourses.trans {s t u : State} (h : s.KeepsCourses t) (k : t.KeepsCourses u) : s.KeepsCourses u where
  courses := k.courses.trans h.courses
  tracker := k.tracker.trans h.tracker
  plans := k.plans.trans h.plans
  reg := k.reg.trans h.reg
  pending := k.pending.trans h.pending
  lastTail := k.lastTail.trans h.lastTail
  marks := ⟨k.marks.1.trans h.marks.1, k.marks.2.trans h.marks.2⟩
  outcomes := k.outcomes.trans h.outcomes
  reprints := fun hr => k.reprints (h.reprints hr)
  owners := k.owners.trans h.owners
  cutFlight := k.cutFlight.trans h.cutFlight
  slit := k.slit.trans h.slit
  flights := fun hf => k.flights (h.flights hf)

theorem State.LineOnly.keepsCourses {s t : State} (h : s.LineOnly t) : s.KeepsCourses t := by
  obtain ⟨htracker, hmap, hplans, hreg, hlam, hcut, hpending, hop⟩ := h
  refine ⟨by rw [State.courses, hmap, State.courses], htracker, hplans, hreg, hpending, by rw [hmap], by rw [hmap]; simp,
    by rw [hmap], by rw [hmap]; exact id, by rw [hcut], by rw [hcut], by rw [hcut], fun hf => ?_⟩
  unfold FlightsAgree
  rwa [hop, hop, hop, hop, hlam, hcut]

/-- A state that differs in the notices alone. -/
theorem State.KeepsCourses.of_notices {s t u : State} (h : s.KeepsCourses t) (hu : u = { t with notices := u.notices }) :
    s.KeepsCourses u := by
  rw [hu]
  exact ⟨h.courses, h.tracker, h.plans, h.reg, h.pending, h.lastTail, h.marks, h.outcomes, h.reprints, h.owners, h.cutFlight,
    h.slit, h.flights⟩

theorem setLam_keepsCourses {x : Laminator} {s : State} (hop : x.op.isSome = s.lam.op.isSome) :
    s.KeepsCourses (s.setLam x) := by
  refine ⟨rfl, rfl, rfl, rfl, rfl, rfl, ⟨rfl, rfl⟩, rfl, id, rfl, rfl, le_rfl, fun hf => ?_⟩
  unfold FlightsAgree
  rwa [State.setLam_lam, hop]

/-- An operation that the LAM link takes is Laminator Control's. -/
theorem issueNip_keepsCourses (o : LamOp) (s : State) : s.KeepsCourses (issueNip o s) := by
  unfold issueNip
  split
  · next u hu =>
    obtain ⟨-, -, rfl⟩ := requestOp_spec _ _ _ _ _ _ hu
    refine ⟨rfl, rfl, rfl, rfl, rfl, rfl, ⟨rfl, rfl⟩, rfl, id, rfl, rfl, le_rfl, fun hf => ?_⟩
    obtain ⟨hfeed, -, hslit, hxcut⟩ := hf
    exact ⟨hfeed, by simp [State.link, State.setLink, PerLink.set, PerLink.get], hslit, hxcut⟩
  · exact .refl s

/-- A move that the SLIT link takes is Cut Control's. -/
theorem slitAttempt_keepsCourses (s : State) : s.KeepsCourses (slitAttempt s) := by
  unfold slitAttempt
  split
  · exact .refl s
  · next front rest hqueue =>
    split
    · split
      · next u hu =>
        obtain ⟨-, -, rfl⟩ := requestOp_spec _ _ _ _ _ _ hu
        refine ⟨rfl, rfl, rfl, rfl, rfl, rfl, ⟨rfl, rfl⟩, rfl, id, rfl, rfl, by simp [hqueue], fun hf => ?_⟩
        obtain ⟨hfeed, hlam, -, hxcut⟩ := hf
        exact ⟨hfeed, hlam, by simp [State.link, State.setLink, PerLink.set, PerLink.get], hxcut⟩
      · exact .refl s
    · exact .refl s

theorem InnerMove.keepsCourses {s t : State} (h : InnerMove s t) : s.KeepsCourses t := by
  cases h with
  | line h => exact h.lineOnly.keepsCourses
  | lam x _ hop => exact setLam_keepsCourses hop
  | film x _ hop => exact (setLam_keepsCourses hop).of_notices (passLevel_eq_withNotices _ _ _)
  | issue o => exact issueNip_keepsCourses o s
  | entry t f _ hf =>
    exact ⟨s.courses_modifyEntry t hf, rfl, rfl, rfl, rfl, rfl, ⟨rfl, rfl⟩, rfl, id, rfl, rfl, le_rfl, id⟩
  | reprint r _ hroom =>
    exact ⟨rfl, rfl, rfl, rfl, rfl, rfl, ⟨rfl, rfl⟩, rfl, fun _ => by simp; omega, rfl, rfl, le_rfl, id⟩
  | queues x _ howners hslit hcut hmove =>
    refine ⟨rfl, rfl, rfl, rfl, rfl, rfl, ⟨rfl, rfl⟩, rfl, id, howners, hcut, hslit, fun hf => ?_⟩
    unfold FlightsAgree
    rw [State.setCut_cut, hmove, hcut]
    exact hf
  | attempt => exact slitAttempt_keepsCourses s

/-- What each of the pieces keeps, the inner moves they make up keep. -/
theorem InnerMoves.keep {P : State → Prop} (hP : ∀ {s t}, InnerMove s t → P s → P t) {s t : State} (h : InnerMoves s t)
    (hs : P s) : P t := by
  induction h with
  | refl => exact hs
  | tail _ hmove ih => exact hP hmove ih

theorem InnerMoves.keepsCourses {s t : State} (h : InnerMoves s t) : s.KeepsCourses t :=
  h.keep (P := s.KeepsCourses) (fun hm hk => hk.trans hm.keepsCourses) (.refl s)

/-! ### Operations taken -/

/-- A request that a link takes leaves every link's state and changes its operation and tag alone. -/
theorem issueNip_cases (o : LamOp) (s : State) :
    issueNip o s = s ∨ ((s.link .lam).state = .active ∧ issueNip o s =
      (s.setLink .lam { s.link .lam with
        op := some { kind := o.kind, tag := (s.link .lam).nextTag, params := opParams o.params, target := o.target
                     remaining := o.kind.timeout }
        nextTag := tagAfter (s.link .lam).nextTag }).setLam { s.lam with op := some o }) := by
  unfold issueNip
  split
  · next u hu =>
    obtain ⟨hactive, -, rfl⟩ := requestOp_spec _ _ _ _ _ _ hu
    exact .inr ⟨hactive, rfl⟩
  · exact .inl rfl

theorem slitAttempt_cases (s : State) :
    slitAttempt s = s ∨ ∃ front rest, s.cut.slit = front :: rest ∧ (s.link .slit).state = .active ∧ slitAttempt s =
      (s.setLink .slit { s.link .slit with
        op := some { kind := .move, tag := (s.link .slit).nextTag, params := opParams (moveParams front.lanes)
                     target := some front.owner, remaining := OpKind.move.timeout }
        nextTag := tagAfter (s.link .slit).nextTag }).setCut { s.cut with
          slit := { front with issued := true } :: rest
          moveFlight := some { lanes := front.lanes, owner := some front.owner } } := by
  unfold slitAttempt
  split
  · exact .inl rfl
  · next front rest hqueue =>
    split
    · split
      · next u hu =>
        obtain ⟨hactive, -, rfl⟩ := requestOp_spec _ _ _ _ _ _ hu
        exact .inr ⟨front, rest, hqueue, hactive, rfl⟩
      · exact .inl rfl
    · exact .inl rfl

/-- A link that is ACTIVE takes an operation in order (R169). -/
theorem Link.InOrder.take {k : Link} (h : k.InOrder) (hactive : k.state = .active) (kind : OpKind) (ws : List Nat)
    (target : Option Target) (ms : Nat) :
    Link.InOrder { k with
      op := some { kind := kind, tag := k.nextTag, params := opParams ws, target := target, remaining := ms }
      nextTag := tagAfter k.nextTag } := by
  obtain ⟨hop, hwake, harm, hfly, hpark, hfaults, hlow, hhigh, hops, herr, htest⟩ := h
  have htag := tagAfter_range k.nextTag
  refine ⟨fun _ => .inl hactive, hwake, harm, hfly, hpark, hfaults, htag.1, htag.2, fun o ho => ?_, herr, htest⟩
  obtain rfl : _ = o := Option.some.inj ho
  exact ⟨hlow, hhigh, by simp [opParams, padTo]⟩

/-! ### What the line's moves keep, the inner moves keep -/

theorem InnerMove.carries {s t : State} (h : InnerMove s t) : s.Carries t := by
  cases h with
  | line h => exact h.carries
  | film x => exact State.Carries.trans (t := s.setLam x) (.of_eq rfl) (passLevel_carries _ _ _)
  | issue o => exact .of_eq (by simp)
  | attempt => exact .of_eq (by simp)
  | lam => exact .of_eq rfl
  | entry => exact .of_eq rfl
  | reprint => exact .of_eq rfl
  | queues => exact .of_eq rfl

theorem InnerMoves.carries {s t : State} (h : InnerMoves s t) : s.Carries t :=
  h.keep (P := s.Carries) (fun hm hc => hc.trans hm.carries) (.refl s)

/-- Line and Hold Unit after an inner move that is none of the line's. -/
theorem InnerMove.line_or {s t : State} (h : InnerMove s t) : LineMove s t ∨ (t.line = s.line ∧ t.hold = s.hold) := by
  cases h with
  | line h => exact .inl h
  | film x => exact .inr ⟨by simp, by simp⟩
  | issue o => exact .inr ⟨by simp, by simp⟩
  | attempt => exact .inr ⟨by simp, by simp⟩
  | lam => exact .inr ⟨rfl, rfl⟩
  | entry => exact .inr ⟨rfl, rfl⟩
  | reprint => exact .inr ⟨rfl, rfl⟩
  | queues => exact .inr ⟨rfl, rfl⟩

theorem InnerMove.holdsKept {s t : State} (h : InnerMove s t) (hs : HoldsKept s) : HoldsKept t := by
  rcases h.line_or with hl | ⟨hline, hhold⟩
  · exact hl.holdsKept hs
  · exact hs.of_eq (by rw [hline]) hhold

theorem InnerMove.speedsInOrder {s t : State} (h : InnerMove s t) (hs : SpeedsInOrder s) : SpeedsInOrder t := by
  rcases h.line_or with hl | ⟨hline, -⟩
  · exact hl.speedsInOrder hs
  · exact SpeedsInOrder.of_eq hline h.keepsCourses.plans hs

theorem queuedCount_eq (s : State) : queuedCount s.map.entries = s.courses.countP (fun c => c.phase == .queued) := by
  rw [State.courses, List.countP_map]
  rfl

theorem nearFull_eq (s : State) : s.nearFull = decide (s.map.high ≤ s.courses.length) := by
  rw [State.courses, List.length_map]
  rfl

theorem State.KeepsCourses.mapLevels {s t : State} (h : s.KeepsCourses t) :
    t.nearFull = s.nearFull ∧ t.queueLow = s.queueLow := by
  rw [nearFull_eq, nearFull_eq, State.queueLow, State.queueLow, queuedCount_eq, queuedCount_eq, h.courses, h.marks.1, h.marks.2]
  exact ⟨rfl, rfl⟩

/-- The raw levels of two states that agree in what they are reckoned from. -/
theorem State.Agrees.of_same {s t : State} {n : Notice} (h : s.Agrees n) (hnotices : t.notices = s.notices)
    (hline : t.line = s.line) (hhold : t.hold = s.hold) (hlinks : ∀ l, (t.link l).state = (s.link l).state)
    (hreg : t.reg = s.reg) (hfilm : t.filmLow = s.filmLow) (hfull : t.nearFull = s.nearFull)
    (hqueue : t.queueLow = s.queueLow) : t.Agrees n := by
  refine h.of_eq ?_ (by rw [State.level, hnotices, State.level])
  cases n <;>
    simp_all [State.raw, State.lineUp, State.holdActive, State.regLocked, State.linkUp]

theorem State.setLink_state (s : State) (l m : LinkId) {k : Link} (h : k.state = (s.link l).state) :
    ((s.setLink l k).link m).state = (s.link m).state := by
  by_cases hm : m = l
  · subst hm
    rw [State.setLink_link_self, h]
  · rw [State.setLink_link_of_ne _ _ _ _ hm]

theorem InnerMove.agrees {s t : State} {n : Notice} (h : InnerMove s t) (hs : s.Agrees n) : t.Agrees n := by
  obtain ⟨hfull, hqueue⟩ := h.keepsCourses.mapLevels
  cases h with
  | line h => exact h.agrees hs
  | lam x _ _ hremaining hlow =>
    exact hs.of_same (by simp) (by simp) (by simp) (fun _ => by rfl) (by simp) (by simp [State.filmLow, hremaining, hlow])
      hfull hqueue
  | film x =>
    refine passLevel_agrees rfl fun hn => hs.of_eq ?_ rfl
    cases n <;> simp_all [State.raw] <;> rfl
  | issue o =>
    rcases issueNip_cases o s with heq | ⟨-, heq⟩ <;> rw [heq] at hfull hqueue ⊢
    · exact hs
    · exact hs.of_same (by simp) (by simp) (by simp) (fun m => s.setLink_state .lam m (by rfl)) (by simp) (by rfl)
        hfull hqueue
  | entry t f =>
    exact hs.of_same (by simp) (by simp) (by simp) (fun _ => by rfl) (by simp) (by rfl) hfull hqueue
  | reprint r =>
    exact hs.of_same (by simp) (by simp) (by simp) (fun _ => by rfl) (by simp) (by rfl) hfull hqueue
  | queues x =>
    exact hs.of_same (by simp) (by simp) (by simp) (fun _ => by rfl) (by simp) (by rfl) hfull hqueue
  | attempt =>
    rcases slitAttempt_cases s with heq | ⟨front, rest, -, -, heq⟩ <;> rw [heq] at hfull hqueue ⊢
    · exact hs
    · exact hs.of_same (by simp) (by simp) (by simp) (fun m => s.setLink_state .slit m (by rfl)) (by simp) (by rfl)
        hfull hqueue

theorem State.setLink_inOrder {s : State} {l : LinkId} {k : Link} (hk : k.InOrder) (hs : ∀ m, (s.link m).InOrder)
    (m : LinkId) : ((s.setLink l k).link m).InOrder := by
  by_cases hm : m = l
  · subst hm
    rwa [State.setLink_link_self]
  · rw [State.setLink_link_of_ne _ _ _ _ hm]
    exact hs m

theorem InnerMove.linksInOrder {s t : State} (h : InnerMove s t) (hs : ∀ l, (s.link l).InOrder) :
    ∀ l, (t.link l).InOrder := by
  cases h with
  | line h => exact h.linksInOrder hs
  | issue o =>
    rcases issueNip_cases o s with heq | ⟨hactive, heq⟩ <;> rw [heq]
    · exact hs
    · exact State.setLink_inOrder ((hs .lam).take hactive _ _ _ _) hs
  | attempt =>
    rcases slitAttempt_cases s with heq | ⟨front, rest, -, hactive, heq⟩ <;> rw [heq]
    · exact hs
    · exact State.setLink_inOrder ((hs .slit).take hactive _ _ _ _) hs
  | film x => exact fun l => by rw [link_of_links_eq (s := s) (by simp)]; exact hs l
  | lam => exact hs
  | entry => exact hs
  | reprint => exact hs
  | queues => exact hs

end Sys2Proof.Machine
end

section
/-! What a step can do, whole. `PartMove` adds to the inner moves what begins, carries on or ends an entry's course, the settings,
the commands that steer the line and the resets; `WebMove` adds the odometer's advance and what happens to a window. -/

namespace Sys2Proof.Machine

/-! ### The moves -/

/-- The flight of a link's operation cleared at the block that asked for it, as its end begins there; for the XCUT link the case
that no cut is in flight. -/
def ClearsFlight (l : LinkId) (u v : State) : Prop :=
  match l with
  | .feed => v = u
  | .lam => ∃ x : Laminator, x.op = none ∧ x.remaining = u.lam.remaining ∧ x.filmLow = u.lam.filmLow ∧ v = u.setLam x
  | .slit => ∃ x : CutControl, x.moveFlight = none ∧ x.xcut = u.cut.xcut ∧ x.cutFlight = u.cut.cutFlight ∧
      x.slit.length ≤ u.cut.slit.length ∧ v = u.setCut x
  | .xcut => u.cut.cutFlight = none ∧ v = u

/-- A cut entry leaves the front of the queue, or the flight as its link's operation ends. -/
inductive CutLeaves (c : CutEntry) : State → State → Prop
  | queue (rest : List CutEntry) (s : State) (h : s.cut.xcut = c :: rest) : CutLeaves c s (s.setCut { s.cut with xcut := rest })
  | flight {s u : State} (hc : s.cut.cutFlight = some c) (h : LineMoves (dropOp .xcut s) u) :
      CutLeaves c s (u.setCut { u.cut with cutFlight := none })

/-- One cut entry of an entry resolved (R29). -/
def MapEntry.cutDone (made : Bool) (e : MapEntry) : MapEntry :=
  { e with cutsPending := e.cutsPending - 1, cutsMade := if made then e.cutsMade + 1 else e.cutsMade }

/-- An accepted announcement's entry, in the state in which it was announced (R21, R22). -/
structure Announced (e : MapEntry) (s : State) : Prop where
  room : s.map.entries.length < 48
  slot : e.slot = freeSlot s.map.entries
  panel : 1 ≤ e.panel ∧ ∀ x ∈ s.map.entries, x.panel ≠ e.panel
  plan : (s.plan e.plan).isSome
  head : s.map.lastTail ≤ e.head ∧ s.tracker.odometer ≤ e.head
  length : 200 ≤ e.length
  tail : e.tail ≤ 4294967295
  phase : e.phase = .queued
  cuts : e.cutsPending = 0
  window : ∀ w ∈ e.window, w = { expected := e.head + s.tracker.zones.mark, halfWidth := s.reg.halfWidth, status := .notOpen }

/-- The lock states and the unread runs that go with them (R72). -/
def lockPairs (lock : LockState) (run : Nat) : Prop :=
  (lock = .seeking → run ≤ 1) ∧ (lock = .locked → run = 0) ∧ (lock = .slipping → run = 1) ∧ (lock = .lost → run = 2)

/-- What a command that steers the line or takes or releases a hold does: the line, the holds and the notices change, and their
orders are kept. -/
structure State.Steers (s t : State) : Prop where
  frame : t = { s with line := t.line, hold := t.hold, notices := t.notices }
  holds : HoldsKept s → HoldsKept t
  speeds : SpeedsInOrder s → SpeedsInOrder t
  levels : (∀ n, s.Agrees n) → ∀ n, t.Agrees n
  carries : s.Carries t

/-- One move of the part that takes no window crossing and does not advance the web. -/
inductive PartMove : State → State → Prop
  | inner {s t : State} (h : InnerMove s t) : PartMove s t
  | ended (l : LinkId) {s u v : State} (h : LineMoves (dropOp l s) u) (hv : ClearsFlight l u v) : PartMove s v
  | cutIssued (c : CutEntry) (rest : List CutEntry) (ws : List Nat) (s : State) (hqueue : s.cut.xcut = c :: rest)
      (hactive : (s.link .xcut).state = .active) (hop : (s.link .xcut).op = none) :
      PartMove s ((s.setLink .xcut { s.link .xcut with
        op := some { kind := .cut, tag := (s.link .xcut).nextTag, params := opParams ws, target := some c.owner
                     remaining := OpKind.cut.timeout }
        nextTag := tagAfter (s.link .xcut).nextTag }).setCut { s.cut with xcut := rest, cutFlight := some c })
  | cutResolved (c : CutEntry) (made : Bool) {s u v : State} (hu : CutLeaves c s u) (hv : InnerMoves u v) :
      PartMove s (v.modifyEntry c.owner (MapEntry.cutDone made))
  | cutQueued (c : CutEntry) (s : State) (hroom : s.cut.xcut.length < 24)
      (howner : ∃ e ∈ s.entry c.owner, e.phase = .committed) : PartMove s (insertCut c s)
  | slitQueued (x : SlitEntry) (s : State) (hroom : s.cut.slit.length < 6) :
      PartMove s (s.setCut { s.cut with slit := insertAfter (fun y => y.deadline) x s.cut.slit })
  | printLine (t : Target) (s : State) (hphase : ∀ e ∈ s.entry t, e.phase = .queued) : PartMove s (printLineCrossing t s)
  | commit (t : Target) (s : State) (hphase : ∀ e ∈ s.entry t, e.phase = .onWeb) :
      PartMove s (s.modifyEntry t (fun e => { e with phase := .committed }))
  | knife (t : Target) (s : State) (hphase : ∀ e ∈ s.entry t, e.phase = .committed) :
      PartMove s (s.modifyEntry t (fun e => { e with phase := .atKnife }))
  | lock (lock : LockState) (run : Nat) (s : State) (h : lockPairs lock run) : PartMove s (setLock lock run s)
  | outcome (r : OutcomeRecord) (s : State) (hroom : s.map.outcomes.length < 32) :
      PartMove s (s.setMap { s.map with outcomes := s.map.outcomes ++ [r] })
  | retire (t : Target) (e : MapEntry) {s u : State} (he : s.entry t = some e) (hcuts : e.cutsPending = 0)
      (hu : InnerMoves (s.dropEntry t) u) : PartMove s (evalMapLevels (raiseNotice .panelRetired (u.dropRef e.plan)))
  | withdraw (e : MapEntry) {s u : State} (he : s.entry e.target = some e) (hphase : e.phase = .queued)
      (hu : InnerMoves (((s.dropEntry e.target).dropRef e.plan).setMap (recomputeLast (s.dropEntry e.target).map)) u) :
      PartMove s (evalMapLevels u)
  | announce (e : MapEntry) {s u v : State} (he : Announced e s)
      (hu : InnerMoves ((s.setMap { s.map with
        entries := s.map.entries ++ [e], lastTail := e.tail, lastClass := e.cls }).addRef e.plan) u)
      (hv : InnerMoves (startTracking e u) v) : PartMove s (evalMapLevels v)
  | thresholds (high low : Nat) (s : State) : PartMove s (evalMapLevels (s.setMap { s.map with high := high, low := low }))
  | reprints (rest : List ReprintRecord) (s : State) (h : rest.length ≤ s.map.reprints.length) :
      PartMove s (s.setMap { s.map with reprints := rest })
  | outcomes (rest : List OutcomeRecord) (s : State) (h : rest.length ≤ s.map.outcomes.length) :
      PartMove s (s.setMap { s.map with outcomes := rest })
  | ports (x : PerPort Port) (s : State) : PartMove s (s.setPorts x)
  | tick (n : Nat) (s : State) : PartMove s (s.setFreeTick n)
  | busy (x : Timer) (s : State) : PartMove s (s.setBusy x)
  | timers (s : State) : PartMove s (tickTimers s)
  | tracker (x : Tracker) (s : State) (hodometer : x.odometer = s.tracker.odometer) (hzones : x.zones = s.tracker.zones)
      (hdebt : s.tracker.debt ≤ 500 → x.debt ≤ 500) : PartMove s (s.setTracker x)
  | zones (z : Zones) (s : State) (hempty : s.map.entries = []) (hmark : 200 ≤ z.mark) :
      PartMove s (s.setTracker { s.tracker with zones := z })
  | registration (w n : Nat) (s : State) (hw : 5 ≤ w ∧ w ≤ 100) :
      PartMove s (s.setReg { s.reg with halfWidth := w, tolerance := n })
  | plans (x : PlanStore) (s : State) (hlength : s.plans.plans.length ≤ 24 → x.plans.length ≤ 24)
      (hratios : (∀ q ∈ s.plans.plans, q.ratio ≤ 100) → ∀ q ∈ x.plans, q.ratio ≤ 100)
      (hcounted : PlansCounted s → PlansCounted (s.setPlans x)) : PartMove s (s.setPlans x)
  | notices (x : NoticeUnit) (s : State) (hlevels : x.levels = s.notices.levels)
      (htells : ∀ p, (s.notices.copies.get p).Tells → (x.copies.get p).Tells) : PartMove s (s.setNotices x)
  | steers {s t : State} (h : s.Steers t) : PartMove s t
  | lineReset (s : State) (h : s.line.state = .stopped) : PartMove s (lineReset s).1
  | hardwareReset (s : State) : PartMove s (hardwareReset s)

abbrev PartMoves : State → State → Prop := Relation.ReflTransGen PartMove

/-- An entry changed in its window, its result and its offset alone. -/
def MapEntry.WindowOnly (f : MapEntry → MapEntry) : Prop :=
  ∀ e, (f e).course = { e.course with window := (f e).window }

/-- One move of the part. -/
inductive WebMove : State → State → Prop
  | move {s t : State} (h : PartMove s t) : WebMove s t
  | odometer (pulse : Timer) (s : State) (h : s.tracker.odometer < 4294967295) :
      WebMove s (s.setTracker { s.tracker with odometer := s.tracker.odometer + 1, syncPulse := pulse })
  | window (t : Target) (f : MapEntry → MapEntry) (s : State) (hf : MapEntry.WindowOnly f) : WebMove s (s.modifyEntry t f)

abbrev WebMoves : State → State → Prop := Relation.ReflTransGen WebMove

theorem PartMove.moves {s t : State} (h : PartMove s t) : PartMoves s t := .single h

theorem WebMove.moves {s t : State} (h : WebMove s t) : WebMoves s t := .single h

theorem InnerMoves.all {s t : State} (h : InnerMoves s t) : PartMoves s t := by
  induction h with
  | refl => exact .refl
  | tail _ hmove ih => exact ih.tail (.inner hmove)

theorem LineMoves.all {s t : State} (h : LineMoves s t) : PartMoves s t := h.inner.all

theorem PartMoves.web {s t : State} (h : PartMoves s t) : WebMoves s t := by
  induction h with
  | refl => exact .refl
  | tail _ hmove ih => exact ih.tail (.move hmove)

theorem PartMoves.of_if {c : Prop} [Decidable c] {s t u : State} (ht : c → PartMoves s t) (hu : ¬c → PartMoves s u) :
    PartMoves s (if c then t else u) := by
  by_cases h : c
  · rw [if_pos h]
    exact ht h
  · rw [if_neg h]
    exact hu h

/-! ### Retirement and the knife -/

theorem raiseNotice_all (n : Notice) (s : State) : PartMoves s (raiseNotice n s) := (LineMove.raise n s).moves.all

theorem appendOutcome_moves (r : OutcomeRecord) (s : State) : PartMoves s (appendOutcome r s) :=
  .of_if (fun hroom => (PartMove.outcome r s hroom).moves) (fun _ => raiseNotice_all _ _)

theorem entry_of_entries_eq {s t : State} (h : t.map.entries = s.map.entries) (x : Target) : t.entry x = s.entry x := by
  rw [State.entry, h, State.entry]

theorem appendOutcome_entries (r : OutcomeRecord) (s : State) : (appendOutcome r s).map.entries = s.map.entries := by
  unfold appendOutcome
  split <;> simp

theorem retireIfDone_moves (t : Target) (s : State) : PartMoves s (retireIfDone t s) := by
  unfold retireIfDone
  split
  · exact .refl
  · next e he =>
    refine .of_if (fun hdone => ?_) (fun _ => .refl)
    unfold retire
    rw [he]
    refine (appendOutcome_moves e.outcomeRecord s).trans (PartMove.retire t e ?_ hdone.2 ?_).moves
    · rw [entry_of_entries_eq (appendOutcome_entries _ s), he]
    · exact (lamRemoved_moves t false _).trans (cutRemoved_moves t _)

/-- A cut entry that has left the queue or the flight, resolved after what moved in between. -/
theorem resolveCut_moves {c : CutEntry} {made : Bool} {s u v : State} (hu : CutLeaves c s u) (hv : InnerMoves u v) :
    PartMoves s (resolveCut c.owner made v) :=
  (PartMove.cutResolved c made hu hv).moves.trans (retireIfDone_moves _ _)

theorem claimIfCut_moves (c : CutEntry) (reason : ScrapReason) (s : State) :
    InnerMoves s (if c.kind = .cut then scrapClaim c.owner reason s else s) :=
  .of_if (fun _ => scrapClaim_moves _ _ s) (fun _ => .refl)

theorem cutCrossing_moves (s : State) : PartMoves s (cutCrossing s) := by
  unfold cutCrossing
  split
  · exact .refl
  · next c rest hqueue =>
    refine .of_if (fun _ => ?_) (fun _ => .refl)
    dsimp only
    split
    · next u hu =>
      obtain ⟨hactive, hop, rfl⟩ := requestOp_spec _ _ _ _ _ _ hu
      exact (PartMove.cutIssued c rest [c.kind.divert] s hqueue hactive hop).moves
    · exact resolveCut_moves (.queue rest s hqueue) ((raiseNotice_inner .cutMissed _).trans (claimIfCut_moves c _ _))

theorem knifeHeadCrossing_moves (t : Target) (s : State) (hphase : ∀ e ∈ s.entry t, e.phase = .committed) :
    PartMoves s (knifeHeadCrossing t s) := (PartMove.knife t s hphase).moves

theorem knifeTailCrossing_moves (t : Target) (s : State) : PartMoves s (knifeTailCrossing t s) :=
  (InnerMove.entry t (fun e => { e with tailCleared := true }) s (fun _ => rfl)).moves.all.trans (retireIfDone_moves t _)

/-! ### Commit expansion -/

/-- An entry looked up by name has its course through inner moves. -/
theorem State.KeepsCourses.entry {s t : State} (h : s.KeepsCourses t) (x : Target) :
    (t.entry x).map MapEntry.course = (s.entry x).map MapEntry.course := by
  have hfind (u : State) : (u.entry x).map MapEntry.course =
      u.courses.find? (fun c => c.target.slot == x.slot && c.target.panel == x.panel) := by
    rw [State.courses, List.find?_map]
    rfl
  rw [hfind, hfind, h.courses]

theorem State.KeepsCourses.phase {s t : State} (h : s.KeepsCourses t) {x : Target} {p : Phase}
    (hp : ∃ e ∈ s.entry x, e.phase = p) : ∃ e ∈ t.entry x, e.phase = p := by
  obtain ⟨e, he, hphase⟩ := hp
  have hmap := h.entry x
  rw [Option.mem_def.1 he, Option.map_some] at hmap
  obtain ⟨e', he', hcourse⟩ := Option.map_eq_some_iff.1 hmap
  exact ⟨e', he', (congrArg Course.phase hcourse).trans hphase⟩

/-- The phase of an entry stands through the queueing of a cut. -/
theorem insertCut_phase (c : CutEntry) (s : State) {x : Target} {p : Phase} (hp : ∃ e ∈ s.entry x, e.phase = p) :
    ∃ e ∈ (insertCut c s).entry x, e.phase = p := by
  obtain ⟨e, he, hphase⟩ := hp
  have hfind : (insertCut c s).entry x = (s.entry x).map
      (fun e => if e.named c.owner then { e with cutsPending := e.cutsPending + 1 } else e) := by
    have hnamed : MapEntry.named x ∘ (fun e : MapEntry =>
        if e.named c.owner then { e with cutsPending := e.cutsPending + 1 } else e) = MapEntry.named x := by
      funext e
      simp only [Function.comp_apply]
      split <;> rfl
    rw [State.entry, insertCut, State.modifyEntry_entries, updateEntry, List.find?_map, hnamed]
    rfl
  rw [hfind, Option.mem_def.1 he]
  refine ⟨_, rfl, ?_⟩
  dsimp only
  split <;> exact hphase

theorem insertWaste_moves (c : CutEntry) (s : State) (h : ∃ e ∈ s.entry c.owner, e.phase = .committed) :
    PartMoves s (insertWaste c s) := .of_if (fun hroom => (PartMove.cutQueued c s hroom h).moves) (fun _ => .refl)

theorem expandScrap_moves (e : MapEntry) (reason : ScrapReason) (s : State)
    (h : ∃ x ∈ s.entry e.target, x.phase = .committed) : PartMoves s (expandScrap e reason s) := by
  have hclaim := scrapClaim_moves e.target reason s
  have hfirst := hclaim.keepsCourses.phase h
  refine hclaim.all.trans ?_
  unfold expandScrap wasteCuts
  refine (insertWaste_moves _ _ hfirst).trans (insertWaste_moves _ _ ?_)
  unfold insertWaste
  split
  · exact insertCut_phase _ _ hfirst
  · exact hfirst

theorem insertAfter_length {α : Type} (key : α → Nat) (x : α) (xs : List α) :
    (insertAfter key x xs).length = xs.length + 1 := by
  induction xs with
  | nil => rfl
  | cons y ys ih =>
    unfold insertAfter
    split <;> simp [ih]

/-- The cuts of one entry queued one after another, with room for all of them. -/
theorem foldInsertCut_moves (t : Target) (cs : List CutEntry) (s : State) (howner : ∀ c ∈ cs, c.owner = t)
    (hroom : s.cut.xcut.length + cs.length ≤ 24) (h : ∃ e ∈ s.entry t, e.phase = .committed) :
    PartMoves s (cs.foldl (fun s c => insertCut c s) s) := by
  induction cs generalizing s with
  | nil => exact .refl
  | cons c cs ih =>
    obtain rfl : c.owner = t := howner c (by simp)
    have hlength : (insertCut c s).cut.xcut.length = s.cut.xcut.length + 1 := by
      rw [insertCut, (State.modifyEntry_frame _ _ _).2.2.2.2.1, State.setCut_cut, insertAfter_length]
    rw [List.length_cons] at hroom
    refine (PartMove.cutQueued c s (by omega) h).moves.trans (ih _ (fun x hx => howner x (by simp [hx])) ?_ (insertCut_phase _ _ h))
    omega

theorem cutEntriesFrom_owner (e : MapEntry) (d k : Nat) (os : List Nat) :
    ∀ c ∈ cutEntriesFrom e d k os, c.owner = e.target := by
  induction os generalizing k with
  | nil => simp [cutEntriesFrom]
  | cons o os ih =>
    simp only [cutEntriesFrom, List.mem_cons, forall_eq_or_imp, true_and]
    exact ih _

theorem cutEntriesFrom_length (e : MapEntry) (d k : Nat) (os : List Nat) :
    (cutEntriesFrom e d k os).length = os.length := by
  induction os generalizing k with
  | nil => rfl
  | cons o os ih => simp [cutEntriesFrom, ih]

theorem foldInsertCut_slit (cs : List CutEntry) (s : State) :
    (cs.foldl (fun s c => insertCut c s) s).cut.slit = s.cut.slit := by
  induction cs generalizing s with
  | nil => rfl
  | cons c cs ih => exact (ih _).trans rfl

theorem expandNormal_moves (e : MapEntry) (q : Plan) (s : State) (hroom : queuesHaveRoom q s.cut = true)
    (h : ∃ x ∈ s.entry e.target, x.phase = .committed) : PartMoves s (expandNormal e q s) := by
  simp only [queuesHaveRoom, Bool.and_eq_true, Bool.or_eq_true, Bool.not_eq_true', decide_eq_true_eq] at hroom
  obtain ⟨hcuts, hslit⟩ := hroom
  have hqueued := foldInsertCut_moves e.target (cutEntriesFrom e s.tracker.zones.knife 1 q.cuts) s
    (cutEntriesFrom_owner _ _ _ _) (by rw [cutEntriesFrom_length]; exact hcuts) h
  unfold expandNormal
  dsimp only
  split
  · next hneeds =>
    refine hqueued.trans ((PartMove.slitQueued _ _ ?_).moves.trans (slitAttempt_moves _).all)
    rw [foldInsertCut_slit]
    exact hslit.resolve_left (by simp [hneeds])
  · exact hqueued

theorem expand_moves (e : MapEntry) (s : State) (h : ∃ x ∈ s.entry e.target, x.phase = .committed) :
    PartMoves s (expand e s) := by
  unfold expand
  split
  · exact .refl
  · next q _ =>
    refine .of_if (fun _ => expandScrap_moves e _ s h) (fun _ => .of_if (fun _ => expandScrap_moves e _ s h) (fun _ => ?_))
    exact .of_if (fun hroom => expandNormal_moves e q s hroom h) (fun _ => expandScrap_moves e _ s h)

theorem entry_named {s : State} {t : Target} {e : MapEntry} (h : s.entry t = some e) : e.target = t := by
  have hnamed := List.find?_some h
  simp only [MapEntry.named, Bool.and_eq_true, beq_iff_eq] at hnamed
  obtain ⟨hslot, hpanel⟩ := hnamed
  rw [MapEntry.target, hslot, hpanel]

theorem modifyEntry_entry_self {s : State} {t : Target} {e : MapEntry} (f : MapEntry → MapEntry)
    (hf : ∀ x, (f x).target = x.target) (h : s.entry t = some e) : (s.modifyEntry t f).entry t = some (f e) := by
  have hnamed : MapEntry.named t ∘ (fun x => if x.named t then f x else x) = MapEntry.named t := by
    funext x
    simp only [Function.comp_apply]
    split
    · have htarget := hf x
      simp only [MapEntry.target, Target.mk.injEq] at htarget
      simp [MapEntry.named, htarget]
    · rfl
  have he : e.named t = true := List.find?_some h
  rw [State.entry, State.modifyEntry_entries, updateEntry, List.find?_map, hnamed]
  rw [State.entry] at h
  rw [h, Option.map_some, if_pos he]

theorem commitCrossing_moves (t : Target) (s : State) (hphase : ∀ e ∈ s.entry t, e.phase = .onWeb) :
    PartMoves s (commitCrossing t s) := by
  unfold commitCrossing
  split
  · exact .refl
  · next e he =>
    have hcommitted : ∃ x ∈ (s.modifyEntry t (fun x => { x with phase := .committed })).entry e.target,
        x.phase = .committed := by
      rw [entry_named he]
      exact ⟨_, modifyEntry_entry_self _ (fun _ => rfl) he, rfl⟩
    have hexpand := (PartMove.commit t s hphase).moves.trans (expand_moves e _ hcommitted)
    exact .of_if (fun _ => hexpand.trans (convertPanel_moves t _).all) (fun _ => hexpand)

/-! ### Windows, marks and the lock -/

theorem settleReads_moves (t : Target) (s : State) : PartMoves s (settleReads t s) := by
  unfold settleReads
  split
  · exact .refl
  · exact (PartMove.ports _ s).moves

theorem setLock_moves {lock : LockState} {run : Nat} (h : lockPairs lock run) (s : State) :
    PartMoves s (setLock lock run s) := (PartMove.lock lock run s h).moves

theorem loseLock_moves (t : Target) (s : State) : PartMoves s (loseLock t s) :=
  (setLock_moves (by simp [lockPairs]) s).trans (faultHold_moves _ _ _).all

theorem lockUnread_moves (t : Target) (s : State) : PartMoves s (lockUnread t s) := by
  unfold lockUnread
  split
  · exact .of_if (fun _ => setLock_moves (by simp [lockPairs]) s) (fun _ => loseLock_moves t s)
  · exact setLock_moves (by simp [lockPairs]) s
  · exact loseLock_moves t s
  · exact setLock_moves (by simp [lockPairs]) s

theorem openCrossing_moves (t : Target) (s : State) : WebMoves s (openCrossing t s) :=
  (WebMove.window t (MapEntry.setWindow .opened) s (fun _ => rfl)).moves

/-- A closing crossing resolves its window, and then takes the moves of the scrap, the lock and the settled reads. -/
theorem closeCrossing_after {t : Target} {s : State} {e : MapEntry} (he : s.entry t = some e) :
    PartMoves (s.modifyEntry t (MapEntry.resolve .unread 0)) (closeCrossing t s) := by
  unfold closeCrossing
  rw [he]
  have hclaim (u : State) : PartMoves u (if e.policy = .required then scrapClaim t .regUnread u else u) :=
    .of_if (fun _ => (scrapClaim_moves _ _ u).all) (fun _ => .refl)
  exact (hclaim _).trans ((lockUnread_moves t _).trans (settleReads_moves t _))

theorem closeCrossing_moves (t : Target) (s : State) : WebMoves s (closeCrossing t s) := by
  cases he : s.entry t with
  | none =>
    unfold closeCrossing
    rw [he]
  | some e =>
    exact (WebMove.window t (MapEntry.resolve .unread 0) s (fun _ => rfl)).moves.trans (closeCrossing_after he).web

/-- A compared mark resolves its window, and then takes the moves of the lock and the settled reads. -/
theorem comparedMark_after (e : MapEntry) (w : Window) (s : State) :
    ∃ r n, PartMoves (s.modifyEntry e.target (MapEntry.resolve r n)) (comparedMark e w s) :=
  ⟨_, _, (setLock_moves (by simp [lockPairs]) _).trans (settleReads_moves _ _)⟩

theorem comparedMark_moves (e : MapEntry) (w : Window) (s : State) : WebMoves s (comparedMark e w s) := by
  obtain ⟨r, n, hafter⟩ := comparedMark_after e w s
  exact (WebMove.window e.target (MapEntry.resolve r n) s (fun _ => rfl)).moves.trans hafter.web

theorem markEvent_moves (s : State) : WebMoves s (markEvent s) := by
  unfold markEvent
  split
  · exact (raiseNotice_all _ _).web
  · split
    · exact (raiseNotice_all _ _).web
    · split
      · exact comparedMark_moves _ _ s
      · exact (raiseNotice_all _ _).web

/-! ### The web -/

theorem pointDue_crossing {s : State} {t : Target} {p : Point} (hp : p ≠ .deadline ∧ p ≠ .cutPosition)
    (h : s.pointDue t p = true) : ∀ e ∈ s.entry t, e.crossing s.tracker.zones p = some s.tracker.odometer := by
  intro e he
  obtain ⟨hd, hc⟩ := hp
  cases p <;> simp_all [State.pointDue]

/-- Every crossing but a window's is made of the part's moves. -/
theorem takePoint_part {t : Target} {p : Point} {s : State} (h : s.pointDue t p = true) (hopen : p ≠ .windowOpen)
    (hclose : p ≠ .windowClose) : PartMoves s (takePoint t p s) := by
  have hphase (q : Phase) (hq : ∀ e : MapEntry, e.crossing s.tracker.zones p = some s.tracker.odometer → e.phase = q)
      (hp : p ≠ .deadline ∧ p ≠ .cutPosition) : ∀ e ∈ s.entry t, e.phase = q :=
    fun e he => hq e (pointDue_crossing hp h e he)
  cases p with
  | printLine => exact (PartMove.printLine t s (hphase .queued (fun e he => by
      by_contra hne; simp [MapEntry.crossing, hne] at he) (by simp))).moves
  | commit => exact commitCrossing_moves t s (hphase .onWeb (fun e he => by
      by_contra hne; simp [MapEntry.crossing, hne] at he) (by simp))
  | knifeHead => exact knifeHeadCrossing_moves t s (hphase .committed (fun e he => by
      by_contra hne; simp [MapEntry.crossing, hne] at he) (by simp))
  | knifeTail => exact knifeTailCrossing_moves t s
  | windowOpen => exact absurd rfl hopen
  | windowClose => exact absurd rfl hclose
  | nipHead => exact (nipHeadCrossing_moves t s).all
  | nipTail => exact (nipTailCrossing_moves t s).all
  | slitHead => exact (slitHeadCrossing_moves t s).all
  | slitTail => exact (slitTailCrossing_moves t s).all
  | deadline => exact (scrapClaim_moves t .slitLate s).all
  | cutPosition => exact cutCrossing_moves s

/-- What is due but the window crossings is taken by the part's moves. -/
theorem takeDue_part {d : Due} (hd : d.owner ≠ .reg) (s : State) : PartMoves s (takeDue d s) := by
  cases d with
  | film => exact (filmStep_moves s).all
  | point t p =>
    unfold takeDue
    dsimp only
    split
    · next h =>
      refine takePoint_part h ?_ ?_
      · rintro rfl
        exact hd rfl
      · rintro rfl
        exact hd rfl
    · exact .refl

theorem takeDue_moves (d : Due) (s : State) : WebMoves s (takeDue d s) := by
  by_cases hd : d.owner = .reg
  · cases d with
    | film => cases hd
    | point t p =>
      unfold takeDue
      dsimp only
      split
      · cases p with
        | windowOpen => exact openCrossing_moves t s
        | windowClose => exact closeCrossing_moves t s
        | _ => cases hd
      · exact .refl
  · exact (takeDue_part hd s).web

theorem drain_moves (fuel : Nat) (due : List Due) (s : State) : WebMoves s (drain fuel due s) := by
  induction fuel generalizing due s with
  | zero => exact .refl
  | succ fuel ih =>
    unfold drain
    split
    · exact .refl
    · split
      · exact .refl
      · exact ((PartMove.tick _ s).moves.web.trans (takeDue_moves _ _)).trans (ih _ _)

theorem takeWindows_moves (due : List Due) (s : State) : WebMoves s (takeWindows due s) := by
  induction due generalizing s with
  | nil => exact .refl
  | cons d due ih => exact (takeDue_moves d s).trans (ih _)

theorem endAdvance_moves (s : State) : PartMoves s (endAdvance s) :=
  .of_if (fun _ => (faultHold_moves _ _ _).all) (fun _ => .refl)

theorem syncCrossings_tracker (es : List MapEntry) (s : State) :
    ∃ pulse, syncCrossings es s = s.setTracker { s.tracker with syncPulse := pulse } := by
  unfold syncCrossings
  split
  · exact ⟨_, rfl⟩
  · exact ⟨s.tracker.syncPulse, rfl⟩

theorem advance_moves (s : State) (h : s.tracker.odometer < 4294967295) : WebMoves s (advance s) := by
  obtain ⟨pulse, hpulse⟩ := syncCrossings_tracker s.map.entries
    (s.setTracker { s.tracker with odometer := s.tracker.odometer + 1 })
  have harrive : WebMoves s (syncCrossings s.map.entries
      (s.setTracker { s.tracker with odometer := s.tracker.odometer + 1 })) := by
    rw [hpulse]
    exact (WebMove.odometer pulse s h).moves
  have hend (u : State) (h : WebMoves s u) : WebMoves s (if u.leavesWindows then u else endAdvance u) := by
    split
    · exact h
    · exact h.trans (endAdvance_moves u).web
  exact hend _ (harrive.trans (drain_moves _ _ _))

theorem forwardStep_moves (s : State) : WebMoves s (forwardStep s) := by
  unfold forwardStep
  split
  · exact (PartMove.tracker { s.tracker with debt := s.tracker.debt - 1 } s rfl rfl
      (fun h => (Nat.sub_le _ 1).trans h)).moves.web
  · split
    · next h => exact advance_moves s h
    · exact (faultHold_moves _ _ _).all.web

theorem reverseStep_moves (s : State) : PartMoves s (reverseStep s) :=
  .of_if (fun h => (PartMove.tracker { s.tracker with debt := s.tracker.debt + 1 } s rfl rfl (fun _ => h)).moves)
    (fun _ => (faultHold_moves _ _ _).all)

theorem markRow_moves (s : State) : WebMoves s (markRow s) := by
  unfold markRow
  split
  · exact markEvent_moves s
  · refine .trans ?_ (endAdvance_moves _).web
    refine .trans ?_ (takeWindows_moves _ _)
    refine .trans ?_ (markEvent_moves _)
    exact (PartMove.tick _ s).moves.web.trans (takeWindows_moves _ _)

end Sys2Proof.Machine
end

section
/-! The moves of the station links' events and of the timers, of frames sent and received, and of the ends of operations. -/

namespace Sys2Proof.Machine

/-! ### Ends of an operation -/

theorem ended_moves {l : LinkId} {s u v : State} (h : LineMoves (dropOp l s) u) (hv : ClearsFlight l u v) :
    PartMoves s v := (PartMove.ended l h hv).moves

theorem lamComplete_moves {s u : State} (h : LineMoves (dropOp .lam s) u) : PartMoves s (lamComplete u) := by
  unfold lamComplete
  split
  · next hop => exact ended_moves h ⟨u.lam, hop, rfl, rfl, rfl⟩
  · next o _ =>
    have hclear := ended_moves h ⟨{ u.lam with nip := o.final, op := none }, rfl, rfl, rfl, rfl⟩
    have hfilm (v : State) : InnerMoves v (evalFilm (swapReels v)) := evalFilm_moves _ v rfl
    refine hclear.trans (InnerMoves.all (.trans ?_ (transitionDecision_moves _)))
    exact InnerMoves.of_if (fun _ => hfilm _) (fun _ => .refl)

theorem lamFail_moves {s u : State} (h : LineMoves (dropOp .lam s) u) : PartMoves s (lamFail u) := by
  unfold lamFail
  split
  · next hop => exact ended_moves h ⟨u.lam, hop, rfl, rfl, rfl⟩
  · next o _ =>
    have hclear := ended_moves h ⟨{ u.lam with op := none }, rfl, rfl, rfl, rfl⟩
    refine hclear.trans (InnerMoves.all (.trans ?_ (transitionDecision_moves _)))
    exact InnerMoves.of_if (fun _ => wantSplice_moves _) (fun _ => .refl)

theorem dropIssued_length (xs : List SlitEntry) : (dropIssued xs).length ≤ xs.length := by
  cases xs with
  | nil => rfl
  | cons x xs =>
    by_cases h : x.issued <;> simp [dropIssued, h]

theorem moveComplete_moves {s u : State} (h : LineMoves (dropOp .slit s) u) : PartMoves s (moveComplete u) := by
  unfold moveComplete
  split
  · next hmove => exact ended_moves h ⟨u.cut, hmove, rfl, rfl, le_rfl, rfl⟩
  · next m _ =>
    have hclear := ended_moves h
      ⟨{ u.cut with slit := dropIssued u.cut.slit, moveFlight := none, current := .known m.lanes }, rfl, rfl, rfl,
        dropIssued_length _, rfl⟩
    exact hclear.trans (slitAttempt_moves _).all

theorem moveFail_moves {s u : State} (h : LineMoves (dropOp .slit s) u) : PartMoves s (moveFail u) := by
  unfold moveFail
  split
  · next hmove => exact ended_moves h ⟨u.cut, hmove, rfl, rfl, le_rfl, rfl⟩
  · next m _ =>
    have hclear := ended_moves h
      ⟨{ u.cut with slit := unissue u.cut.slit, moveFlight := none, current := .unknown }, rfl, rfl, rfl,
        by simp [unissue], rfl⟩
    dsimp only
    split
    · exact hclear.trans (slitAttempt_moves _).all
    · next t _ =>
      refine hclear.trans (InnerMoves.all ?_)
      exact ((scrapClaim_moves t .stationFail _).trans (disposeSlit_moves t _)).trans (slitAttempt_moves _)

theorem cutComplete_moves {s u : State} (h : LineMoves (dropOp .xcut s) u) : PartMoves s (cutComplete u) := by
  have hcut : u.cut.cutFlight = s.cut.cutFlight := congrArg CutControl.cutFlight h.lineOnly.cut
  unfold cutComplete
  split
  · next hflight => exact ended_moves h ⟨hflight, rfl⟩
  · next c hflight => exact resolveCut_moves (.flight (hcut ▸ hflight) h) .refl

theorem cutFail_moves {s u : State} (h : LineMoves (dropOp .xcut s) u) : PartMoves s (cutFail u) := by
  have hcut : u.cut.cutFlight = s.cut.cutFlight := congrArg CutControl.cutFlight h.lineOnly.cut
  unfold cutFail
  split
  · next hflight => exact ended_moves h ⟨hflight, rfl⟩
  · next c hflight => exact resolveCut_moves (.flight (hcut ▸ hflight) h) (claimIfCut_moves c _ _)

theorem askerComplete_moves {l : LinkId} {s u : State} (h : LineMoves (dropOp l s) u) : PartMoves s (askerComplete l u) := by
  cases l with
  | feed => exact ended_moves h rfl
  | lam => exact lamComplete_moves h
  | slit => exact moveComplete_moves h
  | xcut => exact cutComplete_moves h

theorem askerFail_moves {l : LinkId} {s u : State} (h : LineMoves (dropOp l s) u) : PartMoves s (askerFail l u) := by
  cases l with
  | feed => exact ended_moves h rfl
  | lam => exact lamFail_moves h
  | slit => exact moveFail_moves h
  | xcut => exact cutFail_moves h

theorem dropOp_op (l : LinkId) (s : State) : ((dropOp l s).link l).op = none := by
  rw [dropOp, State.setLink_link_self]

theorem completeOp_moves (l : LinkId) (s : State) : PartMoves s (completeOp l s) :=
  askerComplete_moves (owedParkReport_moves l _ (dropOp_op l s))

/-- The failure of an operation that has been dropped, after what the line has made of it. -/
theorem reportFailure_moves {l : LinkId} {s u : State} (h : LineMoves (dropOp l s) u) : PartMoves s (reportFailure l u) := by
  refine askerFail_moves (h.trans (owedParkReport_moves l u ?_))
  rw [h.lineOnly.op, dropOp_op]

theorem dropOp_of_none {l : LinkId} {s : State} (h : (s.link l).op = none) : dropOp l s = s := by
  have hlink : { s.link l with op := none } = s.link l := by rw [← h]
  rw [dropOp, hlink, State.setLink_self]

/-- What follows a dropped operation: its failure is reported if there was one. -/
theorem failureIfAny_moves {l : LinkId} {s u : State} (h : LineMoves (dropOp l s) u) :
    PartMoves s (if (s.link l).op.isSome then reportFailure l u else u) := by
  refine .of_if (fun _ => reportFailure_moves h) (fun hnone => ?_)
  rw [dropOp_of_none (by simpa using hnone)] at h
  exact h.all

theorem dropOp_state (l m : LinkId) (s : State) : ((dropOp l s).link m).state = (s.link m).state :=
  s.setLink_state l m rfl

theorem failLink_moves (l : LinkId) (reason : HoldReason) (s : State) (h : (s.link l).state.carries = true) :
    PartMoves s (failLink l reason s) := by
  have hpark := parkAndReport_moves l false (dropOp l s) (.inr (by rwa [dropOp_state])) (fun _ => dropOp_op l s)
  exact failureIfAny_moves (hpark.trans (faultHold_moves reason (linkDetail l (s.link l).op) _))

theorem operationTimeout_moves (l : LinkId) (s : State) : PartMoves s (operationTimeout l s) := by
  unfold operationTimeout
  split
  · exact .refl
  · exact .of_if (fun _ => reportFailure_moves (faultHold_moves _ _ _)) (fun _ => .refl)

/-! ### State changes of a link -/

theorem enterActive_moves (l : LinkId) (s : State)
    (h : (s.link l).state = .armed ∨ (s.link l).state = .slipped) : PartMoves s (enterActive l s) := by
  have hmove : LineMoves s (moveLink l .active false
      (s.setLink l { s.link l with armTimer := none, flywheel := none, faults := 0 })) := by
    refine moveLink_moves rfl fun ho => ?_
    rcases h with h | h <;> simp_all [Link.InOrder]
  exact .of_if (fun _ => hmove.all.trans (slitAttempt_moves _).all) (fun _ => hmove.all)

theorem slipLink_moves (l : LinkId) (s : State) (h : (s.link l).state = .active) : LineMoves s (slipLink l s) := by
  refine moveLink_moves rfl fun ho => ?_
  simp_all [Link.InOrder]

theorem armLink_moves (l : LinkId) (s : State) (h : (s.link l).state = .waking) : LineMoves s (armLink l s) := by
  refine moveLink_moves rfl fun ho => ?_
  simp_all [Link.InOrder]

theorem parkDone_moves (l : LinkId) (s : State) (h : (s.link l).state = .parking) : LineMoves s (parkDone l s) := by
  refine moveLink_moves rfl fun ho => ?_
  simp_all [Link.InOrder]

/-- A raise does not read the link's fields but its state. -/
theorem raiseNotice_setLink {l : LinkId} {k : Link} {s : State} (n : Notice) (h : k.state = (s.link l).state) :
    raiseNotice n (s.setLink l k) = (raiseNotice n s).setLink l k := by
  have hgroup : (s.setLink l k).inGroup n = s.inGroup n := by
    cases n <;> simp [State.inGroup, State.setLink_state s l _ h]
  cases hn : s.inGroup n with
  | false => rw [raiseNotice_outside n s hn, raiseNotice_outside n _ (hgroup.trans hn)]
  | true =>
    rw [raiseNotice_inside n s hn, raiseNotice_inside n _ (hgroup.trans hn)]
    rfl

theorem link_raiseNotice (n : Notice) (l : LinkId) (s : State) : (raiseNotice n s).link l = s.link l :=
  link_of_links_eq (by simp) l

theorem wakeFailWaking_moves (l : LinkId) (s : State) (h : (s.link l).state = .waking) :
    LineMoves s (wakeFailWaking l s) := by
  have hraise : raiseNotice (.linkWakeFailed l) (s.setLink l { s.link l with wakeTimer := none }) =
      (raiseNotice (.linkWakeFailed l) s).setLink l { s.link l with wakeTimer := none } := raiseNotice_setLink _ rfl
  unfold wakeFailWaking
  rw [hraise, ← link_raiseNotice (.linkWakeFailed l) l s]
  refine (LineMove.raise (.linkWakeFailed l) s).moves.trans (moveLink_moves rfl fun ho => ?_)
  rw [link_raiseNotice] at ho ⊢
  simp_all [Link.InOrder]

theorem setLink_setLink (s : State) (l : LinkId) (k k' : Link) : (s.setLink l k).setLink l k' = s.setLink l k' := by
  cases l <;> rfl

/-- A link that parks has its arm timer stopped anyway. -/
theorem parkLink_armStopped (l : LinkId) (s : State) :
    parkLink l (s.setLink l { s.link l with armTimer := none }) = parkLink l s := by
  unfold parkLink
  rw [setLink_setLink, State.setLink_link_self]

theorem wakeFailArmed_moves (l : LinkId) (s : State) (h : (s.link l).state = .armed) :
    LineMoves s (wakeFailArmed l s) := by
  have hraise : raiseNotice (.linkWakeFailed l) (s.setLink l { s.link l with armTimer := none }) =
      (raiseNotice (.linkWakeFailed l) s).setLink l { s.link l with armTimer := none } := raiseNotice_setLink _ rfl
  unfold wakeFailArmed parkAndReport
  rw [hraise, ← link_raiseNotice (.linkWakeFailed l) l s, parkLink_armStopped, State.setLink_link_self]
  refine (LineMove.raise (.linkWakeFailed l) s).moves.trans ?_
  have harmed : ((raiseNotice (.linkWakeFailed l) s).link l).state = .armed := by rw [link_raiseNotice, h]
  exact (parkLink_moves l _ (.inl harmed) (fun hne => absurd harmed hne)).trans (linkReport_moves _ _ _ _)

/-! ### Recognitions -/

/-- A link changed in order, in neither its state nor its operation. -/
theorem setLink_moves (l : LinkId) (k : Link) (s : State) (hstate : k.state = (s.link l).state) (hop : k.op = (s.link l).op)
    (horder : (s.link l).InOrder → k.InOrder) : LineMoves s (s.setLink l k) := (LineMove.link l k s hstate hop horder).moves

theorem recogniseWaking_moves (l : LinkId) (code : Indication) (s : State) (h : (s.link l).state = .waking) :
    PartMoves s (recogniseWaking l code s) := by
  cases code with
  | ready => exact (armLink_moves l s h).all
  | fault => exact (wakeFailWaking_moves l s h).all
  | _ => exact .refl

theorem recogniseArmed_moves (l : LinkId) (code : Indication) (s : State) (h : (s.link l).state = .armed) :
    PartMoves s (recogniseArmed l code s) := by
  cases code with
  | engaged => exact .of_if (fun _ => enterActive_moves l s (.inl h)) (fun _ => .refl)
  | off => exact (wakeFailArmed_moves l s h).all
  | parked => exact (wakeFailArmed_moves l s h).all
  | fault => exact (wakeFailArmed_moves l s h).all
  | _ => exact .refl

theorem recogniseActive_moves (l : LinkId) (code : Indication) (tag : Nat) (s : State) (h : (s.link l).state = .active) :
    PartMoves s (recogniseActive l code tag s) := by
  cases code with
  | engaged => exact .of_if (fun _ => completeOp_moves l s) (fun _ => .refl)
  | busy => exact .refl
  | fault => exact failLink_moves l _ s (by rw [h]; rfl)
  | _ => exact (slipLink_moves l s h).all

theorem recogniseSlipped_moves (l : LinkId) (code : Indication) (tag : Nat) (s : State) (h : (s.link l).state = .slipped) :
    PartMoves s (recogniseSlipped l code tag s) := by
  have hback : PartMoves s
      (if (s.link l).completes code tag then completeOp l (enterActive l s) else enterActive l s) := by
    have hactive := enterActive_moves l s (.inr h)
    split
    · exact hactive.trans (completeOp_moves l _)
    · exact hactive
  cases code with
  | engaged => exact hback
  | busy => exact hback
  | fault => exact failLink_moves l _ s (by rw [h]; rfl)
  | _ => exact .refl

theorem recogniseParking_moves (l : LinkId) (code : Indication) (s : State) (h : (s.link l).state = .parking) :
    PartMoves s (recogniseParking l code s) := by
  cases code with
  | parked => exact (parkDone_moves l s h).all
  | _ => exact .refl

theorem recognise_moves (l : LinkId) (code : Indication) (tag report : Nat) (s : State) :
    PartMoves s (recognise l code tag report s) := by
  unfold recognise
  dsimp only
  have hkept : PartMoves s (s.setLink l { s.link l with
      lastSeen := some (code, tag), faultReport := if code = .fault then report else (s.link l).faultReport }) :=
    (setLink_moves l { s.link l with
      lastSeen := some (code, tag), faultReport := if code = .fault then report else (s.link l).faultReport }
      s rfl rfl id).all
  split
  · exact hkept
  · exact hkept
  · exact hkept
  · next h => exact hkept.trans (recogniseWaking_moves l code _ (by rw [State.setLink_link_self, h]))
  · next h => exact hkept.trans (recogniseArmed_moves l code _ (by rw [State.setLink_link_self, h]))
  · next h => exact hkept.trans (recogniseActive_moves l code tag _ (by rw [State.setLink_link_self, h]))
  · next h => exact hkept.trans (recogniseSlipped_moves l code tag _ (by rw [State.setLink_link_self, h]))
  · next h => exact hkept.trans (recogniseParking_moves l code _ (by rw [State.setLink_link_self, h]))

/-! ### Frames -/

theorem frameFault_moves (l : LinkId) (s : State) : LineMoves s (frameFault l s) := by
  unfold frameFault
  dsimp only
  split
  · next h =>
    have hcount : LineMoves s (s.setLink l { s.link l with previous := none, faults := min 2 ((s.link l).faults + 1) }) := by
      refine setLink_moves l { s.link l with previous := none, faults := min 2 ((s.link l).faults + 1) } s rfl rfl fun ho => ?_
      obtain ⟨h1, h2, h3, h4, h5, h6, h7⟩ := ho
      exact ⟨h1, h2, h3, h4, h5, Nat.min_le_left _ _, h7⟩
    split
    · exact hcount.trans (slipLink_moves l _ (by rw [State.setLink_link_self, h]))
    · exact hcount
  · exact setLink_moves l { s.link l with previous := none } s rfl rfl id

theorem countError_inOrder (k : Link) (h : k.InOrder) : k.countError.InOrder := by
  obtain ⟨h1, h2, h3, h4, h5, h6, h7, h8, h9, h10, h11⟩ := h
  unfold Link.countError
  split
  · next hlt => exact ⟨h1, h2, h3, h4, h5, h6, h7, h8, h9, hlt, h11⟩
  · exact ⟨h1, h2, h3, h4, h5, h6, h7, h8, h9, h10, h11⟩

theorem countError_state_op (k : Link) : k.countError.state = k.state ∧ k.countError.op = k.op := by
  unfold Link.countError
  split <;> exact ⟨rfl, rfl⟩

theorem countInvalid_moves (l : LinkId) (s : State) : PartMoves s (countInvalid l s) :=
  .of_if (fun _ => (PartMove.ports _ s).moves)
    (fun _ => (setLink_moves l _ s (countError_state_op _).1 (countError_state_op _).2 (countError_inOrder _)).all)

theorem takeValid_inOrder (k : Link) (code : Indication) (tag : Nat) (h : k.InOrder) : (k.takeValid code tag).InOrder := by
  obtain ⟨h1, h2, h3, h4, h5, h6, h7, h8, h9, h10, h11⟩ := h
  refine ⟨h1, h2, h3, h4, h5, ?_, h7, h8, h9, h10, ?_⟩
  · unfold Link.takeValid
    dsimp only
    split <;> omega
  · unfold Link.takeValid
    dsimp only
    split
    · exact Nat.min_le_left _ _
    · exact h11

theorem stationFrame_moves (l : LinkId) (bytes : Bytes) (s : State) : PartMoves s (stationFrame l bytes s) := by
  unfold stationFrame
  dsimp only
  split
  · exact .refl
  · have hheard (u : State) : LineMoves u (u.setLink l { u.link l with heard := true }) :=
      setLink_moves l { u.link l with heard := true } u rfl rfl id
    exact (countInvalid_moves l s).trans ((hheard _).all.trans (frameFault_moves l _).all)
  · next code tag report _ =>
    have hvalid : PartMoves s (s.setLink l ((s.link l).takeValid code tag)) :=
      (setLink_moves l ((s.link l).takeValid code tag) s rfl rfl (takeValid_inOrder _ code tag)).all
    exact .of_if (fun _ => hvalid.trans (recognise_moves l code tag report _)) (fun _ => hvalid)

theorem closePeriod_moves (l : LinkId) (s : State) : LineMoves s (closePeriod l s) := by
  have hclose (u : State) : LineMoves u (u.setLink l { u.link l with heard := false }) :=
    setLink_moves l { u.link l with heard := false } u rfl rfl id
  unfold closePeriod
  dsimp only
  split
  · exact hclose s
  · exact (frameFault_moves l s).trans (hclose _)

theorem sendFrame_moves (l : LinkId) (s : State) : LineMoves s (sendFrame l s) :=
  setLink_moves l { s.link l with sent := frameOf l s.line.commanded (s.link l) } s rfl rfl id

theorem framePeriod_moves (s : State) : PartMoves s (framePeriod s) := by
  refine (PartMove.timers s).moves.trans (LineMoves.all ?_)
  exact (LineMoves.foldl (fun s l => closePeriod_moves l s) allLinks (tickTimers s)).trans
    (LineMoves.foldl (fun s l => sendFrame_moves l s) allLinks _)

/-! ### Timer expiries -/

theorem wakeExpiry_moves (l : LinkId) (s : State) : PartMoves s (wakeExpiry l s) :=
  .of_if (fun h => (wakeFailWaking_moves l s h.2).all) (fun _ => .refl)

theorem armExpiry_moves (l : LinkId) (s : State) : PartMoves s (armExpiry l s) :=
  .of_if (fun h => (wakeFailArmed_moves l s h.2).all) (fun _ => .refl)

theorem flywheelExpiry_moves (l : LinkId) (s : State) : PartMoves s (flywheelExpiry l s) :=
  .of_if (fun h => failLink_moves l .linkLost s (by rw [h.2]; rfl)) (fun _ => .refl)

theorem parkExpiry_moves (l : LinkId) (s : State) : PartMoves s (parkExpiry l s) := by
  refine .of_if (fun h => LineMoves.all ?_) (fun _ => .refl)
  obtain ⟨-, hstate⟩ := h
  refine moveLink_moves rfl fun ho => ?_
  simp_all [Link.InOrder]

/-! ### The commands of the links -/

theorem linkReport_state_of_down {l : LinkId} {old : LinkState} {s : State} (h : (s.link l).state = .down) :
    ((linkReport l old false s).link l).state = .down ∨ ((linkReport l old false s).link l).state = .waking := by
  have hwake : ((wakeOwed l s).link l).state = .down ∨ ((wakeOwed l s).link l).state = .waking := by
    unfold wakeOwed
    split
    · refine .inr ?_
      rw [wakeLink, enterLink, passLinkUp, link_of_links_eq (s := _) (passLevel_frame _ _ _).2.2.2.2.2.2.1,
        State.setLink_link_self]
    · exact .inl h
  have hgo (u : State) (hu : (u.link l).state = .down ∨ (u.link l).state = .waking) : goReport l u = u := by
    have harmed : (u.link l).state ≠ .armed := by rcases hu with hu | hu <;> simp [hu]
    have hall : u.allLinksIn LinkState.armedUp = false := by
      rw [Bool.eq_false_iff]
      intro hall
      have hl := List.all_eq_true.1 hall l (by cases l <;> simp [allLinks])
      rcases hu with hu | hu <;> simp [hu, LinkState.armedUp] at hl
    simp [goReport, giveGo, harmed, hall]
  have harmed (u : State) (hu : (u.link l).state = .down ∨ (u.link l).state = .waking) : armedReport u = u := by
    have hall : u.allLinksIn (fun st => st == .active) = false := by
      rw [Bool.eq_false_iff]
      intro hall
      have hl := List.all_eq_true.1 hall l (by cases l <;> simp [allLinks])
      rcases hu with hu | hu <;> simp [hu] at hl
    simp [armedReport, hall]
  unfold linkReport
  dsimp only
  split
  · rw [if_neg (by simp [failsStart, h]), hgo _ hwake, harmed _ hwake]
    exact hwake
  all_goals simp [h]

theorem acknowledgeLink_moves (l : LinkId) (s : State) (h : (s.link l).state = .unacked) :
    LineMoves s (acknowledgeLink l s) := by
  have hdown : LineMoves s (moveLink l .down false s) := by
    have hmove : LineMoves s (moveLink l .down false (s.setLink l (s.link l))) := by
      refine moveLink_moves rfl fun ho => ?_
      simp_all [Link.InOrder]
    rwa [State.setLink_self] at hmove
  have hstate : ((enterLink l .down s).link l).state = .down := by
    rw [enterLink, passLinkUp, link_of_links_eq (passLevel_frame _ _ _).2.2.2.2.2.2.1, State.setLink_link_self]
  unfold acknowledgeLink
  dsimp only
  split
  · exact hdown
  · exact hdown.trans (wakeLink_moves l _ (linkReport_state_of_down hstate))

theorem linkAcknowledge_moves (n : Nat) (s : State) : PartMoves s (linkAcknowledge n s).1 := by
  unfold linkAcknowledge
  split
  · exact .refl
  · split
    · next h => exact (acknowledgeLink_moves _ s h).all
    · exact .refl

theorem testLink_moves (l : LinkId) (s : State) : PartMoves s (testLink l s) := by
  refine failureIfAny_moves ?_
  have hquiet : s.setLink l (s.link l).quietForTest = (dropOp l s).setLink l (s.link l).quietForTest := by
    rw [dropOp, setLink_setLink]
  rw [hquiet]
  refine moveLink_moves (dropOp_op l s).symm fun ho => ?_
  rw [dropOp, State.setLink_link_self] at ho
  simp_all [Link.InOrder, Link.quietForTest]

theorem linkTest_moves (n : Nat) (s : State) : PartMoves s (linkTest n s).1 := by
  unfold linkTest
  split
  · exact .refl
  · exact testLink_moves _ s

theorem linkTestEnd_moves (n : Nat) (s : State) : PartMoves s (linkTestEnd n s).1 := by
  unfold linkTestEnd
  split
  · exact .refl
  · next l _ =>
    split
    · next h =>
      have hmove : LineMoves s (moveLink l .down false (s.setLink l (s.link l))) := by
        refine moveLink_moves rfl fun ho => ?_
        simp_all [Link.InOrder]
      rw [State.setLink_self] at hmove
      exact hmove.all
    · exact .refl

end Sys2Proof.Machine
end

section
/-! The moves of the commands, and with them of every step: each command makes the part's moves, but that an encoder step and a
mark also advance the web and take window crossings. -/

namespace Sys2Proof.Machine

/-! ### Announcements, withdrawals and scrap -/

theorem newEntry_window (policy : MarkPolicy) (n w : Nat) :
    ∀ x ∈ newWindow policy n w, x = { expected := n, halfWidth := w, status := .notOpen } := by
  intro x hx
  unfold newWindow at hx
  split at hx
  · cases hx
  · exact (Option.mem_some.1 hx).symm

/-- What the checks of R21 establish of the new entry. -/
theorem announced_newEntry {a : Announcement} {cls : LamClass} {policy : MarkPolicy} {s : State}
    (hroom : ¬ Config.mapSize ≤ s.map.entries.length) (hrange : announceRange a s = none)
    (hnames : announceNames a s = none) : Announced (newEntry a cls policy s) s := by
  have hhead : s.map.lastTail ≤ s.proposedHead a.gap ∧ s.tracker.odometer ≤ s.proposedHead a.gap := by
    unfold State.proposedHead
    omega
  unfold announceRange at hrange
  split_ifs at hrange with hpanel hlength hcls hpolicy hgap htop
  unfold announceNames at hnames
  split at hnames
  · cases hnames
  · next hfree =>
    split at hnames
    · cases hnames
    · next hplan =>
      refine ⟨by simpa [Config.mapSize] using hroom, rfl, ⟨Nat.one_le_iff_ne_zero.2 hpanel, fun x hx => ?_⟩, ?_, hhead, ?_, ?_,
        rfl, rfl, newEntry_window _ _ _⟩
      · simpa [newEntry] using List.find?_eq_none.1 hfree x hx
      · simpa [newEntry, Option.isSome_iff_ne_none] using hplan
      · simp only [newEntry]
        omega
      · simp only [newEntry, MapEntry.tail]
        simp only [Config.odometerTop] at htop
        omega

theorem takeReservation_moves (t : Target) (s : State) : InnerMoves s (takeReservation t s) :=
  .of_if (fun _ => (InnerMove.lam { s.lam with reservation := none, request := .placed t } s rfl rfl rfl).moves)
    (fun _ => .refl)

theorem announcePanel_moves (a : Announcement) (s : State) : PartMoves s (announcePanel a s).1 := by
  unfold announcePanel
  split
  · exact .refl
  · next hroom =>
    split
    · exact .refl
    · next hrange =>
      split
      · exact .refl
      · next hnames =>
        split
        · split
          · exact .refl
          · exact (PartMove.announce _ (announced_newEntry hroom hrange hnames) (takeReservation_moves _ _)
              (lamAnnounced_moves _ _)).moves
        · exact .refl
        · exact .refl

theorem find?_of_imp {α : Type} {p q : α → Bool} {xs : List α} {x : α} (h : xs.find? p = some x) (hq : q x = true)
    (hqp : ∀ y, q y = true → p y = true) : xs.find? q = some x := by
  induction xs with
  | nil => cases h
  | cons y ys ih =>
    rw [List.find?_cons] at h ⊢
    cases hp : p y with
    | true =>
      rw [hp] at h
      cases h
      rw [hq]
    | false =>
      rw [hp] at h
      have hqy : q y = false := Bool.eq_false_iff.2 fun hy => by simp [hqp y hy] at hp
      rw [hqy]
      exact ih h

/-- An entry found by its panel number is the one its name finds. -/
theorem entry_of_byPanel {s : State} {panel : Nat} {e : MapEntry} (h : s.byPanel panel = some e) :
    s.entry e.target = some e := by
  have hpanel : e.panel = panel := by simpa using List.find?_some h
  refine find?_of_imp h (by simp [MapEntry.named, MapEntry.target]) fun y hy => ?_
  simp_all [MapEntry.named, MapEntry.target]

theorem withdrawPanel_moves (n : Nat) (s : State) : PartMoves s (withdrawPanel n s).1 := by
  unfold withdrawPanel
  split
  · exact .refl
  · next e he =>
    split
    · next hphase => exact (PartMove.withdraw e (entry_of_byPanel he) hphase (lamRemoved_moves _ _ _)).moves
    · exact .refl

theorem scrapPanel_moves (n : Nat) (s : State) : PartMoves s (scrapPanel n s).1 := by
  unfold scrapPanel
  split
  · exact .refl
  · exact (scrapClaim_moves _ _ s).all

/-! ### Plans -/

theorem plan_mem {s : State} {n : Nat} {q : Plan} (h : s.plan n = some q) : q ∈ s.plans.plans ∧ q.number = n :=
  ⟨List.mem_of_find?_eq_some h, State.plan_number h⟩

theorem updatePlan_mem {n : Nat} {f : Plan → Plan} {qs : List Plan} {q : Plan} (h : q ∈ updatePlan n f qs) :
    ∃ x ∈ qs, (x.number = n ∧ q = f x) ∨ (x.number ≠ n ∧ q = x) := by
  obtain ⟨x, hx, rfl⟩ := List.mem_map.1 h
  refine ⟨x, hx, ?_⟩
  by_cases hn : x.number = n
  · exact .inl ⟨hn, by simp [hn]⟩
  · exact .inr ⟨hn, by simp [hn]⟩

/-- Plans changed in neither their numbers nor their counts are counted as before. -/
theorem plansCounted_updatePlan {s : State} {n : Nat} {f : Plan → Plan}
    (hf : ∀ q ∈ s.plans.plans, q.number = n → (f q).number = n ∧ (f q).refs = q.refs) (h : PlansCounted s) :
    PlansCounted (s.setPlans { s.plans with plans := updatePlan n f s.plans.plans }) := by
  obtain ⟨hnames, hsorted, hplans, hrefs⟩ := h
  refine ⟨hnames, ?_, fun e he => ?_, fun q hq => ?_⟩
  · refine (List.pairwise_map.2 (hsorted.imp_of_mem fun {a b} ha hb hab => ?_))
    have hnumber (q : Plan) (hq : q ∈ s.plans.plans) : (if q.number == n then f q else q).number = q.number := by
      by_cases hn : q.number = n
      · simp [hn, hf q hq hn]
      · simp [hn]
    rw [hnumber a ha, hnumber b hb]
    exact hab
  · obtain ⟨q, hq, hnumber⟩ := hplans e he
    refine ⟨_, List.mem_map_of_mem hq, ?_⟩
    by_cases hn : q.number = n
    · rw [if_pos (by simpa using hn), (hf q hq hn).1, ← hn, hnumber]
    · rw [if_neg (by simpa using hn), hnumber]
  · obtain ⟨x, hx, ⟨hn, rfl⟩ | ⟨-, rfl⟩⟩ := updatePlan_mem hq
    · rw [(hf x hx hn).2, (hf x hx hn).1, ← hn]
      exact hrefs x hx
    · exact hrefs _ hx

theorem plansCounted_plan {s : State} (h : PlansCounted s) {n : Nat} (hn : s.plan n = none) :
    ∀ e ∈ s.map.entries, e.plan ≠ n := by
  intro e he heq
  obtain ⟨q, hq, hnumber⟩ := h.2.2.1 e he
  exact absurd (hnumber.trans heq) (by simpa using List.find?_eq_none.1 hn q hq)

theorem insertPlan_sorted {x : Plan} {qs : List Plan} (h : qs.Pairwise (fun a b => a.number < b.number))
    (hx : ∀ q ∈ qs, q.number ≠ x.number) : (insertPlan x qs).Pairwise (fun a b => a.number < b.number) := by
  induction qs with
  | nil => simp [insertPlan]
  | cons q qs ih =>
    obtain ⟨hq, hqs⟩ := List.pairwise_cons.1 h
    unfold insertPlan
    split
    · next hlt =>
      refine List.pairwise_cons.2 ⟨fun y hy => ?_, h⟩
      rcases List.mem_cons.1 hy with rfl | hy
      · exact hlt
      · exact hlt.trans (hq y hy)
    · next hge =>
      refine List.pairwise_cons.2 ⟨fun y hy => ?_, ih hqs fun y hy => hx y (List.mem_cons_of_mem _ hy)⟩
      rcases (mem_insertPlan x y qs).1 hy with rfl | hy
      · exact lt_of_le_of_ne (not_lt.1 hge) (hx q List.mem_cons_self)
      · exact hq y hy

theorem plansCounted_insert {s : State} {x : Plan} (hnew : s.plan x.number = none) (hrefs : x.refs = 0)
    (h : PlansCounted s) : PlansCounted (s.setPlans { s.plans with plans := insertPlan x s.plans.plans }) := by
  have hfree := plansCounted_plan h hnew
  have hapart : ∀ q ∈ s.plans.plans, q.number ≠ x.number := by
    simpa using List.find?_eq_none.1 hnew
  obtain ⟨hnames, hsorted, hplans, hcounts⟩ := h
  refine ⟨hnames, insertPlan_sorted hsorted hapart, fun e he => ?_, fun q hq => ?_⟩
  · obtain ⟨q, hq, hnumber⟩ := hplans e he
    exact ⟨q, (mem_insertPlan x q _).2 (.inr hq), hnumber⟩
  · rcases (mem_insertPlan x q _).1 hq with rfl | hq
    · rw [hrefs]
      exact (List.countP_eq_zero.2 fun e he => by simpa using hfree e he).symm
    · exact hcounts q hq

theorem plansCounted_erase {s : State} {n : Nat} (hunused : ∀ q ∈ s.plan n, q.refs = 0) (h : PlansCounted s) :
    PlansCounted (s.setPlans { s.plans with plans := s.plans.plans.eraseP (fun q => q.number == n) }) := by
  obtain ⟨hnames, hsorted, hplans, hcounts⟩ := h
  refine ⟨hnames, hsorted.sublist List.eraseP_sublist, fun e he => ?_, fun q hq => hcounts q (List.mem_of_mem_eraseP hq)⟩
  obtain ⟨q, hq, hnumber⟩ := hplans e he
  refine ⟨q, (List.mem_eraseP_of_neg ?_).2 hq, hnumber⟩
  intro hn
  have hqn : q.number = n := by simpa using hn
  have hfind : s.plan n = some q := by
    rw [State.plan, List.find?_eq_some_iff_append]
    obtain ⟨before, after, heq⟩ := List.append_of_mem hq
    refine ⟨hn, before, after, heq, fun y hy => ?_⟩
    rw [heq] at hsorted
    have hlt := (List.pairwise_append.1 hsorted).2.2 y hy q List.mem_cons_self
    simp only [Bool.not_eq_true', beq_eq_false_iff_ne]
    omega
  have hzero := hunused q hfind
  rw [hcounts q hq] at hzero
  exact absurd (List.countP_eq_zero.1 hzero e he) (by simp [hnumber])

theorem planOpen_moves (n ratio count : Nat) (slits : List Nat) (s : State) :
    PartMoves s (planOpen n ratio count slits s).1 := by
  unfold planOpen
  split
  · exact .refl
  · next hrange =>
    have hratio : ratio ≤ 100 := by
      unfold planOpenRange at hrange
      split_ifs at hrange with hr
      omega
    dsimp only
    split
    · next q hq =>
      obtain ⟨hmem, hnumber⟩ := plan_mem hq
      split
      · exact .refl
      · next hrefs =>
        refine (PartMove.plans _ s ?_ ?_ ?_).moves
        · simp
        · intro h x hx
          obtain ⟨y, hy, ⟨-, rfl⟩ | ⟨-, rfl⟩⟩ := updatePlan_mem hx
          · exact hratio
          · exact h _ hy
        · intro h
          refine plansCounted_updatePlan (fun x hx hxn => ⟨rfl, ?_⟩) h
          obtain ⟨-, hsorted, -⟩ := h
          have hsame : x = q := by
            by_contra hne
            rcases List.pairwise_iff_getElem.1 hsorted with hlt
            obtain ⟨i, hi, rfl⟩ := List.getElem_of_mem hx
            obtain ⟨j, hj, rfl⟩ := List.getElem_of_mem hmem
            rcases lt_trichotomy i j with hij | rfl | hij
            · have := hlt i j hi hj hij
              omega
            · exact hne rfl
            · have := hlt j i hj hi hij
              omega
          rw [hsame]
          simp only [newPlan]
          omega
    · next hnone =>
      split
      · exact .refl
      · next hroom =>
        refine (PartMove.plans _ s ?_ ?_ (plansCounted_insert hnone rfl)).moves
        · intro _
          simp only [Config.planSize] at hroom
          simp only [insertPlan_length]
          omega
        · intro h x hx
          rcases (mem_insertPlan _ _ _).1 hx with rfl | hx
          · exact hratio
          · exact h _ hx

/-- A plan of the store changed in neither its number, its ratio nor its count. -/
theorem modifyPlan_moves (n : Nat) (f : Plan → Plan) (s : State)
    (hf : ∀ q, (f q).number = q.number ∧ (f q).ratio = q.ratio ∧ (f q).refs = q.refs) : PartMoves s (s.modifyPlan n f) := by
  refine (PartMove.plans _ s ?_ ?_ (plansCounted_updatePlan fun q _ hq => ?_)).moves
  · simp
  · intro h x hx
    obtain ⟨y, hy, ⟨-, rfl⟩ | ⟨-, rfl⟩⟩ := updatePlan_mem hx
    · rw [(hf y).2.1]
      exact h _ hy
    · exact h _ hy
  · exact ⟨(hf q).1.trans hq, (hf q).2.2⟩

theorem planAppend_moves (n count : Nat) (offsets : List Nat) (s : State) :
    PartMoves s (planAppend n count offsets s).1 := by
  unfold planAppend
  split
  · exact .refl
  · split_ifs
    · exact .refl
    · exact .refl
    · exact .refl
    · exact .refl
    · exact modifyPlan_moves n _ s (fun _ => ⟨rfl, rfl, rfl⟩)

theorem planClose_moves (n : Nat) (s : State) : PartMoves s (planClose n s).1 := by
  unfold planClose
  split
  · exact .refl
  · split
    · exact .refl
    · split
      · exact .refl
      · exact modifyPlan_moves n _ s (fun _ => ⟨rfl, rfl, rfl⟩)

theorem planDiscard_moves (n : Nat) (s : State) : PartMoves s (planDiscard n s).1 := by
  unfold planDiscard
  split
  · exact .refl
  · next q hq =>
    split
    · exact .refl
    · next hrefs =>
      refine (PartMove.plans _ s ?_ ?_ (plansCounted_erase fun x hx => ?_)).moves
      · exact fun h => (List.length_eraseP_le).trans h
      · exact fun h x hx => h x (List.mem_of_mem_eraseP hx)
      · rw [hq] at hx
        obtain rfl := Option.some.inj hx
        omega

/-! ### Settings -/

theorem filmStandby_moves (n : Nat) (s : State) : PartMoves s (filmStandby n s).1 := by
  unfold filmStandby
  split_ifs
  · exact .refl
  · exact .refl
  · exact (evalFilm_moves { s.lam with standby := some n } s rfl).all

theorem filmThread_moves (n : Nat) (s : State) : PartMoves s (filmThread n s).1 := by
  unfold filmThread
  split_ifs
  · exact .refl
  · exact .refl
  · have hfilm := evalFilm_moves { s.lam with reelLength := n, remaining := n } s rfl
    exact hfilm.all.trans (transitionDecision_moves _).all

theorem spliceRequest_moves (s : State) : PartMoves s (spliceRequest s).1 := by
  unfold spliceRequest
  split_ifs
  · exact .refl
  · exact (wantSplice_moves s).all
  · exact .refl

theorem gapSet_moves (transition splice spacing : Nat) (s : State) :
    PartMoves s (gapSet transition splice spacing s).1 := by
  unfold gapSet
  split_ifs
  · exact .refl
  · exact .refl
  · exact .refl
  · have hlam := (InnerMove.lam { s.lam with
      transitionGap := transition, spliceGap := splice, reservation := s.lam.reservation.map (fun _ => splice) }
      s rfl rfl rfl).moves.all
    have hspacing (u : State) : PartMoves u (u.setPlans { u.plans with spacing := spacing }) :=
      (PartMove.plans { u.plans with spacing := spacing } u id id id).moves
    exact hlam.trans (hspacing _)

theorem zoneDefine_moves (z : Zones) (s : State) : PartMoves s (zoneDefine z s).1 := by
  unfold zoneDefine
  split
  · exact .refl
  · next hempty =>
    split
    · exact .refl
    · next hz =>
      refine (PartMove.zones z s (not_not.1 hempty) ?_).moves
      unfold zoneFailure at hz
      split_ifs at hz
      omega

theorem syncCrossings_moves (es : List MapEntry) (s : State) : PartMoves s (syncCrossings es s) :=
  .of_if (fun _ => (PartMove.tracker { s.tracker with syncPulse := some Config.syncPulseMs } s rfl rfl id).moves)
    (fun _ => .refl)

theorem syncSet_moves (mode lead : Nat) (s : State) : PartMoves s (syncSet mode lead s).1 := by
  unfold syncSet
  split
  · exact .refl
  · next m _ =>
    split
    · exact .refl
    · refine (PartMove.tracker { s.tracker with syncMode := m, syncLead := lead } s rfl rfl id).moves.trans ?_
      exact PartMoves.of_if (fun _ => syncCrossings_moves _ _) (fun _ => .refl)

theorem thresholdSet_moves (high low : Nat) (s : State) : PartMoves s (thresholdSet high low s).1 := by
  unfold thresholdSet
  split_ifs
  · exact .refl
  · exact .refl
  · exact (PartMove.thresholds high low s).moves

theorem registrationSet_moves (w tolerance : Nat) (s : State) : PartMoves s (registrationSet w tolerance s).1 := by
  unfold registrationSet
  split_ifs with hw
  · exact .refl
  · exact .refl
  · exact .refl
  · exact (PartMove.registration w tolerance s (by omega)).moves

/-! ### Notices -/

theorem setCopy_moves (p : PortId) (c : NoticeCopy) (s : State)
    (hc : (s.notices.copies.get p).Tells → c.Tells) : PartMoves s (setCopy p c s) := by
  refine (PartMove.notices { s.notices with copies := s.notices.copies.set p c } s rfl fun q hq => ?_).moves
  by_cases hqp : q = p
  · subst hqp
    rw [PerPort.get_set_self]
    exact hc hq
  · rwa [PerPort.get_set_of_ne _ _ _ _ hqp]

theorem clearNotices_moves (p : PortId) (set : Nat) (s : State) : PartMoves s (clearNotices p set s).1 :=
  setCopy_moves p _ s (fun _ => rfl)

theorem setNoticeMask_moves (p : PortId) (mask : Nat) (s : State) : PartMoves s (setNoticeMask p mask s).1 :=
  setCopy_moves p _ s (fun _ => rfl)

theorem setLatchMasked_moves (p : PortId) (option : Nat) (s : State) : PartMoves s (setLatchMasked p option s).1 := by
  unfold setLatchMasked
  split
  · exact .refl
  · exact setCopy_moves p _ s id

/-! ### Commands that steer the line -/

theorem Steers.frame_of {s t : State} (htracker : t.tracker = s.tracker) (hmap : t.map = s.map) (hplans : t.plans = s.plans)
    (hreg : t.reg = s.reg) (hlam : t.lam = s.lam) (hcut : t.cut = s.cut) (hlinks : t.links = s.links)
    (hports : t.ports = s.ports) (hbusy : t.busy = s.busy) (htick : t.freeTick = s.freeTick)
    (hpending : t.pending = s.pending) : t = { s with line := t.line, hold := t.hold, notices := t.notices } := by
  cases t
  simp_all

theorem haltReport_links (s : State) : (haltReport s).links = s.links := by
  by_cases h : s.line.state = .run ∧ s.hold.stack ≠ []
  · rw [haltReport_eq s h.1 h.2]
    split_ifs <;> simp
  · rw [haltReport, if_neg h]

theorem runEntry_links (s : State) : (runEntry s).links = s.links := by
  unfold runEntry
  split
  · dsimp only
    split <;> simp [faultHold_links]
  · simp

/-- The report of a changed stack (R135, R140), taken apart. -/
theorem stackReport_cases (s : State) :
    (s.hold.stack = [] ∧ (s.line.state = .halting ∨ s.line.state = .held) ∧
        stackReport s = passLevel .holdActive (runEntry s).holdActive (runEntry s)) ∨
      (s.hold.stack = [] ∧ stackReport s = passLevel .holdActive s.holdActive s) ∨
      (s.hold.stack ≠ [] ∧ stackReport s = passLevel .holdActive (haltReport s).holdActive (haltReport s)) := by
  unfold stackReport
  by_cases h : s.hold.stack = []
  · cases hst : s.line.state <;> simp [h]
  · simp [h]

theorem stackReport_links (s : State) : (stackReport s).links = s.links := by
  rcases stackReport_cases s with ⟨-, -, heq⟩ | ⟨-, heq⟩ | ⟨-, heq⟩ <;> rw [heq]
  · simp [runEntry_links]
  · simp
  · simp [haltReport_links]

theorem stackReport_carries (s : State) : s.Carries (stackReport s) := by
  rcases stackReport_cases s with ⟨hs, -, heq⟩ | ⟨-, heq⟩ | ⟨-, heq⟩ <;> rw [heq]
  · exact (runEntry_moves s hs).carries.trans (passLevel_carries _ _ _)
  · exact passLevel_carries _ _ _
  · exact (haltReport_carries s).trans (passLevel_carries _ _ _)

theorem stackReport_holdsKept (s : State) (h : s.hold.InOrder) : HoldsKept (stackReport s) := by
  have hpass (u : State) (v : Bool) (hu : HoldsKept u) : HoldsKept (passLevel .holdActive v u) :=
    hu.of_eq (by simp) (by simp)
  rcases stackReport_cases s with ⟨hs, -, heq⟩ | ⟨hs, heq⟩ | ⟨hs, heq⟩ <;> rw [heq] <;> apply hpass
  · exact (runEntry_moves s hs).keep LineMove.holdsKept ⟨fun _ => hs, h⟩
  · exact ⟨fun _ => hs, h⟩
  · refine ⟨fun hrun => absurd hrun (haltReport_not_run s hs), ?_⟩
    unfold HoldsInOrder
    rw [show (haltReport s).hold = s.hold by simp]
    exact h

theorem stackReport_speedsInOrder (s : State) (h : SpeedsInOrder s) : SpeedsInOrder (stackReport s) := by
  have hpass (u : State) (v : Bool) (hu : SpeedsInOrder u) : SpeedsInOrder (passLevel .holdActive v u) :=
    hu.of_eq (by simp) (by simp)
  rcases stackReport_cases s with ⟨hs, -, heq⟩ | ⟨-, heq⟩ | ⟨-, heq⟩ <;> rw [heq] <;> apply hpass
  · exact (runEntry_moves s hs).keep LineMove.speedsInOrder h
  · exact h
  · exact haltReport_speedsInOrder h

theorem runEntry_agrees {s : State} {n : Notice} (hn : n ≠ .holdActive) (h : s.Agrees n) : (runEntry s).Agrees n := by
  unfold runEntry
  split
  · dsimp only
    split
    · exact enterLine_agrees fun _ => faultHold_agrees fun _ => h
    · exact faultHold_agrees fun _ => h
  · exact enterLine_agrees fun _ => h

theorem stackReport_agrees (s : State) (h : ∀ n, n ≠ .holdActive → s.Agrees n) (n : Notice) :
    (stackReport s).Agrees n := by
  rcases stackReport_cases s with ⟨-, -, heq⟩ | ⟨-, heq⟩ | ⟨-, heq⟩ <;> rw [heq] <;> refine passLevel_agrees rfl fun hn => ?_
  · exact runEntry_agrees hn (h n hn)
  · exact h n hn
  · exact haltReport_agrees (h n hn)

/-- The stack changed in order, and reported. -/
theorem stackReport_steers (x : HoldUnit) (s : State) (hx : s.hold.InOrder → x.InOrder) :
    s.Steers (stackReport (s.setHold x)) where
  frame := by
    apply Steers.frame_of
    case hlinks => rw [stackReport_links, State.setHold_links]
    all_goals simp
  holds h := stackReport_holdsKept _ (hx h.2)
  speeds h := stackReport_speedsInOrder _ (h.of_eq (by simp) (by simp))
  levels h := stackReport_agrees _ fun n hn =>
    (h n).of_eq (State.raw_congr n (fun _ => rfl) (fun he => absurd he hn) (fun _ _ => rfl) rfl rfl rfl) rfl
  carries := (stackReport_carries _).of_notices rfl

theorem stackChange_moves (x : HoldUnit) (s : State) (hx : s.hold.InOrder → x.InOrder) :
    PartMoves s (stackReport (s.setHold x)) := (PartMove.steers (stackReport_steers x s hx)).moves

theorem holdCommand_moves (p : PortId) (s : State) : PartMoves s (holdCommand p s).1 := by
  unfold holdCommand
  split
  · exact .refl
  · next hroom =>
    refine stackChange_moves _ s fun h => pushHold_inOrder (.port p) .operator noDetail s h ?_
    simpa [Config.holdSize] using hroom

theorem releaseAt_inOrder (depth : Nat) (overflow : Bool) (k : HoldUnit) (h : k.InOrder) :
    HoldUnit.InOrder { k with stack := releaseAt depth k.stack, overflow := overflow } := by
  obtain ⟨hlength, htop, hnodup, hnext, hlow, hhigh⟩ := h
  unfold releaseAt
  by_cases hd : depth = 0
  · rw [if_pos hd]
    have hsub : ((k.stack.drop 1).dropWhile (fun r => r.tag == .released)).Sublist k.stack :=
      (List.dropWhile_sublist _).trans (List.drop_sublist 1 _)
    refine ⟨hsub.length_le.trans hlength, fun r hr => ?_, hnodup.sublist (hsub.map _),
      fun hm => hnext ((hsub.map _).subset hm), hlow, hhigh⟩
    have hkept := List.head?_dropWhile_not (fun r : HoldRecord => r.tag == .released) (k.stack.drop 1)
    rw [Option.mem_def.1 hr] at hkept
    cases htag : r.tag <;> simp_all
  · rw [if_neg hd]
    have hnumbers : (k.stack.modify depth (fun r => { r with tag := .released })).map (fun r => r.number) =
        k.stack.map (fun r => r.number) := by
      refine List.ext_getElem (by simp) fun i _ _ => ?_
      simp only [List.getElem_map, List.getElem_modify]
      split <;> rfl
    refine ⟨by simpa using hlength, fun r hr => htop r ?_, ?_, ?_, hlow, hhigh⟩
    · cases hst : k.stack with
      | nil => simp [hst] at hr
      | cons y ys =>
        rw [hst] at hr
        obtain ⟨m, rfl⟩ := Nat.exists_eq_succ_of_ne_zero hd
        simpa using hr
    · rw [HoldUnit.numbers, hnumbers]
      exact hnodup
    · rw [HoldUnit.numbers, hnumbers]
      exact hnext

/-- The lock's return to SEEKING and a change of the stack do not meet. -/
theorem seekLock_setHold (x : HoldUnit) (s : State) : seekLock (s.setHold x) = (seekLock s).setHold x := by
  have hraise (u : State) : raiseNotice .regLock (u.setHold x) = (raiseNotice .regLock u).setHold x := by
    cases h : u.inGroup .regLock with
    | false => rw [raiseNotice_outside _ u h, raiseNotice_outside _ _ (by exact h)]
    | true =>
      rw [raiseNotice_inside _ u h, raiseNotice_inside _ _ (by exact h)]
      rfl
  have hpass (u : State) (v : Bool) : passLevel .regLock v (u.setHold x) = (passLevel .regLock v u).setHold x := by
    unfold passLevel
    by_cases h : u.level .regLock = v
    · rw [if_pos h, if_pos (by exact h)]
    · rw [if_neg h, if_neg (by exact h), ← hraise]
      rfl
  exact hpass (s.setReg { s.reg with lock := .seeking, unreadRun := 0 }) _

theorem seekLock_hold (s : State) : (seekLock s).hold = s.hold := by simp

theorem seekLock_moves (s : State) : PartMoves s (seekLock s) := setLock_moves (by simp [lockPairs]) s

theorem releaseCommand_moves (p : PortId) (n : Nat) (s : State) : PartMoves s (releaseCommand p n s).1 := by
  unfold releaseCommand
  split
  · exact .refl
  · dsimp only
    split
    · exact .refl
    · next r _ =>
      split_ifs
      · exact .refl
      · exact .refl
      · exact .refl
      · unfold acceptRelease
        dsimp only
        split
        · rw [seekLock_setHold]
          refine (seekLock_moves s).trans (stackChange_moves _ _ fun h => ?_)
          rw [seekLock_hold] at h
          exact releaseAt_inOrder _ _ _ h
        · exact stackChange_moves _ s fun h => releaseAt_inOrder _ _ _ h

theorem setSpeeds_setHold (c t : Nat) (x : HoldUnit) (s : State) :
    setSpeeds c t (s.setHold x) = (setSpeeds c t s).setHold x := by
  by_cases h : s.line.commanded ≠ s.line.target ∧ c = t
  · rw [setSpeeds, setSpeeds, if_pos h, if_pos (by exact h), raiseNotice_inside _ _ rfl, raiseNotice_inside _ _ rfl]
    rfl
  · rw [setSpeeds, setSpeeds, if_neg h, if_neg (by exact h)]
    rfl

theorem enterLine_setHold (st : LineState) (x : HoldUnit) (s : State) :
    enterLine st (s.setHold x) = (enterLine st s).setHold x := by
  have hpass (u : State) (v : Bool) : passLevel .lineState v (u.setHold x) = (passLevel .lineState v u).setHold x := by
    unfold passLevel
    by_cases h : u.level .lineState = v
    · rw [if_pos h, if_pos (by exact h)]
    · rw [if_neg h, if_neg (by exact h), raiseNotice_inside _ _ rfl, raiseNotice_inside _ _ rfl]
      rfl
  have hretarget (u : State) : retarget (u.setHold x) = (retarget u).setHold x := by
    unfold retarget
    dsimp only
    rw [← setSpeeds_setHold]
    rfl
  unfold enterLine
  dsimp only
  rw [← hretarget, ← hpass]
  rfl

theorem lineStop_moves (s : State) : PartMoves s (lineStop s).1 := by
  have hstop : (lineStop s).1 = settleAtRest (stackReport
      ((dropWakes (enterLine .stopping (s.setLine { s.line with go := false }))).setHold
        { s.hold with stack := [], overflow := false })) := by
    have hgo : (emptyStack s).setLine { (emptyStack s).line with go := false } =
        (s.setLine { s.line with go := false }).setHold { s.hold with stack := [], overflow := false } := rfl
    have hdrop (u : State) (x : HoldUnit) : dropWakes (u.setHold x) = (dropWakes u).setHold x := rfl
    unfold lineStop
    dsimp only
    rw [hgo, enterLine_setHold, hdrop]
  have hhold : (dropWakes (enterLine .stopping (s.setLine { s.line with go := false }))).hold = s.hold := by simp
  rw [hstop]
  have hgo := (LineMove.orders { s.line with go := false } s ⟨rfl, rfl, rfl, rfl, rfl, rfl⟩).moves
  have henter := hgo.trans (enterLine_moves (st := .stopping) (by simp) (by simp [LineState.atRest]))
  refine (LineMoves.all (henter.trans (dropWakes_moves _))).trans ((stackChange_moves _ _ fun h => ?_).trans (settleAtRest_moves _).all)
  rw [hhold] at h
  obtain ⟨-, -, -, -, hlow, hhigh⟩ := h
  exact ⟨by simp, by simp, by simp [HoldUnit.numbers], by simp [HoldUnit.numbers], hlow, hhigh⟩

theorem startOrder_moves (l : LinkId) (s : State) : LineMoves s (startOrder l s) := by
  unfold startOrder
  split
  · next h => exact (setOwed_moves l .nothing s).trans (wakeLink_moves l _ (.inl h))
  · exact setOwed_moves l .wake s
  · exact setOwed_moves l .nothing s

theorem lineStart_moves (s : State) (h : s.line.state = .stopped) : PartMoves s (lineStart s).1 := by
  unfold lineStart
  split
  · exact .refl
  · have hgo := (LineMove.orders { s.line with go := false } s ⟨rfl, rfl, rfl, rfl, rfl, rfl⟩).moves
    have henter := hgo.trans (enterLine_moves (st := .arming) (by simp) (fun _ => .inr (by simp [h, LineState.atRest])))
    exact (LineMoves.all henter).trans ((seekLock_moves _).trans
      (LineMoves.foldl (fun s l => startOrder_moves l s) allLinks _).all)

/-- The levels do not read the line's speeds. -/
theorem agrees_of_speeds {s t : State} {n : Notice} (h : s.Agrees n) (hstate : t.line.state = s.line.state)
    (hhold : t.hold = s.hold) (hlinks : t.links = s.links) (hreg : t.reg = s.reg) (hlam : t.lam = s.lam) (hmap : t.map = s.map)
    (hlevel : t.level n = s.level n) : t.Agrees n :=
  h.of_eq (State.raw_congr n (fun _ => by simp [State.lineUp, hstate]) (fun _ => by simp [State.holdActive, hhold])
    (fun l _ => by simp [State.linkUp, link_of_links_eq hlinks]) hreg hlam hmap) hlevel

theorem retarget_steers {s u : State} (hu : u = { s with line := u.line, notices := u.notices })
    (hstate : u.line.state = s.line.state) (hlevels : u.notices.levels = s.notices.levels) (hcarries : s.Carries u)
    (hready : SpeedsInOrder s → SpeedsReady u) : s.Steers (retarget u) := by
  have hframe : retarget u = { s with line := (retarget u).line, hold := (retarget u).hold, notices := (retarget u).notices } := by
    apply Steers.frame_of <;> simp <;> rw [hu]
  have hhold : (retarget u).hold = s.hold := by
    rw [(retarget_frame u).2.2.2.2.2.2.2.1, hu]
  have hline : (retarget u).line.state = s.line.state := (retarget_line u).1.trans hstate
  refine ⟨hframe, fun h => h.of_eq hline hhold, fun h => retarget_speedsInOrder (hready h), fun h n => ?_,
    hcarries.trans (retarget_carries u)⟩
  refine agrees_of_speeds (h n) hline hhold ?_ ?_ ?_ ?_ ?_
  · rw [hframe]
  · rw [hframe]
  · rw [hframe]
  · rw [hframe]
  · rw [retarget_level, State.level, hlevels, State.level]

theorem setSpeeds_levels (c t : Nat) (s : State) : (setSpeeds c t s).notices.levels = s.notices.levels := by
  by_cases h : s.line.commanded ≠ s.line.target ∧ c = t
  · rw [setSpeeds, if_pos h, raiseNotice_levels]
    rfl
  · rw [setSpeeds, if_neg h]
    rfl

theorem setSpeeds_eq_withLine (c t : Nat) (s : State) :
    setSpeeds c t s = { s with line := (setSpeeds c t s).line, notices := (setSpeeds c t s).notices } := by
  by_cases h : s.line.commanded ≠ s.line.target ∧ c = t
  · rw [setSpeeds, if_pos h, raiseNotice_eq_withNotices]
    rfl
  · rw [setSpeeds, if_neg h]
    rfl

/-- The set speed, and the commanded speed where it stands above it (R151, log 9). -/
theorem speedSet_steers (v : Nat) (s : State) (hv : v ≤ 1000) :
    s.Steers (retarget (if v < s.line.commanded then setSpeeds v s.line.target (s.setLine { s.line with setSpeed := v })
      else s.setLine { s.line with setSpeed := v })) := by
  split
  · next hlt =>
    have hline := setSpeeds_line v s.line.target (s.setLine { s.line with setSpeed := v })
    refine retarget_steers ?_ (by rw [hline]; rfl) (setSpeeds_levels _ _ _) ((setSpeeds_carries _ _ _).of_notices rfl) ?_
    · rw [setSpeeds_eq_withLine]
      rfl
    · intro h
      refine ⟨fun hne => ?_, ?_, ?_, fun hrest => ?_, ?_⟩
      · have htimer := setSpeeds_timer v s.line.target (s.setLine { s.line with setSpeed := v }) h.ready.timer
        exact htimer.2 (by rw [hline] at hne; exact hne)
      · rw [hline]
        exact le_rfl
      · rw [hline]
        exact hv
      · rw [hline] at hrest
        have hzero := h.ready.rest hrest
        omega
      · simpa using h.ready.ratios
  · next hge =>
    refine retarget_steers rfl rfl rfl (.of_eq rfl) fun h => ?_
    exact ⟨h.ready.timer, not_lt.1 hge, hv, h.ready.rest, h.ready.ratios⟩

theorem speedSet_moves (v : Nat) (s : State) : PartMoves s (speedSet v s).1 := by
  unfold speedSet
  split
  · exact .refl
  · next hv =>
    exact (PartMove.steers (speedSet_steers v s (not_lt.1 hv))).moves.trans (settleAtRest_moves _).all

theorem minSpeedSet_moves (v : Nat) (s : State) : PartMoves s (minSpeedSet v s).1 := by
  unfold minSpeedSet
  split
  · exact .refl
  · refine (PartMove.steers (retarget_steers ?_ ?_ ?_ ?_ ?_)).moves
    · rfl
    · rfl
    · rfl
    · exact .of_eq rfl
    · exact fun h => ⟨h.ready.timer, h.ready.commanded, h.ready.set, h.ready.rest, h.ready.ratios⟩

/-- A new commanded speed, with what becomes of the ramp timer, steers the line where the speeds stay in order. -/
theorem commanded_steers {s u : State} (hu : u = { s with line := u.line, notices := u.notices })
    (hstate : u.line.state = s.line.state) (hlevels : u.notices.levels = s.notices.levels) (hcarries : s.Carries u)
    (hspeeds : SpeedsInOrder s → SpeedsInOrder u) : s.Steers u := by
  have hhold : u.hold = s.hold := by rw [hu]
  refine ⟨?_, fun h => h.of_eq hstate hhold, hspeeds, fun h n => ?_, hcarries⟩
  · rw [hu]
  · refine agrees_of_speeds (h n) hstate hhold ?_ ?_ ?_ ?_ (by rw [State.level, hlevels, State.level]) <;> rw [hu]

theorem emergencyStop_moves (s : State) : PartMoves s (emergencyStop s) := by
  have hinput := (LineMove.orders { s.line with estop := true } s ⟨rfl, rfl, rfl, rfl, rfl, rfl⟩).moves
  have hfault := hinput.trans (faultHold_moves .estop noDetail _)
  have hnot_run := faultHold_not_run .estop noDetail (s.setLine { s.line with estop := true })
  refine (LineMoves.all hfault).trans ?_
  unfold emergencyStop
  dsimp only
  generalize faultHold .estop noDetail (s.setLine { s.line with estop := true }) = u at hnot_run
  have hline := setSpeeds_line 0 u.line.target u
  have hrest : u.Steers ((setSpeeds 0 u.line.target u).setLine { (setSpeeds 0 u.line.target u).line with rampTimer := none }) := by
    refine commanded_steers ?_ ?_ (setSpeeds_levels 0 u.line.target u) ?_ fun h => ?_
    · rw [setSpeeds_eq_withLine]
      rfl
    · rw [State.setLine_line, hline]
    · exact (setSpeeds_carries 0 u.line.target u).trans (.of_eq rfl)
    · obtain ⟨-, -, hset, hmax, hzero, -, hratio, hplans⟩ := h
      have htarget := hzero hnot_run
      unfold SpeedsInOrder
      simp only [State.setLine_line, State.setLine_plans, hline, (setSpeeds_frame _ _ _).2.2.1]
      exact ⟨by simp [htarget], Nat.zero_le _, hset, hmax, fun _ => htarget, fun _ => trivial, hratio, hplans⟩
  exact (PartMove.steers hrest).moves.trans (settleAtRest_moves _).all

theorem rampExpiry_moves (s : State) : PartMoves s (rampExpiry s) := by
  unfold rampExpiry
  refine .of_if (fun htimer => ?_) (fun _ => .refl)
  dsimp only
  generalize hnext : (if s.line.commanded < s.line.target then s.line.commanded + 1 else s.line.commanded - 1) = next
  have hline := setSpeeds_line next s.line.target (s.setLine { s.line with rampTimer := some Config.rampMs })
  have hramp : s.Steers (setSpeeds next s.line.target (s.setLine { s.line with rampTimer := some Config.rampMs })) := by
    refine commanded_steers ?_ (by rw [hline]; rfl) (setSpeeds_levels _ _ _) ((setSpeeds_carries _ _ _).of_notices rfl)
      fun h => ?_
    · rw [setSpeeds_eq_withLine]
      rfl
    · obtain ⟨hiff, hcommanded, htarget, hmax, hzero, hrest, hratio, hplans⟩ := h
      have hne := hiff.1 htimer
      have hready := setSpeeds_timer next s.line.target (s.setLine { s.line with rampTimer := some Config.rampMs })
        (fun _ => by simp)
      rw [hline] at hready
      unfold SpeedsInOrder
      rw [hline, (setSpeeds_frame _ _ _).2.2.1]
      refine ⟨hready, ?_, htarget, hmax, hzero, fun hr => ?_, hratio, hplans⟩
      · simp only [State.setLine_line]
        split at hnext <;> omega
      · have hstopped : s.line.state ≠ .run := by
          simp only [State.setLine_line] at hr
          rcases hr with hr | hr | hr <;> simp [hr]
        exact absurd ((hrest hr).trans (hzero hstopped).symm) hne
  exact (PartMove.steers hramp).moves.trans (settleAtRest_moves _).all

/-! ### Every command -/

theorem countLate_inOrder (late : Nat) (k : Link) (h : k.InOrder) : (k.countLate late).InOrder := by
  obtain ⟨h1, h2, h3, h4, h5, h6, h7, h8, h9, -, h11⟩ := h
  exact ⟨h1, h2, h3, h4, h5, h6, h7, h8, h9, Nat.min_le_right _ _, h11⟩

/-- A relation in which the part's moves stand holds of every command but an encoder step and a mark. -/
theorem CommandRel.of_moves {R : State → State → Prop} (hrefl : ∀ s, R s s)
    (htrans : ∀ {s t u}, R s t → R t u → R s u) (hmove : ∀ {s t}, PartMove s t → R s t) :
    CommandRel R := by
  have hmoves {s t : State} (h : PartMoves s t) : R s t := by
    induction h with
    | refl => exact hrefl s
    | tail _ h ih => exact htrans ih (hmove h)
  exact {
    refl := hrefl
    trans := htrans
    port := fun p k s => hmove (.ports _ s)
    raise := fun n s => hmoves (raiseNotice_all n s)
    tick := fun n s => hmove (.tick n s)
    cleared := fun l late s => hmoves (setLink_moves l ((s.link l).countLate late) s rfl rfl (countLate_inOrder late _)).all
    announcePanel := fun a s => hmoves (announcePanel_moves a s)
    withdrawPanel := fun n s => hmoves (withdrawPanel_moves n s)
    dropReprint := fun r rest s h => hmove (.reprints rest s (by simp [h]))
    planOpen := fun n ratio count slits s => hmoves (planOpen_moves n ratio count slits s)
    planAppend := fun n count offsets s => hmoves (planAppend_moves n count offsets s)
    planClose := fun n s => hmoves (planClose_moves n s)
    planDiscard := fun n s => hmoves (planDiscard_moves n s)
    dropOutcome := fun r rest s h => hmove (.outcomes rest s (by simp [h]))
    lineStart := fun s h => hmoves (lineStart_moves s h)
    lineStop := fun s _ => hmoves (lineStop_moves s)
    speedSet := fun v s => hmoves (speedSet_moves v s)
    minSpeedSet := fun v s => hmoves (minSpeedSet_moves v s)
    filmStandby := fun n s => hmoves (filmStandby_moves n s)
    filmThread := fun n s => hmoves (filmThread_moves n s)
    spliceRequest := fun s => hmoves (spliceRequest_moves s)
    linkAcknowledge := fun n s => hmoves (linkAcknowledge_moves n s)
    linkTest := fun n s _ => hmoves (linkTest_moves n s)
    linkTestEnd := fun n s => hmoves (linkTestEnd_moves n s)
    zoneDefine := fun z s => hmoves (zoneDefine_moves z s)
    syncSet := fun mode lead s => hmoves (syncSet_moves mode lead s)
    thresholdSet := fun high low s => hmoves (thresholdSet_moves high low s)
    registrationSet := fun w n s => hmoves (registrationSet_moves w n s)
    gapSet := fun a b c s => hmoves (gapSet_moves a b c s)
    scrapPanel := fun n s => hmoves (scrapPanel_moves n s)
    lineReset := fun s h => hmove (.lineReset s h)
    hold := fun p s _ => hmoves (holdCommand_moves p s)
    release := fun p n s => hmoves (releaseCommand_moves p n s)
    clearNotices := fun p set s => hmoves (clearNotices_moves p set s)
    setNoticeMask := fun p mask s => hmoves (setNoticeMask_moves p mask s)
    setLatchMasked := fun p option s => hmoves (setLatchMasked_moves p option s)
    hardwareReset := fun s => hmove (.hardwareReset s)
    reverseStep := fun s => hmoves (reverseStep_moves s)
    emergencyStop := fun s => hmoves (emergencyStop_moves s)
    emergencyStopEnds := fun s =>
      hmoves (LineMove.orders { s.line with estop := false } s ⟨rfl, rfl, rfl, rfl, rfl, rfl⟩).moves.all
    framePeriod := fun s => hmoves (framePeriod_moves s)
    stationFrame := fun l bytes s => hmoves (stationFrame_moves l bytes s)
    wakeExpiry := fun l s => hmoves (wakeExpiry_moves l s)
    armExpiry := fun l s => hmoves (armExpiry_moves l s)
    flywheelExpiry := fun l s => hmoves (flywheelExpiry_moves l s)
    parkExpiry := fun l s => hmoves (parkExpiry_moves l s)
    operationTimeout := fun l s => hmoves (operationTimeout_moves l s)
    rampExpiry := fun s => hmoves (rampExpiry_moves s)
    syncPulseEnd := fun s => hmove (.tracker { s.tracker with syncPulse := none } s rfl rfl id)
    busyExpiry := fun s => hmoves (.of_if (fun _ => (PartMove.busy none s).moves.trans (raiseNotice_all _ _)) (fun _ => .refl)) }

theorem WebMoves.keep {P : State → Prop} (hP : ∀ {s t}, WebMove s t → P s → P t) {s t : State} (h : WebMoves s t)
    (hs : P s) : P t := by
  induction h with
  | refl => exact hs
  | tail _ hmove ih => exact hP hmove ih

/-- A property that every move of the part keeps, and that says nothing of the queue, every step keeps. -/
theorem Kept.of_moves {inv : State → Prop} (hpending : ∀ q s, inv s → inv (s.setPending q))
    (hmove : ∀ {s t}, WebMove s t → inv s → inv t) : Kept inv :=
  .of_commands hpending (.of_moves (fun _ => id) (fun h1 h2 h => h2 (h1 h)) (fun h => hmove (.move h)))
    (fun s => (forwardStep_moves s).keep hmove) (fun s => (markRow_moves s).keep hmove)

end Sys2Proof.Machine
end

section
/-! What every step keeps of the hold stack (O51), of ATTN (O52), of the speeds (O54) and of the links (O58): none of it reads the
map, the queues or Laminator Control, so that a move may be taken apart into pieces that change those at will. -/

namespace Sys2Proof.Machine

/-! ### The pieces of a move -/

/-- One piece of a move, for the properties that do not read the map, the queues and Laminator Control. -/
inductive MovePiece : State → State → Prop
  | inner {s t : State} (h : InnerMove s t) : MovePiece s t
  | map (x : PanelMap) (s : State) : MovePiece s (s.setMap x)
  | cut (x : CutControl) (s : State) : MovePiece s (s.setCut x)
  | lam (x : Laminator) (s : State) : MovePiece s (s.setLam x)
  | plans (x : PlanStore) (s : State) (hratios : (∀ q ∈ s.plans.plans, q.ratio ≤ 100) → ∀ q ∈ x.plans, q.ratio ≤ 100) :
      MovePiece s (s.setPlans x)
  | link (l : LinkId) (k : Link) (s : State) (horder : (s.link l).InOrder → k.InOrder) : MovePiece s (s.setLink l k)
  | level (n : Notice) (v : Bool) (s : State) : MovePiece s (passLevel n v s)
  | reg (x : Registration) (s : State) (hlock : lockPairs s.reg.lock s.reg.unreadRun → lockPairs x.lock x.unreadRun) :
      MovePiece s (s.setReg x)
  | ports (x : PerPort Port) (s : State) : MovePiece s (s.setPorts x)
  | tick (n : Nat) (s : State) : MovePiece s (s.setFreeTick n)
  | busy (x : Timer) (s : State) : MovePiece s (s.setBusy x)
  | timers (s : State) : MovePiece s (tickTimers s)
  | tracker (x : Tracker) (s : State) (hrange : TravelInRange s → TravelInRange (s.setTracker x)) :
      MovePiece s (s.setTracker x)
  | notices (x : NoticeUnit) (s : State) (htells : ∀ p, (s.notices.copies.get p).Tells → (x.copies.get p).Tells) :
      MovePiece s (s.setNotices x)
  | steers {s t : State} (h : s.Steers t) : MovePiece s t
  | resetBlocks (s : State) (h : s.line.state = .stopped) : MovePiece s (resetBlocks s)
  | hardwareReset (s : State) : MovePiece s (hardwareReset s)

abbrev MovePieces : State → State → Prop := Relation.ReflTransGen MovePiece

theorem MovePiece.pieces {s t : State} (h : MovePiece s t) : MovePieces s t := .single h

theorem InnerMoves.pieces {s t : State} (h : InnerMoves s t) : MovePieces s t := by
  induction h with
  | refl => exact .refl
  | tail _ hmove ih => exact ih.tail (.inner hmove)

theorem LineMoves.pieces {s t : State} (h : LineMoves s t) : MovePieces s t := h.inner.pieces

theorem raiseNotice_pieces (n : Notice) (s : State) : MovePieces s (raiseNotice n s) := (raiseNotice_inner n s).pieces

theorem evalMapLevels_pieces (s : State) : MovePieces s (evalMapLevels s) :=
  (MovePiece.level .nearFull s.nearFull s).pieces.trans (MovePiece.level .queueLow s.queueLow _).pieces

theorem modifyEntry_pieces (t : Target) (f : MapEntry → MapEntry) (s : State) : MovePieces s (s.modifyEntry t f) :=
  (MovePiece.map { s.map with entries := updateEntry t f s.map.entries } s).pieces

theorem dropOp_pieces (l : LinkId) (s : State) : MovePieces s (dropOp l s) := by
  refine (MovePiece.link l { s.link l with op := none } s fun h => ?_).pieces
  obtain ⟨-, hwake, harm, hfly, hpark, hfaults, hlow, hhigh, -, hrest⟩ := h
  exact ⟨by simp, hwake, harm, hfly, hpark, hfaults, hlow, hhigh, by simp, hrest⟩

/-- The counts of the plans' references have no part in their ratios. -/
theorem modifyRefs_pieces (n : Nat) (f : Nat → Nat) (s : State) :
    MovePieces s (s.modifyPlan n (fun q => { q with refs := f q.refs })) := by
  refine (MovePiece.plans { s.plans with plans := updatePlan n (fun q => { q with refs := f q.refs }) s.plans.plans } s
    fun h q hq => ?_).pieces
  obtain ⟨x, hx, ⟨-, rfl⟩ | ⟨-, rfl⟩⟩ := updatePlan_mem hq
  · exact h x hx
  · exact h _ hx

theorem printLineCrossing_pieces (t : Target) (s : State) : MovePieces s (printLineCrossing t s) :=
  (modifyEntry_pieces t (fun x => { x with phase := .onWeb }) s).trans (MovePiece.level .queueLow _ _).pieces

theorem startTracking_pieces (e : MapEntry) (s : State) : MovePieces s (startTracking e s) := by
  obtain ⟨pulse, hpulse⟩ := syncCrossings_tracker [e] s
  have hsync : MovePieces s (syncCrossings [e] s) := by
    rw [hpulse]
    exact (MovePiece.tracker { s.tracker with syncPulse := pulse } s id).pieces
  unfold startTracking
  dsimp only
  split
  · exact hsync.trans (printLineCrossing_pieces _ _)
  · exact hsync

theorem clearsFlight_pieces {l : LinkId} {u v : State} (h : ClearsFlight l u v) : MovePieces u v := by
  cases l with
  | feed =>
    obtain rfl : v = u := h
    exact .refl
  | lam =>
    obtain ⟨x, -, -, -, rfl⟩ := h
    exact (MovePiece.lam x u).pieces
  | slit =>
    obtain ⟨x, -, -, -, -, rfl⟩ := h
    exact (MovePiece.cut x u).pieces
  | xcut =>
    obtain ⟨-, rfl⟩ := h
    exact .refl

theorem cutLeaves_pieces {c : CutEntry} {s u : State} (h : CutLeaves c s u) : MovePieces s u := by
  cases h with
  | queue rest _ => exact (MovePiece.cut _ s).pieces
  | flight _ h => exact ((dropOp_pieces .xcut s).trans h.pieces).trans (MovePiece.cut _ _).pieces

theorem setLock_pieces {lock : LockState} {run : Nat} (h : lockPairs lock run) (s : State) :
    MovePieces s (setLock lock run s) :=
  (MovePiece.reg { s.reg with lock := lock, unreadRun := run } s (fun _ => h)).pieces.trans (MovePiece.level .regLock _ _).pieces

theorem passLevels_pieces (s : State) : MovePieces s (passLevels s) := by
  have hpass (n : Notice) (v : Bool) (u : State) : MovePieces u (passLevel n v u) := (MovePiece.level n v u).pieces
  have hlinks (ls : List LinkId) (u : State) : MovePieces u (ls.foldl (fun s l => passLinkUp l s) u) := by
    induction ls generalizing u with
    | nil => exact .refl
    | cons l ls ih => exact (hpass (.linkUp l) _ u).trans (ih _)
  have hrest (u : State) : MovePieces u (passLevel .regLock u.regLocked
      (passLevel .holdActive u.holdActive u)) := (hpass .holdActive _ u).trans (hpass .regLock _ _)
  have htail (u : State) : MovePieces u (allLinks.foldl (fun s l => passLinkUp l s) (evalMapLevels u)) :=
    (evalMapLevels_pieces u).trans (hlinks allLinks _)
  unfold passLevels
  dsimp only
  exact (hpass .lineState s.lineUp s).trans ((hrest _).trans (htail _))

theorem evalFilm_inner (s : State) : InnerMoves s (evalFilm s) := evalFilm_moves s.lam s rfl

theorem lineReset_pieces (s : State) (h : s.line.state = .stopped) : MovePieces s (lineReset s).1 := by
  refine (MovePiece.resetBlocks s h).pieces.trans ((passLevels_pieces _).trans ((evalFilm_inner _).pieces.trans ?_))
  refine (MovePiece.notices _ _ ?_).pieces
  intro p _
  rw [PerPort.get_map]
  rfl

theorem PartMove.pieces {s t : State} (h : PartMove s t) : MovePieces s t := by
  cases h with
  | inner h => exact (MovePiece.inner h).pieces
  | ended l h hv => exact ((dropOp_pieces l s).trans h.pieces).trans (clearsFlight_pieces hv)
  | cutIssued c rest ws _ hqueue hactive =>
    exact (MovePiece.link .xcut _ s fun h => h.take hactive _ ws _ _).pieces.trans (MovePiece.cut _ _).pieces
  | cutResolved c made hu hv => exact ((cutLeaves_pieces hu).trans hv.pieces).trans (modifyEntry_pieces _ _ _)
  | cutQueued c => exact (MovePiece.cut _ s).pieces.trans (modifyEntry_pieces _ _ _)
  | slitQueued x => exact (MovePiece.cut _ s).pieces
  | printLine t => exact printLineCrossing_pieces t s
  | commit t => exact modifyEntry_pieces _ _ s
  | knife t => exact modifyEntry_pieces _ _ s
  | lock lock run _ h => exact setLock_pieces h s
  | outcome r => exact (MovePiece.map _ s).pieces
  | retire t e he hcuts hu =>
    refine (MovePiece.map { s.map with entries := removeEntry t s.map.entries } s).pieces.trans (hu.pieces.trans ?_)
    exact (modifyRefs_pieces e.plan (fun n => n - 1) _).trans ((raiseNotice_pieces _ _).trans (evalMapLevels_pieces _))
  | withdraw e he hphase hu =>
    refine (MovePiece.map { s.map with entries := removeEntry e.target s.map.entries } s).pieces.trans ?_
    have hlast (u : State) (x : PanelMap) : MovePieces u (u.setMap x) := (MovePiece.map x u).pieces
    exact (modifyRefs_pieces e.plan (fun n => n - 1) _).trans ((hlast _ _).trans (hu.pieces.trans (evalMapLevels_pieces _)))
  | announce e he hu hv =>
    refine (MovePiece.map _ s).pieces.trans ((modifyRefs_pieces e.plan (fun n => n + 1) _).trans (hu.pieces.trans ?_))
    exact (startTracking_pieces e _).trans (hv.pieces.trans (evalMapLevels_pieces _))
  | thresholds high low => exact (MovePiece.map _ s).pieces.trans (evalMapLevels_pieces _)
  | reprints rest => exact (MovePiece.map _ s).pieces
  | outcomes rest => exact (MovePiece.map _ s).pieces
  | ports x => exact (MovePiece.ports x s).pieces
  | tick n => exact (MovePiece.tick n s).pieces
  | busy x => exact (MovePiece.busy x s).pieces
  | timers => exact (MovePiece.timers s).pieces
  | tracker x _ hodometer _ hdebt =>
    exact (MovePiece.tracker x s fun h => ⟨by rw [State.setTracker_tracker, hodometer]; exact h.1, hdebt h.2⟩).pieces
  | zones z => exact (MovePiece.tracker { s.tracker with zones := z } s id).pieces
  | registration w n => exact (MovePiece.reg { s.reg with halfWidth := w, tolerance := n } s id).pieces
  | plans x _ _ hratios => exact (MovePiece.plans x s hratios).pieces
  | notices x _ _ htells => exact (MovePiece.notices x s htells).pieces
  | steers h => exact (MovePiece.steers h).pieces
  | lineReset _ h => exact lineReset_pieces s h
  | hardwareReset => exact (MovePiece.hardwareReset s).pieces

theorem WebMove.pieces {s t : State} (h : WebMove s t) : MovePieces s t := by
  cases h with
  | move h => exact h.pieces
  | odometer pulse _ h =>
    exact (MovePiece.tracker { s.tracker with odometer := s.tracker.odometer + 1, syncPulse := pulse } s
      fun hr => ⟨h, hr.2⟩).pieces
  | window t f => exact modifyEntry_pieces t f s

/-- What each of the pieces keeps, the moves they make up keep. -/
theorem MovePieces.keep {P : State → Prop} (hP : ∀ {s t}, MovePiece s t → P s → P t) {s t : State} (h : MovePieces s t)
    (hs : P s) : P t := by
  induction h with
  | refl => exact hs
  | tail _ hmove ih => exact hP hmove ih

/-- A property that every piece of a move keeps, and that says nothing of the queue, every step keeps. -/
theorem Kept.of_pieces {inv : State → Prop} (hpending : ∀ q s, inv s → inv (s.setPending q))
    (hpiece : ∀ {s t}, MovePiece s t → inv s → inv t) : Kept inv :=
  .of_moves hpending fun h hs => h.pieces.keep hpiece hs

/-! ### The hold stack (O51) -/

theorem MovePiece.holdsKept {s t : State} (h : MovePiece s t) (hs : HoldsKept s) : HoldsKept t := by
  cases h with
  | inner h => exact h.holdsKept hs
  | steers h => exact h.holds hs
  | resetBlocks => exact ⟨fun _ => rfl, (by decide : HoldUnit.reset.InOrder)⟩
  | hardwareReset => exact ⟨fun _ => rfl, (by decide : HoldUnit.reset.InOrder)⟩
  | link l k => exact hs.of_eq (by simp) (by simp)
  | level n v => exact hs.of_eq (by simp) (by simp)
  | _ => exact hs.of_eq rfl rfl

/-- Settles O51: the stack is changed by pushes, repeats, releases and resets alone, each of which keeps its order, and RUN is
entered over an empty stack only. -/
theorem holdsStayInOrder : Obligations.HoldsStayInOrder :=
  Kept.of_pieces (inv := HoldsKept) (fun _ _ h => h) MovePiece.holdsKept

/-! ### ATTN (O52) -/

/-- The properties of every copy that a raise keeps and that the resets bring about. -/
theorem MovePiece.tells {s t : State} (h : MovePiece s t) (hs : ∀ p, (s.notices.copies.get p).Tells) :
    ∀ p, (t.notices.copies.get p).Tells := by
  intro p
  cases h with
  | inner h => exact h.carries.tells p (hs p)
  | level n v => exact (passLevel_carries n v s).tells p (hs p)
  | notices x _ htells => exact htells p (hs p)
  | steers h => exact h.carries.tells p (hs p)
  | hardwareReset => cases p <;> simp [Machine.hardwareReset, State.reset, NoticeUnit.reset, PerPort.get, NoticeCopy.reset,
      NoticeCopy.Tells]
  | link l k => simpa using hs p
  | _ => exact hs p

theorem attnTells_iff (s : State) : AttnTells s ↔ ∀ p, (s.notices.copies.get p).Tells :=
  ⟨fun h p => h p (by cases p <;> simp [allPorts]), fun h p _ => h p⟩

/-- Settles O52: a raise reckons ATTN anew, and so do the commands that change a copy's latched set or its mask. -/
theorem attnTellsLatchedUnmasked : Obligations.AttnTellsLatchedUnmasked := by
  refine Kept.of_pieces (inv := AttnTells) (fun _ _ h => h) fun h hs => ?_
  rw [attnTells_iff] at hs ⊢
  exact h.tells hs

/-! ### The speeds (O54) -/

theorem MovePiece.speedsInOrder {s t : State} (h : MovePiece s t) (hs : SpeedsInOrder s) : SpeedsInOrder t := by
  cases h with
  | inner h => exact h.speedsInOrder hs
  | steers h => exact h.speeds hs
  | plans x _ hratios =>
    obtain ⟨h1, h2, h3, h4, h5, h6, h7, hplans⟩ := hs
    exact ⟨h1, h2, h3, h4, h5, h6, h7, hratios hplans⟩
  | timers =>
    obtain ⟨htimer, hrest⟩ := hs
    refine ⟨?_, hrest⟩
    rw [← show (tickTimers s).line.commanded = s.line.commanded from rfl,
      ← show (tickTimers s).line.target = s.line.target from rfl] at htimer
    rw [← htimer]
    simp [tickTimers, Timer.tick]
  | resetBlocks _ hstopped =>
    obtain ⟨htimer, -, -, -, hzero, hrest, -, hplans⟩ := hs
    have htarget : s.line.target = 0 := hzero (by simp [hstopped])
    have hcommanded : s.line.commanded = 0 := hrest (.inl hstopped)
    refine ⟨htimer, hcommanded.le, htarget.le, Nat.zero_le _, fun _ => htarget, fun _ => hcommanded, le_rfl, fun q hq => ?_⟩
    obtain ⟨x, hx, rfl⟩ := List.mem_map.1 hq
    exact hplans x hx
  | hardwareReset =>
    unfold SpeedsInOrder
    simp [Machine.hardwareReset, State.reset, LineControl.reset, PlanStore.reset]
  | link l k => exact hs.of_eq (by simp) (by simp)
  | level n v => exact hs.of_eq (by simp) (by simp)
  | _ => exact hs.of_eq rfl rfl

/-- Settles O54: a new target is reckoned on every change of state, of the set speeds or of the ratio at the nip, and starts or
stops the ramp timer with it. -/
theorem speedsStayInOrder : Obligations.SpeedsStayInOrder :=
  Kept.of_pieces (inv := SpeedsInOrder) (fun _ _ h => h) MovePiece.speedsInOrder

/-! ### The links (O58) -/

theorem tick_isSome (t : Timer) : t.tick.isSome = t.isSome := by
  cases t <;> rfl

theorem tick_inOrder (k : Link) (h : k.InOrder) : k.tick.InOrder := by
  obtain ⟨hop, hwake, harm, hfly, hpark, hfaults, hlow, hhigh, hops, hrest⟩ := h
  refine ⟨by simpa [Link.tick] using hop, by simpa [Link.tick, tick_isSome] using hwake,
    by simpa [Link.tick, tick_isSome] using harm, by simpa [Link.tick, tick_isSome] using hfly,
    by simpa [Link.tick, tick_isSome] using hpark, hfaults, hlow, hhigh, fun o ho => ?_, hrest⟩
  obtain ⟨x, hx, rfl⟩ := Option.map_eq_some_iff.1 ho
  exact hops x hx

theorem lineReset_inOrder (k : Link) (h : k.InOrder) : k.lineReset.InOrder := by
  obtain ⟨-, -, -, -, -, -, hlow, hhigh, -, herror, htest⟩ := h
  simp [Link.InOrder, Link.lineReset, Link.reset, hlow, hhigh, herror, htest]

theorem MovePiece.linksInOrder {s t : State} (h : MovePiece s t) (hs : ∀ l, (s.link l).InOrder) :
    ∀ l, (t.link l).InOrder := by
  have hsame {u : State} (h : u.links = s.links) (l : LinkId) : (u.link l).InOrder := by
    rw [link_of_links_eq h]
    exact hs l
  have hmap {f : Link → Link} {u : State} (hf : ∀ k : Link, k.InOrder → (f k).InOrder) (h : u.links = s.links.map f)
      (l : LinkId) : (u.link l).InOrder := by
    rw [State.link, h, PerLink.get_map]
    exact hf _ (hs l)
  cases h with
  | inner h => exact h.linksInOrder hs
  | link l k _ horder => exact State.setLink_inOrder (horder (hs l)) hs
  | steers h => exact hsame (by rw [h.frame])
  | timers => exact hmap tick_inOrder rfl
  | resetBlocks => exact hmap lineReset_inOrder rfl
  | hardwareReset =>
    intro l
    cases l <;> simp [Machine.hardwareReset, State.reset, State.link, PerLink.get, Link.InOrder, Link.reset]
  | level n v => exact hsame (by simp)
  | _ => exact hsame rfl

/-- Settles O58: a link enters a state with that state's timer started and the others stopped, and takes an operation only when
it is ACTIVE without one. -/
theorem linksStayInOrder : Obligations.LinksStayInOrder := by
  have hiff (s : State) : LinksInOrder s ↔ ∀ l, (s.link l).InOrder :=
    ⟨fun h l => h l (by cases l <;> simp [allLinks]), fun h l _ => h l⟩
  refine Kept.of_pieces (inv := LinksInOrder) (fun _ _ h => h) fun h hs => ?_
  rw [hiff] at hs ⊢
  exact h.linksInOrder hs

/-! ### Odometer, debt and lock (parts of O53) -/

theorem MovePiece.travelInRange {s t : State} (h : MovePiece s t) (hs : TravelInRange s) : TravelInRange t := by
  have hsame {u : State} (h : u.tracker = s.tracker) : TravelInRange u := by
    unfold TravelInRange
    rwa [h]
  cases h with
  | inner h => exact hsame h.keepsCourses.tracker
  | tracker x _ hrange => exact hrange hs
  | steers h => exact hsame (by rw [h.frame])
  | resetBlocks => exact ⟨Nat.zero_le _, Nat.zero_le _⟩
  | hardwareReset => exact ⟨Nat.zero_le _, Nat.zero_le _⟩
  | level n v => exact hsame (by simp)
  | link l k => exact hsame (by simp)
  | _ => exact hs

theorem MovePiece.lockCounts {s t : State} (h : MovePiece s t) (hs : LockCounts s) : LockCounts t := by
  have hsame {u : State} (h : u.reg = s.reg) : LockCounts u := by
    unfold LockCounts
    rwa [h]
  cases h with
  | inner h => exact hsame h.keepsCourses.reg
  | reg x _ hlock => exact hlock hs
  | steers h => exact hsame (by rw [h.frame])
  | resetBlocks => exact by simp [LockCounts, Machine.resetBlocks, Registration.reset]
  | hardwareReset => exact by simp [LockCounts, Machine.hardwareReset, State.reset, Registration.reset]
  | level n v => exact hsame (by simp)
  | link l k => exact hsame (by simp)
  | _ => exact hs

end Sys2Proof.Machine
end

section
/-! What every step keeps of the entries' names and their order on the web (the first half of O55) and of the plans' counts
(O56): a move leaves every entry in its place but where one is announced, withdrawn or retired, or all are cleared. -/

namespace Sys2Proof.Machine

/-! ### The places of the entries -/

/-- What of an entry no move changes: its name, its place on the web and its plan. -/
structure Place where
  target : Target
  head : Nat
  length : Nat
  plan : Nat

def Place.tail (x : Place) : Nat := x.head + x.length

def Course.place (c : Course) : Place := { target := c.target, head := c.head, length := c.length, plan := c.plan }

abbrev MapEntry.place (e : MapEntry) : Place := e.course.place

section
variable {α : Type} {view : Course → α}

/-- What a view sees of the entries, in web order. -/
def State.seen (view : Course → α) (s : State) : List α := s.map.entries.map (fun e => view e.course)

/-- A view that neither an entry's phase nor its cuts pending change. -/
def Steady (view : Course → α) : Prop := ∀ c p n, view { c with phase := p, cutsPending := n } = view c

theorem State.KeepsCourses.seen {s t : State} (h : s.KeepsCourses t) : t.seen view = s.seen view := by
  have hseen (u : State) : u.seen view = u.courses.map view := by
    rw [State.courses, List.map_map]
    rfl
  rw [hseen, hseen, h.courses]

theorem seen_of_entries {s t : State} (h : t.map.entries = s.map.entries) : t.seen view = s.seen view := by
  rw [State.seen, h, State.seen]

theorem seen_modifyEntry (t : Target) (f : MapEntry → MapEntry) (hf : ∀ e, view (f e).course = view e.course) (s : State) :
    (s.modifyEntry t f).seen view = s.seen view := by
  rw [State.seen, State.modifyEntry_entries, updateEntry, List.map_map]
  refine List.map_congr_left fun e _ => ?_
  rw [Function.comp_apply]
  split
  · exact hf e
  · rfl

theorem insertCut_seen (hview : Steady view) (c : CutEntry) (s : State) : (insertCut c s).seen view = s.seen view :=
  seen_modifyEntry c.owner (fun e => { e with cutsPending := e.cutsPending + 1 })
    (fun e => hview e.course e.phase (e.cutsPending + 1))
    (s.setCut { s.cut with xcut := insertAfter (fun x => x.position) c s.cut.xcut })

theorem printLineCrossing_seen (hview : Steady view) (t : Target) (s : State) :
    (printLineCrossing t s).seen view = s.seen view := by
  have hpass : (printLineCrossing t s).seen view = (s.modifyEntry t (fun x => { x with phase := .onWeb })).seen view :=
    seen_of_entries (by simp [printLineCrossing])
  exact hpass.trans (seen_modifyEntry t (fun x => { x with phase := .onWeb })
    (fun e => hview e.course .onWeb e.cutsPending) s)

theorem startTracking_seen (hview : Steady view) (e : MapEntry) (s : State) :
    (startTracking e s).seen view = s.seen view := by
  have hsync : (syncCrossings [e] s).seen view = s.seen view := by
    obtain ⟨pulse, hpulse⟩ := syncCrossings_tracker [e] s
    rw [hpulse]
    rfl
  unfold startTracking
  dsimp only
  split
  · rw [printLineCrossing_seen hview, hsync]
  · exact hsync

theorem evalMapLevels_seen (s : State) : (evalMapLevels s).seen view = s.seen view := seen_of_entries (by simp)

end

abbrev State.places (s : State) : List Place := s.seen Course.place

theorem clearsFlight_entries {l : LinkId} {u v : State} (h : ClearsFlight l u v) :
    v.map = u.map ∧ v.plans = u.plans ∧ v.tracker = u.tracker ∧ v.reg = u.reg ∧ v.pending = u.pending := by
  cases l with
  | feed =>
    obtain rfl : v = u := h
    exact ⟨rfl, rfl, rfl, rfl, rfl⟩
  | lam =>
    obtain ⟨x, -, -, -, rfl⟩ := h
    exact ⟨rfl, rfl, rfl, rfl, rfl⟩
  | slit =>
    obtain ⟨x, -, -, -, -, rfl⟩ := h
    exact ⟨rfl, rfl, rfl, rfl, rfl⟩
  | xcut =>
    obtain ⟨-, rfl⟩ := h
    exact ⟨rfl, rfl, rfl, rfl, rfl⟩

theorem cutLeaves_entries {c : CutEntry} {s u : State} (h : CutLeaves c s u) :
    u.map = s.map ∧ u.plans = s.plans ∧ u.tracker = s.tracker ∧ u.reg = s.reg ∧ u.pending = s.pending := by
  cases h with
  | queue => exact ⟨rfl, rfl, rfl, rfl, rfl⟩
  | flight _ h =>
    obtain ⟨htracker, hmap, hplans, hreg, -, -, hpending, -⟩ := h.lineOnly
    exact ⟨hmap, hplans, htracker, hreg, hpending⟩

/-! ### How a move changes the places -/

/-- The last-tail register over the places that are left (R19). -/
def lastTailOf (old : Nat) (xs : List Place) : Nat :=
  match xs.getLast? with
  | some x => x.tail
  | none => old

/-- What a move does to what a view sees of the entries, the last-tail register and the plan store. -/
inductive MapChange {α : Type} (view : Course → α) (s t : State) : Prop
  | same (hseen : t.seen view = s.seen view) (htail : t.map.lastTail = s.map.lastTail) (hplans : t.plans = s.plans)
  | plans (hmap : t.map = s.map) (hcounted : PlansCounted s → PlansCounted (s.setPlans t.plans))
  | removed (e : MapEntry) (he : s.entry e.target = some e)
      (hseen : t.seen view = (s.dropEntry e.target).seen view)
      (htail : t.map.lastTail = s.map.lastTail ∨ t.map.lastTail = lastTailOf s.map.lastTail t.places)
      (hplans : t.plans = (s.dropRef e.plan).plans)
  | added (e : MapEntry) (he : Announced e s) (hseen : t.seen view = s.seen view ++ [view e.course])
      (htail : t.map.lastTail = e.tail) (hplans : t.plans = (s.addRef e.plan).plans)
  | cleared (hseen : t.seen view = []) (htail : t.map.lastTail = 0)
      (hplans : t.plans.plans = s.plans.plans.map (fun q => { q with refs := 0 }) ∨ t.plans.plans = [])

theorem dropEntry_places (t : Target) (s : State) :
    (s.dropEntry t).places = s.places.eraseP (fun x => x.target == t) := by
  have hnamed : MapEntry.named t = (fun x : Place => x.target == t) ∘ (fun e : MapEntry => e.place) := by
    funext e
    cases t
    rw [Bool.eq_iff_iff]
    simp [MapEntry.named, Course.place, MapEntry.course, MapEntry.target]
  rw [State.places, State.places, State.seen, State.seen, List.eraseP_map, ← hnamed]
  rfl

theorem steers_blocks {s t : State} (h : s.Steers t) : t.map = s.map ∧ t.plans = s.plans := by
  rw [h.frame]
  exact ⟨rfl, rfl⟩

theorem lineReset_map (s : State) : (lineReset s).1.map.entries = [] ∧ (lineReset s).1.map.lastTail = 0 ∧
    (lineReset s).1.plans.plans = s.plans.plans.map (fun q => { q with refs := 0 }) := by
  have hfilm := (evalFilm_inner (passLevels (resetBlocks s))).keepsCourses
  have hlevels : (passLevels (resetBlocks s)).map = (resetBlocks s).map ∧
      (passLevels (resetBlocks s)).plans = (resetBlocks s).plans := by
    simp [passLevels, allLinks]
  have hcourses : (evalFilm (passLevels (resetBlocks s))).courses = [] := by
    rw [hfilm.courses, State.courses, hlevels.1]
    rfl
  refine ⟨?_, ?_, ?_⟩
  · exact List.map_eq_nil_iff.1 hcourses
  · exact hfilm.lastTail.trans (congrArg PanelMap.lastTail hlevels.1)
  · exact congrArg PlanStore.plans (hfilm.plans.trans hlevels.2)

theorem PartMove.mapChange {α : Type} {view : Course → α} (hview : Steady view) {s t : State} (h : PartMove s t) :
    MapChange view s t := by
  have hsame {u : State} (hmap : u.map = s.map) (hplans : u.plans = s.plans) : MapChange view s u :=
    .same (seen_of_entries (congrArg PanelMap.entries hmap)) (congrArg PanelMap.lastTail hmap) hplans
  have hentry (x : Target) (f : MapEntry → MapEntry) (hf : ∀ e, view (f e).course = view e.course) :
      MapChange view s (s.modifyEntry x f) := .same (seen_modifyEntry x f hf s) rfl rfl
  cases h with
  | inner h => exact .same h.keepsCourses.seen h.keepsCourses.lastTail h.keepsCourses.plans
  | ended l h hv =>
    obtain ⟨hmap, hplans, -⟩ := clearsFlight_entries hv
    exact hsame (hmap.trans h.lineOnly.map) (hplans.trans h.lineOnly.plans)
  | cutIssued c rest ws => exact hsame rfl rfl
  | cutResolved c made hu hv =>
    obtain ⟨hmap, hplans, -⟩ := cutLeaves_entries hu
    have hk := hv.keepsCourses
    refine .same ?_ (hk.lastTail.trans (congrArg PanelMap.lastTail hmap)) (hk.plans.trans hplans)
    rw [seen_modifyEntry _ (MapEntry.cutDone made) (fun e => hview e.course e.phase (e.cutsPending - 1)), hk.seen,
      seen_of_entries (congrArg PanelMap.entries hmap)]
  | cutQueued c => exact .same (insertCut_seen hview c s) rfl rfl
  | slitQueued x => exact hsame rfl rfl
  | printLine t =>
    exact .same (printLineCrossing_seen hview t s) (by simp [printLineCrossing, State.modifyEntry]) (by simp [printLineCrossing])
  | commit t => exact hentry t (fun e => { e with phase := .committed }) (fun e => hview e.course .committed e.cutsPending)
  | knife t => exact hentry t (fun e => { e with phase := .atKnife }) (fun e => hview e.course .atKnife e.cutsPending)
  | lock lock run => exact hsame (by simp) (by simp)
  | outcome r => exact .same rfl rfl rfl
  | retire x e he hcuts hu =>
    have hk := hu.keepsCourses
    have hx := entry_named he
    subst hx
    refine .removed e he ?_ (.inl ?_) ?_
    · rw [← hk.seen]
      exact seen_of_entries (by simp)
    · exact (by simp : _ = _).trans hk.lastTail
    · have hplans := hk.plans
      simp only [State.dropEntry_frame] at hplans
      simp [State.dropRef, State.modifyPlan, hplans]
  | withdraw e he hphase hu =>
    have hk := hu.keepsCourses
    have hentries : (recomputeLast (s.dropEntry e.target).map).entries = (s.dropEntry e.target).map.entries := by
      unfold recomputeLast
      split <;> rfl
    refine .removed e he ((evalMapLevels_seen _).trans (hk.seen.trans (seen_of_entries hentries))) (.inr ?_) ?_
    · have hplaces := (evalMapLevels_seen _).trans (hk.seen (view := Course.place) |>.trans (seen_of_entries hentries))
      rw [State.places, hplaces, evalMapLevels_eq_withNotices]
      refine hk.lastTail.trans ?_
      rw [State.setMap_map, recomputeLast, lastTailOf, State.seen, List.getLast?_map]
      cases (s.dropEntry e.target).map.entries.getLast? <;> rfl
    · have hplans := hk.plans
      simp only [State.setMap_plans] at hplans
      simp [hplans, State.dropRef, State.modifyPlan]
  | announce e he hu hv =>
    have hk := hu.keepsCourses
    have hk' := hv.keepsCourses
    refine .added e he ?_ ?_ ?_
    · rw [evalMapLevels_seen, hk'.seen, startTracking_seen hview, hk.seen]
      simp [State.seen, State.addRef, State.modifyPlan]
    · rw [evalMapLevels_eq_withNotices]
      refine hk'.lastTail.trans ?_
      have hstart (u : State) : (startTracking e u).map.lastTail = u.map.lastTail := by
        obtain ⟨pulse, hpulse⟩ := syncCrossings_tracker [e] u
        unfold startTracking
        dsimp only
        rw [hpulse]
        split <;> simp [printLineCrossing, State.modifyEntry]
      rw [hstart, hk.lastTail]
      rfl
    · rw [evalMapLevels_eq_withNotices]
      refine hk'.plans.trans ?_
      have hstart (u : State) : (startTracking e u).plans = u.plans := by
        obtain ⟨pulse, hpulse⟩ := syncCrossings_tracker [e] u
        unfold startTracking
        dsimp only
        rw [hpulse]
        split <;> simp [printLineCrossing]
      rw [hstart, hk.plans]
      rfl
  | thresholds high low => exact .same (seen_of_entries (by simp)) (by simp) (by simp)
  | reprints rest => exact .same rfl rfl rfl
  | outcomes rest => exact .same rfl rfl rfl
  | plans x _ _ _ hcounted => exact .plans rfl hcounted
  | steers h => exact hsame (steers_blocks h).1 (steers_blocks h).2
  | lineReset => exact .cleared (by rw [State.seen, (lineReset_map s).1]; rfl) (lineReset_map s).2.1 (.inl (lineReset_map s).2.2)
  | hardwareReset => exact .cleared rfl rfl (.inr rfl)
  | _ => exact hsame rfl rfl

theorem WebMove.mapChange {s t : State} (h : WebMove s t) : MapChange Course.place s t := by
  cases h with
  | move h => exact h.mapChange (fun _ _ _ => rfl)
  | odometer => exact .same rfl rfl rfl
  | window x f _ hf =>
    refine .same (seen_modifyEntry x f (fun e => ?_) s) rfl rfl
    rw [hf e]
    rfl

/-! ### Distinct names -/

/-- R16 and R18 of the places. -/
def NamesOf (xs : List Place) : Prop :=
  (xs.map (fun x => x.target.panel)).Nodup ∧ (xs.map (fun x => x.target.slot)).Nodup ∧
    (∀ x ∈ xs, x.target.slot ≤ 47 ∧ 1 ≤ x.target.panel) ∧ xs.length ≤ 48

theorem namesApart_iff (s : State) : NamesApart s.map ↔ NamesOf s.places := by
  unfold NamesApart NamesOf State.places State.seen
  rw [List.map_map, List.map_map, List.forall_mem_map, List.length_map]
  rfl

theorem NamesOf.sublist {xs ys : List Place} (h : NamesOf ys) (hsub : xs.Sublist ys) : NamesOf xs := by
  obtain ⟨hpanels, hslots, hrange, hlength⟩ := h
  exact ⟨hpanels.sublist (hsub.map _), hslots.sublist (hsub.map _), fun x hx => hrange x (hsub.subset hx),
    hsub.length_le.trans hlength⟩

/-- With room in the map the lowest free slot is one, and no entry holds it (R18). -/
theorem freeSlot_free (es : List MapEntry) (h : es.length < 48) :
    freeSlot es ≤ 47 ∧ ∀ e ∈ es, e.slot ≠ freeSlot es := by
  unfold freeSlot
  cases hfind : (List.range Config.mapSize).find? (fun n => es.all (fun e => e.slot != n)) with
  | some n =>
    have hmem := List.mem_range.1 (List.mem_of_find?_eq_some hfind)
    have hfree := List.find?_some hfind
    simp only [Config.mapSize] at hmem
    rw [Option.getD_some]
    exact ⟨by omega, fun e he => by simpa using List.all_eq_true.1 hfree e he⟩
  | none =>
    have hsub : List.range 48 ⊆ es.map (fun e => e.slot) := by
      intro n hn
      have hheld := List.find?_eq_none.1 hfind n hn
      simp only [List.all_eq_true, bne_iff_ne, not_forall] at hheld
      obtain ⟨e, he, hslot⟩ := hheld
      exact List.mem_map.2 ⟨e, he, not_not.1 hslot⟩
    have hlength := (List.nodup_range.subperm hsub).length_le
    rw [List.length_range, List.length_map] at hlength
    omega

theorem MapChange.namesApart {s t : State} (h : MapChange Course.place s t) (hs : NamesApart s.map) : NamesApart t.map := by
  rw [namesApart_iff] at hs ⊢
  cases h with
  | same hseen =>
    have hplaces : t.places = s.places := hseen
    rwa [hplaces]
  | plans hmap => rwa [State.places, seen_of_entries (congrArg PanelMap.entries hmap)]
  | removed e _ hseen =>
    have hplaces : t.places = s.places.eraseP (fun x => x.target == e.target) := hseen.trans (dropEntry_places e.target s)
    rw [hplaces]
    exact hs.sublist List.eraseP_sublist
  | added e he hseen =>
    have hplaces : t.places = s.places ++ [e.place] := hseen
    obtain ⟨hpanels, hslots, hrange, hlength⟩ := hs
    obtain ⟨hlow, hfree⟩ := freeSlot_free s.map.entries he.room
    rw [hplaces]
    have hfresh (f : MapEntry → Nat) (hf : ∀ x ∈ s.map.entries, f x ≠ f e) (g : Place → Nat) (hg : ∀ x, g x.place = f x)
        (hnodup : (s.places.map g).Nodup) : ((s.places ++ [e.place]).map g).Nodup := by
      rw [List.map_append, List.nodup_append]
      refine ⟨hnodup, by simp, fun a ha b hb => ?_⟩
      rw [List.map_singleton, List.mem_singleton] at hb
      obtain ⟨x, hx, rfl⟩ := List.mem_map.1 ha
      obtain ⟨y, hy, rfl⟩ := List.mem_map.1 hx
      rw [hb, hg, hg]
      exact hf y hy
    refine ⟨hfresh (fun x => x.panel) he.panel.2 _ (fun _ => rfl) hpanels,
      hfresh (fun x => x.slot) (fun x hx => by rw [he.slot]; exact hfree x hx) _ (fun _ => rfl) hslots, fun x hx => ?_, ?_⟩
    · rcases List.mem_append.1 hx with hx | hx
      · exact hrange x hx
      · rw [List.mem_singleton] at hx
        subst hx
        exact ⟨by rw [show e.place.target.slot = e.slot from rfl, he.slot]; exact hlow, he.panel.1⟩
    · have hroom := he.room
      rw [List.length_append, State.places, State.seen, List.length_map, List.length_singleton]
      omega
  | cleared hseen =>
    have hplaces : t.places = [] := hseen
    rw [hplaces]
    simp [NamesOf]

/-! ### Web order -/

/-- R16, R19 and R21 of the places. -/
def WebOrderOf (xs : List Place) (last : Nat) : Prop :=
  xs.Pairwise (fun a b => a.tail ≤ b.head) ∧ (∀ x ∈ xs, x.tail ≤ last) ∧ last ≤ 4294967295

theorem inWebOrder_iff (s : State) : InWebOrder s.map ↔ WebOrderOf s.places s.map.lastTail := by
  unfold InWebOrder WebOrderOf State.places State.seen
  rw [List.pairwise_map, List.forall_mem_map]
  rfl

theorem lastTailOf_bounds {xs : List Place} (hxs : xs.Pairwise (fun a b => a.tail ≤ b.head)) (old : Nat) :
    ∀ x ∈ xs, x.tail ≤ lastTailOf old xs := by
  intro x hx
  obtain ⟨ys, y, rfl⟩ := List.eq_nil_or_concat xs |>.resolve_left (List.ne_nil_of_mem hx)
  unfold lastTailOf
  rw [List.concat_eq_append, List.getLast?_concat]
  rw [List.concat_eq_append] at hx hxs
  rcases List.mem_append.1 hx with hx | hx
  · have hle := (List.pairwise_append.1 hxs).2.2 x hx y (by simp)
    have htail : y.head ≤ y.tail := Nat.le_add_right _ _
    exact hle.trans htail
  · rw [List.mem_singleton.1 hx]

theorem lastTailOf_le {xs : List Place} {old : Nat} (hxs : ∀ x ∈ xs, x.tail ≤ old) : lastTailOf old xs ≤ old := by
  unfold lastTailOf
  split
  · next x hx => exact hxs x (List.mem_of_getLast? hx)
  · exact le_rfl

theorem MapChange.inWebOrder {s t : State} (h : MapChange Course.place s t) (hs : InWebOrder s.map) : InWebOrder t.map := by
  rw [inWebOrder_iff] at hs ⊢
  cases h with
  | same hseen htail =>
    have hplaces : t.places = s.places := hseen
    rwa [hplaces, htail]
  | plans hmap => rwa [State.places, seen_of_entries (congrArg PanelMap.entries hmap), hmap]
  | removed e _ hseen htail =>
    have hplaces : t.places = s.places.eraseP (fun x => x.target == e.target) := hseen.trans (dropEntry_places e.target s)
    obtain ⟨horder, hlast, htop⟩ := hs
    have hsub : t.places.Sublist s.places := hplaces ▸ List.eraseP_sublist
    have horder' := horder.sublist hsub
    have hlast' : ∀ x ∈ t.places, x.tail ≤ s.map.lastTail := fun x hx => hlast x (hsub.subset hx)
    rcases htail with htail | htail <;> rw [htail]
    · exact ⟨horder', hlast', htop⟩
    · exact ⟨horder', lastTailOf_bounds horder' _, (lastTailOf_le hlast').trans htop⟩
  | added e he hseen htail =>
    have hplaces : t.places = s.places ++ [e.place] := hseen
    obtain ⟨horder, hlast, -⟩ := hs
    have hplace : e.place.tail = e.tail := rfl
    have hgrow : s.map.lastTail ≤ e.tail := he.head.1.trans (Nat.le_add_right _ _)
    rw [hplaces, htail]
    refine ⟨List.pairwise_append.2 ⟨horder, by simp, fun a ha b hb => ?_⟩, fun x hx => ?_, he.tail⟩
    · rw [List.mem_singleton.1 hb]
      exact (hlast a ha).trans he.head.1
    · rcases List.mem_append.1 hx with hx | hx
      · exact (hlast x hx).trans hgrow
      · rw [List.mem_singleton.1 hx, hplace]
  | cleared hseen htail =>
    have hplaces : t.places = [] := hseen
    rw [hplaces, htail]
    simp [WebOrderOf]

/-- The first half of O55: the entries stay in web order under distinct names. -/
theorem keptMapInOrder : Kept MapInOrder :=
  Kept.of_moves (fun _ _ h => h) fun h hs => ⟨h.mapChange.namesApart hs.1, h.mapChange.inWebOrder hs.2⟩

/-! ### The plans' counts (O56) -/

/-- R45 and R48 of the places and the plans. -/
def CountedIn (xs : List Place) (qs : List Plan) : Prop :=
  qs.Pairwise (fun a b => a.number < b.number) ∧ (∀ x ∈ xs, ∃ q ∈ qs, q.number = x.plan) ∧
    ∀ q ∈ qs, q.refs = xs.countP (fun x => x.plan == q.number)

theorem plansCounted_iff (s : State) : PlansCounted s ↔ NamesApart s.map ∧ CountedIn s.places s.plans.plans := by
  unfold PlansCounted CountedIn State.places State.seen
  rw [List.forall_mem_map]
  simp only [List.countP_map]
  rfl

/-- The counts of one plan changed as the entries that name it have: those of the others are as they were. -/
theorem CountedIn.update {xs ys : List Place} {qs : List Plan} {n : Nat} {f : Nat → Nat} (h : CountedIn xs qs)
    (hplans : ∀ y ∈ ys, ∃ q ∈ qs, q.number = y.plan)
    (hcount : ∀ m, ys.countP (fun x => x.plan == m) =
      if m = n then f (xs.countP (fun x => x.plan == m)) else xs.countP (fun x => x.plan == m)) :
    CountedIn ys (updatePlan n (fun q => { q with refs := f q.refs }) qs) := by
  obtain ⟨hsorted, -, hrefs⟩ := h
  have hnumber (q : Plan) : (if q.number == n then { q with refs := f q.refs } else q).number = q.number := by
    split <;> rfl
  refine ⟨List.pairwise_map.2 (hsorted.imp fun {a b} hab => ?_), fun y hy => ?_, fun q hq => ?_⟩
  · rw [hnumber, hnumber]
    exact hab
  · obtain ⟨q, hq, hqn⟩ := hplans y hy
    exact ⟨_, List.mem_map_of_mem hq, (hnumber q).trans hqn⟩
  · obtain ⟨x, hx, ⟨hn, rfl⟩ | ⟨hn, rfl⟩⟩ := updatePlan_mem hq
    · rw [hcount, if_pos hn, ← hrefs x hx]
    · rw [hcount, if_neg hn, ← hrefs _ hx]

theorem countP_eraseP_plan {s : State} {e : MapEntry} (he : s.entry e.target = some e) (m : Nat) :
    (s.places.eraseP (fun x => x.target == e.target)).countP (fun x => x.plan == m) =
      if m = e.plan then s.places.countP (fun x => x.plan == m) - 1 else s.places.countP (fun x => x.plan == m) := by
  have hfind : s.places.find? (fun x => x.target == e.target) = some e.place := by
    have hnamed : (fun x : Place => x.target == e.target) ∘ (fun e : MapEntry => e.place) = MapEntry.named e.target := by
      funext x
      rw [Bool.eq_iff_iff]
      simp [MapEntry.named, Course.place, MapEntry.course, MapEntry.target]
    rw [State.places, State.seen, List.find?_map, hnamed]
    rw [State.entry] at he
    rw [he]
    rfl
  obtain ⟨hp, as, bs, heq, has⟩ := List.find?_eq_some_iff_append.1 hfind
  have herase : s.places.eraseP (fun x => x.target == e.target) = as ++ bs := by
    rw [heq, List.eraseP_append_right _ (fun x hx => by simpa using has x hx), List.eraseP_cons_of_pos (by exact hp)]
  rw [herase, heq, List.countP_append, List.countP_append, List.countP_cons]
  have hplan : (e.place.plan == m) = decide (m = e.plan) := by
    rw [Bool.eq_iff_iff, beq_iff_eq, decide_eq_true_iff]
    exact eq_comm
  rw [hplan]
  by_cases hm : m = e.plan
  · simp only [hm, decide_true, if_true]
    omega
  · simp only [hm, decide_false, if_false]
    simp

theorem MapChange.plansCounted {s t : State} (h : MapChange Course.place s t) (hs : PlansCounted s) : PlansCounted t := by
  have hnames := h.namesApart ((plansCounted_iff s).1 hs).1
  refine (plansCounted_iff t).2 ⟨hnames, ?_⟩
  have hcounted := ((plansCounted_iff s).1 hs).2
  cases h with
  | same hseen _ hplans =>
    have hplaces : t.places = s.places := hseen
    rwa [hplaces, hplans]
  | plans hmap hkeeps =>
    have hset := ((plansCounted_iff _).1 (hkeeps hs)).2
    rwa [State.places, seen_of_entries (congrArg PanelMap.entries hmap)]
  | removed e he hseen _ hplans =>
    have hplaces : t.places = s.places.eraseP (fun x => x.target == e.target) := hseen.trans (dropEntry_places e.target s)
    rw [hplaces, hplans]
    exact hcounted.update (f := fun n => n - 1) (fun y hy => hcounted.2.1 y (List.mem_of_mem_eraseP hy)) (countP_eraseP_plan he)
  | added e he hseen _ hplans =>
    have hplaces : t.places = s.places ++ [e.place] := hseen
    rw [hplaces, hplans]
    refine hcounted.update (f := fun n => n + 1) (fun y hy => ?_) fun m => ?_
    · rcases List.mem_append.1 hy with hy | hy
      · exact hcounted.2.1 y hy
      · obtain ⟨q, hq⟩ := Option.isSome_iff_exists.1 he.plan
        obtain ⟨hmem, hnumber⟩ := plan_mem hq
        exact ⟨q, hmem, by rw [List.mem_singleton.1 hy]; exact hnumber⟩
    · have hplan : (e.place.plan == m) = decide (m = e.plan) := by
        rw [Bool.eq_iff_iff, beq_iff_eq, decide_eq_true_iff]
        exact eq_comm
      rw [List.countP_append, List.countP_singleton, hplan]
      by_cases hm : m = e.plan <;> simp [hm]
  | cleared hseen _ hplans =>
    have hplaces : t.places = [] := hseen
    rw [hplaces]
    rcases hplans with hplans | hplans <;> rw [hplans]
    · refine ⟨List.pairwise_map.2 hcounted.1, by simp, fun q hq => ?_⟩
      obtain ⟨x, -, rfl⟩ := List.mem_map.1 hq
      rfl
    · simp [CountedIn]

/-- Settles O56: a count rises where an entry that names the plan is announced, and falls where one is withdrawn or retired. -/
theorem planReferencesCountTheEntries : Obligations.PlanReferencesCountTheEntries :=
  Kept.of_moves (fun _ _ h => h) fun h hs => h.mapChange.plansCounted hs

end Sys2Proof.Machine
end

section
/-! What every step keeps of the lists' lengths (O53) and of the raw levels (O57). -/

namespace Sys2Proof.Machine

/-! ### The lists and queues (O53) -/

theorem State.seen_length {α : Type} (view : Course → α) (s : State) : (s.seen view).length = s.map.entries.length :=
  List.length_map _

theorem MapChange.entries_length {α : Type} {view : Course → α} {s t : State} (h : MapChange view s t)
    (hs : s.map.entries.length ≤ 48) : t.map.entries.length ≤ 48 := by
  rw [← t.seen_length view]
  cases h with
  | same hseen => rwa [hseen, s.seen_length]
  | plans hmap => rwa [seen_of_entries (congrArg PanelMap.entries hmap), s.seen_length]
  | removed e _ hseen =>
    rw [hseen, State.seen_length]
    exact List.length_eraseP_le.trans hs
  | added e he hseen =>
    have hroom := he.room
    rw [hseen, List.length_append, State.seen_length, List.length_singleton]
    omega
  | cleared hseen => simp [hseen]

/-- The lists of the map and the queues of Cut Control, but for the entries and the plans. -/
structure State.ListsWithin (s : State) : Prop where
  reprints : s.map.reprints.length ≤ 16
  outcomes : s.map.outcomes.length ≤ 32
  plans : s.plans.plans.length ≤ 24
  xcut : s.cut.xcut.length ≤ 24
  slit : s.cut.slit.length ≤ 6

theorem State.ListsWithin.of_eq {s t : State} (h : s.ListsWithin)
    (hmap : t.map.reprints = s.map.reprints ∧ t.map.outcomes = s.map.outcomes)
    (hplans : t.plans.plans.length = s.plans.plans.length)
    (hcut : t.cut.xcut = s.cut.xcut ∧ t.cut.slit = s.cut.slit) : t.ListsWithin := by
  obtain ⟨h1, h2, h3, h4, h5⟩ := h
  exact ⟨by rwa [hmap.1], by rwa [hmap.2], by rwa [hplans], by rwa [hcut.1], by rwa [hcut.2]⟩

theorem State.KeepsCourses.listsWithin {s t : State} (h : s.KeepsCourses t) (hs : s.ListsWithin) : t.ListsWithin := by
  obtain ⟨h1, h2, h3, h4, h5⟩ := hs
  have howners := congrArg List.length h.owners
  rw [List.length_map, List.length_map] at howners
  exact ⟨h.reprints h1, by rwa [h.outcomes], by rwa [h.plans], by rwa [howners], h.slit.trans h5⟩

theorem startTracking_listsWithin {e : MapEntry} {s : State} (h : s.ListsWithin) : (startTracking e s).ListsWithin := by
  obtain ⟨pulse, hpulse⟩ := syncCrossings_tracker [e] s
  have hsync : (syncCrossings [e] s).ListsWithin := by
    rw [hpulse]
    exact h.of_eq ⟨rfl, rfl⟩ rfl ⟨rfl, rfl⟩
  unfold startTracking
  dsimp only
  split
  · exact hsync.of_eq (by simp [printLineCrossing, State.modifyEntry]) (by simp [printLineCrossing])
      (by simp [printLineCrossing])
  · exact hsync

theorem evalMapLevels_listsWithin {s : State} (h : s.ListsWithin) : (evalMapLevels s).ListsWithin :=
  h.of_eq (by simp) (by simp) (by simp)

theorem clearsFlight_listsWithin {l : LinkId} {u v : State} (h : ClearsFlight l u v) (hu : u.ListsWithin) :
    v.ListsWithin := by
  cases l with
  | feed =>
    obtain rfl : v = u := h
    exact hu
  | lam =>
    obtain ⟨x, -, -, -, rfl⟩ := h
    exact hu.of_eq ⟨rfl, rfl⟩ rfl ⟨rfl, rfl⟩
  | slit =>
    obtain ⟨x, -, hxcut, -, hslit, rfl⟩ := h
    obtain ⟨h1, h2, h3, h4, h5⟩ := hu
    exact ⟨h1, h2, h3, by rw [State.setCut_cut, hxcut]; exact h4, hslit.trans h5⟩
  | xcut =>
    obtain ⟨-, rfl⟩ := h
    exact hu

theorem dropOp_listsWithin {l : LinkId} {s : State} (h : s.ListsWithin) : (dropOp l s).ListsWithin :=
  h.of_eq ⟨rfl, rfl⟩ rfl ⟨rfl, rfl⟩

theorem cutLeaves_listsWithin {c : CutEntry} {s u : State} (h : CutLeaves c s u) (hs : s.ListsWithin) : u.ListsWithin := by
  cases h with
  | queue rest _ hqueue =>
    obtain ⟨h1, h2, h3, h4, h5⟩ := hs
    rw [hqueue, List.length_cons] at h4
    exact ⟨h1, h2, h3, by rw [State.setCut_cut]; exact (Nat.le_succ _).trans h4, h5⟩
  | flight _ h =>
    exact (h.lineOnly.keepsCourses.listsWithin (dropOp_listsWithin hs)).of_eq ⟨rfl, rfl⟩ rfl ⟨rfl, rfl⟩

theorem PartMove.listsWithin {s t : State} (h : PartMove s t) (hs : s.ListsWithin) : t.ListsWithin := by
  have hsame {u : State} (hmap : u.map = s.map) (hplans : u.plans = s.plans) (hcut : u.cut = s.cut) : u.ListsWithin :=
    hs.of_eq (by simp [hmap]) (by simp [hplans]) (by simp [hcut])
  cases h with
  | inner h => exact h.keepsCourses.listsWithin hs
  | ended l h hv =>
    exact clearsFlight_listsWithin hv (h.lineOnly.keepsCourses.listsWithin (dropOp_listsWithin hs))
  | cutIssued c rest ws _ hqueue =>
    obtain ⟨h1, h2, h3, h4, h5⟩ := hs
    rw [hqueue, List.length_cons] at h4
    exact ⟨h1, h2, h3, by rw [State.setCut_cut]; exact (Nat.le_succ _).trans h4, h5⟩
  | cutResolved c made hu hv =>
    exact (hv.keepsCourses.listsWithin (cutLeaves_listsWithin hu hs)).of_eq ⟨rfl, rfl⟩ rfl ⟨rfl, rfl⟩
  | cutQueued c _ hroom =>
    obtain ⟨h1, h2, h3, -, h5⟩ := hs
    refine ⟨h1, h2, h3, ?_, h5⟩
    have hlength := insertAfter_length (fun x : CutEntry => x.position) c s.cut.xcut
    exact hlength.le.trans hroom
  | slitQueued x _ hroom =>
    obtain ⟨h1, h2, h3, h4, -⟩ := hs
    exact ⟨h1, h2, h3, h4, (insertAfter_length _ x s.cut.slit).le.trans hroom⟩
  | printLine t =>
    exact hs.of_eq (by simp [printLineCrossing, State.modifyEntry]) (by simp [printLineCrossing]) (by simp [printLineCrossing])
  | commit t => exact hs.of_eq ⟨rfl, rfl⟩ rfl ⟨rfl, rfl⟩
  | knife t => exact hs.of_eq ⟨rfl, rfl⟩ rfl ⟨rfl, rfl⟩
  | lock lock run => exact hsame (by simp) (by simp) (by simp)
  | outcome r _ hroom =>
    obtain ⟨h1, -, h3, h4, h5⟩ := hs
    exact ⟨h1, by simpa using hroom, h3, h4, h5⟩
  | retire x e he hcuts hu =>
    have hdropped : (s.dropEntry x).ListsWithin := hs.of_eq ⟨rfl, rfl⟩ rfl ⟨rfl, rfl⟩
    refine evalMapLevels_listsWithin ?_
    exact (hu.keepsCourses.listsWithin hdropped).of_eq (by simp) (by simp [State.dropRef]) (by simp)
  | withdraw e he hphase hu =>
    refine evalMapLevels_listsWithin (hu.keepsCourses.listsWithin (hs.of_eq ?_ ?_ ?_))
    · rw [State.setMap_map, recomputeLast]
      split <;> exact ⟨rfl, rfl⟩
    · simp [State.dropRef]
    · simp
  | announce e he hu hv =>
    refine evalMapLevels_listsWithin (hv.keepsCourses.listsWithin (startTracking_listsWithin ?_))
    exact hu.keepsCourses.listsWithin (hs.of_eq (by simp) (by simp [State.addRef]) (by simp))
  | thresholds high low => exact evalMapLevels_listsWithin (hs.of_eq ⟨rfl, rfl⟩ rfl ⟨rfl, rfl⟩)
  | reprints rest _ h =>
    obtain ⟨h1, h2, h3, h4, h5⟩ := hs
    exact ⟨h.trans h1, h2, h3, h4, h5⟩
  | outcomes rest _ h =>
    obtain ⟨h1, h2, h3, h4, h5⟩ := hs
    exact ⟨h1, h.trans h2, h3, h4, h5⟩
  | plans x _ hlength =>
    obtain ⟨h1, h2, h3, h4, h5⟩ := hs
    exact ⟨h1, h2, hlength h3, h4, h5⟩
  | steers h => exact hsame (by rw [h.frame]) (by rw [h.frame]) (by rw [h.frame])
  | lineReset =>
    have hcleared : (passLevels (resetBlocks s)).ListsWithin := by
      have hblocks : (passLevels (resetBlocks s)).map = PanelMap.reset ∧
          (passLevels (resetBlocks s)).plans = s.plans.lineReset ∧ (passLevels (resetBlocks s)).cut = CutControl.reset := by
        simp [passLevels, allLinks, resetBlocks]
      obtain ⟨hmap, hplans, hcut⟩ := hblocks
      refine ⟨by simp [hmap, PanelMap.reset], by simp [hmap, PanelMap.reset], ?_, by simp [hcut, CutControl.reset],
        by simp [hcut, CutControl.reset]⟩
      simpa [hplans, PlanStore.lineReset] using hs.plans
    exact ((evalFilm_inner _).keepsCourses.listsWithin hcleared).of_eq ⟨rfl, rfl⟩ rfl ⟨rfl, rfl⟩
  | hardwareReset =>
    constructor <;>
      simp [Machine.hardwareReset, State.reset, PanelMap.reset, PlanStore.reset, CutControl.reset]
  | _ => exact hsame rfl rfl rfl

theorem WebMove.listsWithin {s t : State} (h : WebMove s t) (hs : s.ListsWithin) : t.ListsWithin := by
  cases h with
  | move h => exact h.listsWithin hs
  | odometer => exact hs.of_eq ⟨rfl, rfl⟩ rfl ⟨rfl, rfl⟩
  | window => exact hs.of_eq ⟨rfl, rfl⟩ rfl ⟨rfl, rfl⟩

/-- Settles O53: every list is appended to only where its place is free, and the web advances only below the odometer's top. -/
theorem countsStayInRange : Obligations.CountsStayInRange := by
  refine Kept.of_moves (fun _ _ h => h) fun {s t} h hs => ?_
  obtain ⟨htravel, hlists, hlock⟩ := hs
  obtain ⟨hentries, hreprints, houtcomes, hplans, hxcut, hslit⟩ := hlists
  have hwithin := h.listsWithin ⟨hreprints, houtcomes, hplans, hxcut, hslit⟩
  exact ⟨h.pieces.keep MovePiece.travelInRange htravel,
    ⟨h.mapChange.entries_length hentries, hwithin.reprints, hwithin.outcomes, hwithin.plans, hwithin.xcut, hwithin.slit⟩,
    h.pieces.keep MovePiece.lockCounts hlock⟩

/-! ### The raw levels (O57) -/

/-- The level notices of the Panel Map, which alone reads the entries. -/
def Notice.ofMap : Notice → Bool
  | .nearFull | .queueLow => true
  | _ => false

/-- The levels the map does not own read neither the map nor the queues. -/
theorem State.Agrees.of_blocks {s t : State} {n : Notice} (h : s.Agrees n) (hn : n.ofMap = false)
    (hnotices : t.notices = s.notices) (hline : t.line = s.line) (hhold : t.hold = s.hold)
    (hlinks : ∀ l, (t.link l).state = (s.link l).state) (hreg : t.reg.lock = s.reg.lock) (hfilm : t.filmLow = s.filmLow) :
    t.Agrees n := by
  refine h.of_eq ?_ (by rw [State.level, hnotices, State.level])
  cases n <;>
    simp_all [State.raw, State.lineUp, State.holdActive, State.regLocked, State.linkUp, Notice.ofMap]

/-- The two levels of the map, evaluated: the others are left. -/
theorem evalMapLevels_agrees {s : State} {n : Notice} (h : n.ofMap = false → s.Agrees n) : (evalMapLevels s).Agrees n := by
  have hraw : (passLevel .nearFull s.nearFull s).raw .queueLow = some s.queueLow := by
    rw [passLevel_eq_withNotices]
    rfl
  refine passLevel_agrees hraw fun hq => passLevel_agrees rfl fun hf => h ?_
  cases n <;> simp_all [Notice.ofMap]

theorem InnerMoves.agrees {s t : State} {n : Notice} (h : InnerMoves s t) (hs : s.Agrees n) : t.Agrees n :=
  h.keep (P := fun u => u.Agrees n) (fun hm hu => hm.agrees hu) hs

theorem LineMoves.agrees {s t : State} {n : Notice} (h : LineMoves s t) (hs : s.Agrees n) : t.Agrees n :=
  h.inner.agrees hs

/-- The phases of the entries, in web order. -/
def State.phases (s : State) : List Phase := s.map.entries.map (fun e => e.phase)

theorem mapLevels_of_phases {s t : State} (h : t.phases = s.phases) (hhigh : t.map.high = s.map.high)
    (hlow : t.map.low = s.map.low) : t.nearFull = s.nearFull ∧ t.queueLow = s.queueLow := by
  have hlength := congrArg List.length h
  have hcount := congrArg (List.countP (fun p => p == .queued)) h
  simp only [State.phases, List.length_map, List.countP_map] at hlength hcount
  unfold State.nearFull State.queueLow queuedCount
  rw [hhigh, hlow, hlength]
  exact ⟨rfl, by simpa [Function.comp_def] using congrArg (fun n => decide (n ≤ s.map.low)) hcount⟩

theorem phases_modifyEntry (t : Target) (f : MapEntry → MapEntry) (hf : ∀ e, (f e).phase = e.phase) (s : State) :
    (s.modifyEntry t f).phases = s.phases := by
  rw [State.phases, State.modifyEntry_entries, updateEntry, List.map_map]
  refine List.map_congr_left fun e _ => ?_
  rw [Function.comp_apply]
  split
  · exact hf e
  · rfl

/-- A change of entries that keeps every phase keeps every level. -/
theorem modifyEntry_agrees {t : Target} {f : MapEntry → MapEntry} (hf : ∀ e, (f e).phase = e.phase) {s : State} {n : Notice}
    (h : s.Agrees n) : (s.modifyEntry t f).Agrees n := by
  obtain ⟨hfull, hqueue⟩ := mapLevels_of_phases (phases_modifyEntry t f hf s) rfl rfl
  exact h.of_same rfl rfl rfl (fun _ => rfl) rfl rfl hfull hqueue

theorem setLink_agrees {l : LinkId} {k : Link} {s : State} {n : Notice} (hstate : k.state = (s.link l).state)
    (h : s.Agrees n) : (s.setLink l k).Agrees n :=
  h.of_same rfl rfl rfl (fun m => s.setLink_state l m hstate) rfl rfl rfl rfl

theorem setCut_agrees {x : CutControl} {s : State} {n : Notice} (h : s.Agrees n) : (s.setCut x).Agrees n :=
  h.of_same rfl rfl rfl (fun _ => rfl) rfl rfl rfl rfl

theorem clearsFlight_agrees {l : LinkId} {u v : State} {n : Notice} (h : ClearsFlight l u v) (hu : u.Agrees n) :
    v.Agrees n := by
  cases l with
  | feed =>
    obtain rfl : v = u := h
    exact hu
  | lam =>
    obtain ⟨x, -, hremaining, hlow, rfl⟩ := h
    refine hu.of_same rfl rfl rfl (fun _ => rfl) rfl ?_ rfl rfl
    rw [State.filmLow, State.setLam_lam, hremaining, hlow, State.filmLow]
  | slit =>
    obtain ⟨x, -, -, -, -, rfl⟩ := h
    exact setCut_agrees hu
  | xcut =>
    obtain ⟨-, rfl⟩ := h
    exact hu

theorem cutLeaves_agrees {c : CutEntry} {s u : State} {n : Notice} (h : CutLeaves c s u) (hs : s.Agrees n) : u.Agrees n := by
  cases h with
  | queue => exact setCut_agrees hs
  | flight _ h => exact setCut_agrees (h.agrees (setLink_agrees rfl hs))

/-- Under distinct names the entry looked up is the only one that carries the name. -/
theorem entry_of_mem {s : State} (hnames : NamesApart s.map) {e : MapEntry} {t : Target} (he : e ∈ s.map.entries)
    (ht : e.named t = true) : s.entry t = some e := by
  obtain ⟨-, hslots, -⟩ := hnames
  have hsome : (s.entry t).isSome := List.find?_isSome.2 ⟨e, he, ht⟩
  obtain ⟨x, hx⟩ := Option.isSome_iff_exists.1 hsome
  have hslot : x.slot = e.slot := by
    have hxt : x.named t = true := List.find?_some hx
    simp only [MapEntry.named, Bool.and_eq_true, beq_iff_eq] at hxt ht
    rw [hxt.1, ht.1]
  rw [hx, List.inj_on_of_nodup_map hslots (List.mem_of_find?_eq_some hx) he hslot]

/-- An entry past the print line stays no QUEUED one. -/
theorem advancePhase_agrees {s : State} (hnames : NamesApart s.map) {t : Target} {p : Phase} (hp : p ≠ .queued)
    (hphase : ∀ e ∈ s.entry t, e.phase ≠ .queued) {n : Notice} (h : s.Agrees n) :
    (s.modifyEntry t (fun e => { e with phase := p })).Agrees n := by
  have hcount : queuedCount (s.modifyEntry t (fun e => { e with phase := p })).map.entries = queuedCount s.map.entries := by
    rw [State.modifyEntry_entries, queuedCount, queuedCount, updateEntry, List.countP_map]
    refine List.countP_congr fun e he => ?_
    rw [Function.comp_apply]
    by_cases ht : e.named t = true
    · have hne := hphase e (entry_of_mem hnames he ht)
      rw [if_pos ht]
      simp [hp, hne]
    · rw [if_neg ht]
  refine h.of_same rfl rfl rfl (fun _ => rfl) rfl rfl ?_ ?_
  · rw [State.nearFull, State.modifyEntry_entries, updateEntry_length]
    rfl
  · rw [State.queueLow, hcount]
    rfl

theorem printLineCrossing_agrees {t : Target} {s : State} {n : Notice} (h : s.Agrees n) :
    (printLineCrossing t s).Agrees n := by
  refine passLevel_agrees rfl fun hn => h.of_eq ?_ rfl
  have hlength : (s.modifyEntry t (fun x => { x with phase := .onWeb })).nearFull = s.nearFull := by
    rw [State.nearFull, State.modifyEntry_entries, updateEntry_length]
    rfl
  cases n <;> simp_all [State.raw] <;> rfl

theorem startTracking_agrees {e : MapEntry} {s : State} {n : Notice} (h : s.Agrees n) : (startTracking e s).Agrees n := by
  obtain ⟨pulse, hpulse⟩ := syncCrossings_tracker [e] s
  have hsync : (syncCrossings [e] s).Agrees n := by
    rw [hpulse]
    exact h.of_same rfl rfl rfl (fun _ => rfl) rfl rfl rfl rfl
  unfold startTracking
  dsimp only
  split
  · exact printLineCrossing_agrees hsync
  · exact hsync

/-- LINE RESET passes every level but FILM_LOW, which the film's evaluation passes (R186). -/
theorem passLevels_agrees (s : State) {n : Notice} (hn : n ≠ .filmLow) : (passLevels s).Agrees n := by
  have hraw (u : State) (m k : Notice) (v : Bool) : (passLevel m v u).raw k = u.raw k := by
    rw [passLevel_eq_withNotices]
    cases k <;> rfl
  unfold passLevels
  simp only [allLinks, List.foldl, passLinkUp]
  refine passLevel_agrees rfl fun hxcut => passLevel_agrees rfl fun hslit => passLevel_agrees rfl fun hlam => ?_
  refine passLevel_agrees rfl fun hfeed => evalMapLevels_agrees fun hmap => passLevel_agrees (hraw _ _ _ _) fun hlock => ?_
  refine passLevel_agrees rfl fun hhold => passLevel_agrees rfl fun hline => ?_
  intro v hv
  cases n with
  | linkUp l => cases l <;> simp_all
  | _ => simp_all [State.raw, Notice.ofMap]

theorem lineReset_agrees (s : State) (n : Notice) : (lineReset s).1.Agrees n := by
  have hfilm : (evalFilm (passLevels (resetBlocks s))).Agrees n :=
    (autoSplice_moves _).agrees (passLevel_agrees rfl fun hn => passLevels_agrees _ hn)
  exact hfilm.of_eq (by cases n <;> rfl) rfl

theorem hardwareReset_agrees (s : State) (n : Notice) : (hardwareReset s).Agrees n := by
  intro v hv
  have hlevel : (hardwareReset s).level n = (0b0000101000#10).getLsbD n.number := rfl
  rw [hlevel]
  cases n with
  | linkUp l =>
    obtain rfl := Option.some.inj hv
    cases l <;> rfl
  | lineState | holdActive | regLock | filmLow | nearFull | queueLow =>
    obtain rfl := Option.some.inj hv
    rfl
  | _ => cases hv

theorem PartMove.agrees {s t : State} (h : PartMove s t) (hnames : NamesApart s.map) (hs : ∀ n, s.Agrees n) (n : Notice) :
    t.Agrees n := by
  cases h with
  | inner h => exact h.agrees (hs n)
  | ended l h hv => exact clearsFlight_agrees hv (h.agrees (setLink_agrees rfl (hs n)))
  | cutIssued c rest ws => exact setCut_agrees (setLink_agrees rfl (hs n))
  | cutResolved c made hu hv => exact modifyEntry_agrees (f := MapEntry.cutDone made) (fun _ => rfl) (hv.agrees (cutLeaves_agrees hu (hs n)))
  | cutQueued c =>
    exact modifyEntry_agrees (f := fun e => { e with cutsPending := e.cutsPending + 1 }) (fun _ => rfl)
      (setCut_agrees (hs n))
  | slitQueued x => exact setCut_agrees (hs n)
  | printLine t => exact printLineCrossing_agrees (hs n)
  | commit t _ hphase => exact advancePhase_agrees hnames (by simp) (fun e he => by simp [hphase e he]) (hs n)
  | knife t _ hphase => exact advancePhase_agrees hnames (by simp) (fun e he => by simp [hphase e he]) (hs n)
  | lock lock run =>
    refine passLevel_agrees rfl fun hn => (hs n).of_eq ?_ rfl
    cases n <;> simp_all [State.raw] <;> rfl
  | outcome r => exact (hs n).of_same rfl rfl rfl (fun _ => rfl) rfl rfl rfl rfl
  | retire x e he hcuts hu =>
    refine evalMapLevels_agrees fun hn => raiseNotice_agrees (State.Agrees.of_blocks (hu.agrees ?_) hn rfl rfl rfl
      (fun _ => rfl) rfl rfl)
    exact (hs n).of_blocks hn rfl rfl rfl (fun _ => rfl) rfl rfl
  | withdraw e he hphase hu =>
    exact evalMapLevels_agrees fun hn => hu.agrees ((hs n).of_blocks hn rfl rfl rfl (fun _ => rfl) rfl rfl)
  | announce e he hu hv =>
    refine evalMapLevels_agrees fun hn => hv.agrees (startTracking_agrees (hu.agrees ?_))
    exact (hs n).of_blocks hn rfl rfl rfl (fun _ => rfl) rfl rfl
  | thresholds high low =>
    exact evalMapLevels_agrees fun hn => (hs n).of_blocks hn rfl rfl rfl (fun _ => rfl) rfl rfl
  | notices x _ hlevels =>
    refine (hs n).of_eq ?_ (by rw [State.level, State.setNotices_notices, hlevels, State.level])
    cases n <;> rfl
  | steers h => exact h.levels hs n
  | lineReset => exact lineReset_agrees s n
  | hardwareReset => exact hardwareReset_agrees s n
  | timers =>
    exact (hs n).of_eq (State.raw_congr n (fun _ => rfl) (fun _ => rfl) (fun l _ => by cases l <;> rfl) rfl rfl rfl) rfl
  | registration w k => exact (hs n).of_eq (by cases n <;> rfl) rfl
  | _ => exact (hs n).of_same rfl rfl rfl (fun _ => rfl) rfl rfl rfl rfl

theorem WebMove.agrees {s t : State} (h : WebMove s t) (hnames : NamesApart s.map) (hs : ∀ n, s.Agrees n) (n : Notice) :
    t.Agrees n := by
  cases h with
  | move h => exact h.agrees hnames hs n
  | odometer => exact (hs n).of_same rfl rfl rfl (fun _ => rfl) rfl rfl rfl rfl
  | window x f _ hf => exact modifyEntry_agrees (fun e => congrArg Course.phase (hf e)) (hs n)

/-- Settles O57: every change of what a level is reckoned from ends with the level passed. -/
theorem rawLevelsAgreeWithTheBlocks : Obligations.RawLevelsAgreeWithTheBlocks := by
  refine Kept.of_moves (inv := LevelsAgree) (fun _ _ h => h) fun h hs => ?_
  rw [levelsAgree_iff] at hs ⊢
  exact ⟨h.mapChange.namesApart hs.1, h.agrees hs.1 hs.2⟩

end Sys2Proof.Machine
end

section
/-! What every step keeps of the cuts pending (O59): an entry's count follows the cut entries that name it, in the queue and in
flight, and only an entry that owns none leaves the map or its phase. -/

namespace Sys2Proof.Machine

/-! ### The flights -/

theorem FlightsAgree.of_eq {s t : State} (h : FlightsAgree s) (hop : ∀ l, (t.link l).op.isSome = (s.link l).op.isSome)
    (hlam : t.lam.op.isSome = s.lam.op.isSome) (hmove : t.cut.moveFlight.isSome = s.cut.moveFlight.isSome)
    (hcut : t.cut.cutFlight.isSome = s.cut.cutFlight.isSome) : FlightsAgree t := by
  obtain ⟨hfeed, hrest⟩ := h
  have hnone : (t.link .feed).op = none := by
    rw [← Option.isNone_iff_eq_none, ← Option.not_isSome, hop, hfeed]
    rfl
  exact ⟨hnone, by rwa [hop, hop, hop, hlam, hmove, hcut]⟩

@[simp] theorem State.setLam_link (s : State) (x : Laminator) (l : LinkId) : (s.setLam x).link l = s.link l := rfl

@[simp] theorem State.setCut_link (s : State) (x : CutControl) (l : LinkId) : (s.setCut x).link l = s.link l := rfl

/-- After an operation's end its link carries none, and the others carry what they carried. -/
theorem dropped_ops {l : LinkId} {s u : State} (h : LineMoves (dropOp l s) u) :
    (u.link l).op = none ∧ ∀ m, m ≠ l → (u.link m).op = (s.link m).op := by
  refine ⟨(h.lineOnly.op l).trans (dropOp_op l s), fun m hm => (h.lineOnly.op m).trans ?_⟩
  rw [dropOp, State.setLink_link_of_ne _ _ _ _ hm]

theorem FlightsAgree.ended {l : LinkId} {s u v : State} (h : LineMoves (dropOp l s) u) (hv : ClearsFlight l u v)
    (hs : FlightsAgree s) : FlightsAgree v := by
  obtain ⟨hdropped, hother⟩ := dropped_ops h
  have hlam : u.lam = s.lam := h.lineOnly.lam
  have hcut : u.cut = s.cut := h.lineOnly.cut
  simp only [FlightsAgree, Bool.coe_iff_coe] at hs ⊢
  obtain ⟨hfeedop, hlamop, hslitop, hxcutop⟩ := hs
  cases l with
  | feed =>
    obtain rfl : v = u := hv
    simpa [hdropped, hother, hlam, hcut] using ⟨hlamop, hslitop, hxcutop⟩
  | lam =>
    obtain ⟨x, hx, -, -, rfl⟩ := hv
    simpa [hdropped, hother, hcut, hx] using ⟨hfeedop, hslitop, hxcutop⟩
  | slit =>
    obtain ⟨x, hx, -, hflight, -, rfl⟩ := hv
    simpa [hdropped, hother, hlam, hcut, hx, hflight] using ⟨hfeedop, hlamop, hxcutop⟩
  | xcut =>
    obtain ⟨hflight, rfl⟩ := hv
    rw [hcut] at hflight
    simpa [hdropped, hother, hlam, hcut, hflight] using ⟨hfeedop, hlamop, hslitop⟩

theorem FlightsAgree.cutLeaves {c : CutEntry} {s u : State} (h : CutLeaves c s u) (hs : FlightsAgree s) : FlightsAgree u := by
  cases h with
  | queue => exact hs
  | @flight _ u hc h =>
    obtain ⟨hdropped, hother⟩ := dropped_ops h
    have hlam : u.lam = s.lam := h.lineOnly.lam
    have hcut : u.cut = s.cut := h.lineOnly.cut
    simp only [FlightsAgree, Bool.coe_iff_coe] at hs ⊢
    obtain ⟨hfeed, hlamop, hslitop, -⟩ := hs
    simpa [hdropped, hother, hlam, hcut] using ⟨hfeed, hlamop, hslitop⟩

theorem startTracking_flights {e : MapEntry} {s : State} (h : FlightsAgree s) : FlightsAgree (startTracking e s) := by
  obtain ⟨pulse, hpulse⟩ := syncCrossings_tracker [e] s
  have hsync : FlightsAgree (syncCrossings [e] s) := by
    rw [hpulse]
    exact h
  unfold startTracking
  dsimp only
  split
  · exact hsync.of_eq (fun l => by rw [link_of_links_eq (by simp [printLineCrossing] : _ = (syncCrossings [e] s).links)])
      (by simp [printLineCrossing]) (by simp [printLineCrossing]) (by simp [printLineCrossing])
  · exact hsync

theorem evalMapLevels_flights {s : State} (h : FlightsAgree s) : FlightsAgree (evalMapLevels s) :=
  h.of_eq (fun l => by rw [link_of_links_eq (by simp : _ = s.links)]) (by simp) (by simp) (by simp)

theorem PartMove.flights {s t : State} (h : PartMove s t) (hs : FlightsAgree s) : FlightsAgree t := by
  have hlinks {u v : State} (hu : FlightsAgree u) (hlinks : v.links = u.links) (hlam : v.lam = u.lam)
      (hcut : v.cut = u.cut) : FlightsAgree v :=
    hu.of_eq (fun l => by rw [link_of_links_eq hlinks]) (by rw [hlam]) (by rw [hcut]) (by rw [hcut])
  cases h with
  | inner h => exact h.keepsCourses.flights hs
  | ended l h hv => exact hs.ended h hv
  | cutIssued c rest ws _ hqueue =>
    have hother (m : LinkId) (hm : m ≠ .xcut) (k : Link) : (s.setLink .xcut k).link m = s.link m :=
      State.setLink_link_of_ne _ _ _ _ hm
    simp only [FlightsAgree, Bool.coe_iff_coe] at hs ⊢
    obtain ⟨hfeed, hlamop, hslitop, -⟩ := hs
    simpa [hother] using ⟨hfeed, hlamop, hslitop⟩
  | cutResolved c made hu hv => exact hv.keepsCourses.flights (hs.cutLeaves hu)
  | printLine t => exact hlinks hs (by simp [printLineCrossing]) (by simp [printLineCrossing]) (by simp [printLineCrossing])
  | lock lock run => exact hlinks hs (by simp) (by simp) (by simp)
  | retire t e he hcuts hu =>
    have hkept : FlightsAgree _ := hu.keepsCourses.flights (s := s.dropEntry t) hs
    exact evalMapLevels_flights (hlinks (u := _) hkept (by simp) (by simp) (by simp))
  | withdraw e he hphase hu => exact evalMapLevels_flights (hu.keepsCourses.flights hs)
  | announce e he hu hv =>
    exact evalMapLevels_flights (hv.keepsCourses.flights (startTracking_flights (hu.keepsCourses.flights hs)))
  | thresholds high low => exact evalMapLevels_flights (s := s.setMap _) hs
  | timers =>
    refine hs.of_eq (fun l => ?_) rfl rfl rfl
    cases l <;> simp [tickTimers, State.link, PerLink.get, PerLink.map, Link.tick]
  | steers h =>
    rw [h.frame]
    exact hs
  | lineReset =>
    have hblocks : FlightsAgree (passLevels (resetBlocks s)) := by
      have hcleared : FlightsAgree (resetBlocks s) := by
        simp [FlightsAgree, resetBlocks, State.link, PerLink.get, PerLink.map, Link.lineReset, Link.reset,
          Laminator.lineReset, Laminator.reset, CutControl.reset]
      exact hlinks hcleared (by simp [passLevels, allLinks]) (by simp [passLevels, allLinks]) (by simp [passLevels, allLinks])
    exact (evalFilm_inner _).keepsCourses.flights hblocks
  | hardwareReset => exact ⟨rfl, .rfl, .rfl, .rfl⟩
  | _ => exact hs

/-! ### The owners of the cuts -/

/-- What the counting of the cuts reads of an entry. -/
structure CutView where
  target : Target
  phase : Phase
  pending : Nat

def Course.cutView (c : Course) : CutView := { target := c.target, phase := c.phase, pending := c.cutsPending }

def MapEntry.cutView (e : MapEntry) : CutView := e.course.cutView

def State.cutViews (s : State) : List CutView := s.map.entries.map MapEntry.cutView

/-- The owners of the cut entries not resolved, those in the queue and the one in flight. -/
def State.cutOwners (s : State) : List Target := (s.cut.xcut ++ s.cut.cutFlight.toList).map (fun c => c.owner)

/-- An entry of this phase may own cuts (R102). -/
abbrev CutView.mayOwn (v : CutView) : Prop := v.phase = .committed ∨ v.phase = .atKnife

/-- R29 and R102 of the entries and the owners. -/
def OwnersCounted (vs : List CutView) (os : List Target) : Prop :=
  (∀ v ∈ vs, v.pending = os.count v.target) ∧ ∀ o ∈ os, ∃ v ∈ vs, v.target = o ∧ v.mayOwn

theorem unresolvedCuts_eq_count (s : State) (t : Target) : s.unresolvedCuts t = s.cutOwners.count t := by
  rw [State.unresolvedCuts, State.cutOwners, ← List.countP_append, List.count, List.countP_map]
  refine List.countP_congr fun c _ => ?_
  simp

theorem cutsCounted_iff (s : State) :
    CutsCounted s ↔ NamesApart s.map ∧ FlightsAgree s ∧ OwnersCounted s.cutViews s.cutOwners := by
  unfold CutsCounted OwnersCounted
  simp only [State.cutViews, State.cutOwners, unresolvedCuts_eq_count, List.mem_map, exists_exists_and_eq_and,
    forall_exists_index, and_imp, forall_apply_eq_imp_iff₂]
  rfl

theorem OwnersCounted.perm {vs : List CutView} {os ps : List Target} (h : OwnersCounted vs os) (hperm : ps.Perm os) :
    OwnersCounted vs ps :=
  ⟨fun v hv => (h.1 v hv).trans (hperm.count_eq _).symm, fun o ho => h.2 o (hperm.subset ho)⟩

theorem OwnersCounted.of_eq {s t : State} (h : OwnersCounted s.cutViews s.cutOwners) (hviews : t.cutViews = s.cutViews)
    (howners : t.cutOwners = s.cutOwners) : OwnersCounted t.cutViews t.cutOwners := by
  rwa [hviews, howners]

theorem cutViews_of_entries {s t : State} (h : t.map.entries = s.map.entries) : t.cutViews = s.cutViews := by
  rw [State.cutViews, h, State.cutViews]

theorem cutOwners_of_cut {s t : State} (h : t.cut = s.cut) : t.cutOwners = s.cutOwners := by
  rw [State.cutOwners, h, State.cutOwners]

theorem State.KeepsCourses.cutViews {s t : State} (h : s.KeepsCourses t) : t.cutViews = s.cutViews := by
  have hviews (u : State) : u.cutViews = u.courses.map Course.cutView := by
    rw [State.courses, List.map_map]
    rfl
  rw [hviews, hviews, h.courses]

theorem State.KeepsCourses.cutOwners {s t : State} (h : s.KeepsCourses t) : t.cutOwners = s.cutOwners := by
  rw [State.cutOwners, State.cutOwners, List.map_append, List.map_append, h.owners, h.cutFlight]

theorem State.KeepsCourses.ownersCounted {s t : State} (h : s.KeepsCourses t)
    (hs : OwnersCounted s.cutViews s.cutOwners) : OwnersCounted t.cutViews t.cutOwners := hs.of_eq h.cutViews h.cutOwners

theorem named_iff_target (t : Target) (e : MapEntry) : e.named t = true ↔ e.target = t := by
  cases t
  simp [MapEntry.named, MapEntry.target]

/-- The views after a change of the entries of one name. -/
theorem cutViews_modifyEntry (t : Target) (f : MapEntry → MapEntry) (g : CutView → CutView)
    (hf : ∀ e, (f e).cutView = g e.cutView) (s : State) :
    (s.modifyEntry t f).cutViews = s.cutViews.map (fun v => if v.target = t then g v else v) := by
  rw [State.cutViews, State.cutViews, State.modifyEntry_entries, updateEntry, List.map_map, List.map_map]
  refine List.map_congr_left fun e _ => ?_
  simp only [Function.comp_apply, named_iff_target]
  by_cases h : e.target = t
  · rw [if_pos h, if_pos (show e.cutView.target = t from h), hf]
  · rw [if_neg h, if_neg (show ¬e.cutView.target = t from h)]

/-- The entries of one name changed in phase, where the new phase may own cuts or the name owns none. -/
theorem OwnersCounted.changePhase {vs : List CutView} {os : List Target} (h : OwnersCounted vs os) (t : Target) (p : Phase)
    (hp : p = .committed ∨ p = .atKnife ∨ t ∉ os) :
    OwnersCounted (vs.map (fun v => if v.target = t then { v with phase := p } else v)) os := by
  obtain ⟨hcount, howner⟩ := h
  refine ⟨?_, fun o ho => ?_⟩
  · rw [List.forall_mem_map]
    intro v hv
    split <;> exact hcount v hv
  · obtain ⟨v, hv, rfl, hmay⟩ := howner o ho
    refine ⟨_, List.mem_map_of_mem hv, ?_⟩
    by_cases ht : v.target = t
    · rw [if_pos ht]
      refine ⟨rfl, ?_⟩
      rcases hp with rfl | rfl | hp
      · exact .inl rfl
      · exact .inr rfl
      · exact absurd (ht ▸ ho) hp
    · rw [if_neg ht]
      exact ⟨rfl, hmay⟩

theorem OwnersCounted.add {vs : List CutView} {os : List Target} (h : OwnersCounted vs os) (t : Target)
    (ht : ∃ v ∈ vs, v.target = t ∧ v.mayOwn) :
    OwnersCounted (vs.map (fun v => if v.target = t then { v with pending := v.pending + 1 } else v)) (t :: os) := by
  obtain ⟨hcount, howner⟩ := h
  refine ⟨?_, fun o ho => ?_⟩
  · rw [List.forall_mem_map]
    intro v hv
    split
    · next hvt => simp [hcount v hv, hvt]
    · next hvt => rw [List.count_cons_of_ne (Ne.symm hvt), hcount v hv]
  · have hold : ∃ v ∈ vs, v.target = o ∧ v.mayOwn := by
      rcases List.mem_cons.1 ho with rfl | ho
      · exact ht
      · exact howner o ho
    obtain ⟨v, hv, hvo, hmay⟩ := hold
    refine ⟨_, List.mem_map_of_mem hv, ?_⟩
    split <;> exact ⟨hvo, hmay⟩

theorem OwnersCounted.resolve {vs : List CutView} {os : List Target} {t : Target} (h : OwnersCounted vs (t :: os)) :
    OwnersCounted (vs.map (fun v => if v.target = t then { v with pending := v.pending - 1 } else v)) os := by
  obtain ⟨hcount, howner⟩ := h
  refine ⟨?_, fun o ho => ?_⟩
  · rw [List.forall_mem_map]
    intro v hv
    have hv := hcount v hv
    split
    · next hvt =>
      rw [hvt, List.count_cons_self] at hv
      show v.pending - 1 = os.count v.target
      rw [hvt]
      omega
    · next hvt => rwa [List.count_cons_of_ne (Ne.symm hvt)] at hv
  · obtain ⟨v, hv, hvo, hmay⟩ := howner o (List.mem_cons_of_mem _ ho)
    refine ⟨_, List.mem_map_of_mem hv, ?_⟩
    split <;> exact ⟨hvo, hmay⟩

theorem OwnersCounted.remove {vs : List CutView} {os : List Target} (h : OwnersCounted vs os) {t : Target} (ht : t ∉ os) :
    OwnersCounted (vs.eraseP (fun v => v.target == t)) os := by
  obtain ⟨hcount, howner⟩ := h
  refine ⟨fun v hv => hcount v (List.eraseP_subset hv), fun o ho => ?_⟩
  obtain ⟨v, hv, rfl, hmay⟩ := howner o ho
  refine ⟨v, ?_, rfl, hmay⟩
  refine (List.mem_eraseP_of_neg ?_).2 hv
  simp only [beq_iff_eq]
  exact fun hvt => ht (hvt ▸ ho)

theorem OwnersCounted.append {vs : List CutView} {os : List Target} (h : OwnersCounted vs os) (v : CutView)
    (hpending : v.pending = 0) (hv : v.target ∉ os) : OwnersCounted (vs ++ [v]) os := by
  obtain ⟨hcount, howner⟩ := h
  refine ⟨fun w hw => ?_, fun o ho => ?_⟩
  · rcases List.mem_append.1 hw with hw | hw
    · exact hcount w hw
    · rw [List.mem_singleton] at hw
      rw [hw, hpending, List.count_eq_zero_of_not_mem hv]
  · obtain ⟨w, hw, hrest⟩ := howner o ho
    exact ⟨w, List.mem_append_left _ hw, hrest⟩

theorem dropEntry_cutViews (t : Target) (s : State) :
    (s.dropEntry t).cutViews = s.cutViews.eraseP (fun v => v.target == t) := by
  have hnamed : MapEntry.named t = (fun v : CutView => v.target == t) ∘ MapEntry.cutView := by
    funext e
    rw [Bool.eq_iff_iff, named_iff_target, Function.comp_apply, beq_iff_eq]
    rfl
  rw [State.cutViews, State.cutViews, List.eraseP_map, ← hnamed]
  rfl

/-- An owner of cuts is in a phase that may own them. -/
theorem not_owner_of_phase {s : State} (hnames : NamesApart s.map) (h : OwnersCounted s.cutViews s.cutOwners) {t : Target}
    (ht : ∀ e ∈ s.entry t, ¬e.cutView.mayOwn) : t ∉ s.cutOwners := by
  intro ho
  obtain ⟨v, hv, hvt, hmay⟩ := h.2 t ho
  obtain ⟨e, he, rfl⟩ := List.mem_map.1 hv
  exact ht e (entry_of_mem hnames he ((named_iff_target t e).2 hvt)) hmay

theorem not_owner_of_pending {s : State} (h : OwnersCounted s.cutViews s.cutOwners) {e : MapEntry}
    (he : e ∈ s.map.entries) (hpending : e.cutsPending = 0) : e.target ∉ s.cutOwners := by
  have hcount : e.cutsPending = s.cutOwners.count e.target := h.1 e.cutView (List.mem_map_of_mem he)
  rw [hpending] at hcount
  exact List.count_eq_zero.1 hcount.symm

theorem insertAfter_perm {α : Type} (key : α → Nat) (x : α) (xs : List α) : (insertAfter key x xs).Perm (x :: xs) := by
  induction xs with
  | nil => exact .refl _
  | cons y ys ih =>
    unfold insertAfter
    split
    · exact .refl _
    · exact (ih.cons y).trans (.swap x y ys)

/-! ### The moves -/

theorem printLineCrossing_ownersCounted {t : Target} {s : State} (h : OwnersCounted s.cutViews s.cutOwners)
    (ht : t ∉ s.cutOwners) : OwnersCounted (printLineCrossing t s).cutViews (printLineCrossing t s).cutOwners := by
  have hphase := h.changePhase t .onWeb (.inr (.inr ht))
  rw [← cutViews_modifyEntry t (fun e => { e with phase := .onWeb }) (fun v => { v with phase := .onWeb }) (fun _ => rfl)] at hphase
  exact OwnersCounted.of_eq (s := s.modifyEntry t (fun e => { e with phase := .onWeb })) hphase
    (cutViews_of_entries (by simp [printLineCrossing])) (cutOwners_of_cut (by simp [printLineCrossing]))

theorem startTracking_ownersCounted {e : MapEntry} {s : State} (h : OwnersCounted s.cutViews s.cutOwners)
    (he : e.target ∉ s.cutOwners) : OwnersCounted (startTracking e s).cutViews (startTracking e s).cutOwners := by
  obtain ⟨pulse, hpulse⟩ := syncCrossings_tracker [e] s
  have hsync : OwnersCounted (syncCrossings [e] s).cutViews (syncCrossings [e] s).cutOwners ∧
      e.target ∉ (syncCrossings [e] s).cutOwners := by
    rw [hpulse]
    exact ⟨h, he⟩
  unfold startTracking
  dsimp only
  split
  · exact printLineCrossing_ownersCounted hsync.1 hsync.2
  · exact hsync.1

theorem evalMapLevels_ownersCounted {s : State} (h : OwnersCounted s.cutViews s.cutOwners) :
    OwnersCounted (evalMapLevels s).cutViews (evalMapLevels s).cutOwners :=
  h.of_eq (cutViews_of_entries (by simp)) (cutOwners_of_cut (by simp))

/-- A cut entry that leaves the queue or the flight leaves the owners once. -/
theorem cutLeaves_owners {c : CutEntry} {s u : State} (h : CutLeaves c s u) :
    u.cutViews = s.cutViews ∧ (c.owner :: u.cutOwners).Perm s.cutOwners := by
  refine ⟨cutViews_of_entries (congrArg PanelMap.entries (cutLeaves_entries h).1), ?_⟩
  cases h with
  | queue rest _ hqueue => simp [State.cutOwners, hqueue]
  | flight hc h =>
    have hcut : _ = s.cut := h.lineOnly.cut
    simp only [State.cutOwners, State.setCut_cut, hcut, hc, Option.toList_none, Option.toList_some, List.append_nil,
      List.map_append, List.map_singleton]
    exact (List.perm_append_singleton c.owner (s.cut.xcut.map (fun c => c.owner))).symm

theorem clearsFlight_owners {l : LinkId} {s u v : State} (h : LineMoves (dropOp l s) u) (hv : ClearsFlight l u v) :
    v.cutViews = s.cutViews ∧ v.cutOwners = s.cutOwners := by
  have hmap : v.map = s.map := (clearsFlight_entries hv).1.trans h.lineOnly.map
  refine ⟨cutViews_of_entries (congrArg PanelMap.entries hmap), ?_⟩
  have hcut : u.cut = s.cut := h.lineOnly.cut
  cases l with
  | feed =>
    obtain rfl : v = u := hv
    exact cutOwners_of_cut hcut
  | lam =>
    obtain ⟨x, -, -, -, rfl⟩ := hv
    exact cutOwners_of_cut hcut
  | slit =>
    obtain ⟨x, -, hxcut, hflight, -, rfl⟩ := hv
    rw [State.cutOwners, State.setCut_cut, hxcut, hflight, hcut, State.cutOwners]
  | xcut =>
    obtain ⟨-, rfl⟩ := hv
    exact cutOwners_of_cut hcut

theorem insertCut_owners (c : CutEntry) (s : State) : (insertCut c s).cutOwners.Perm (c.owner :: s.cutOwners) := by
  have howners : (insertCut c s).cutOwners =
      (insertAfter (fun x => x.position) c s.cut.xcut ++ s.cut.cutFlight.toList).map (fun c => c.owner) := rfl
  rw [howners, State.cutOwners, ← List.map_cons (f := fun c : CutEntry => c.owner)]
  exact ((insertAfter_perm _ c s.cut.xcut).append_right _).map _

theorem PartMove.ownersCounted {s t : State} (h : PartMove s t) (hnames : NamesApart s.map) (hflights : FlightsAgree s)
    (hs : OwnersCounted s.cutViews s.cutOwners) : OwnersCounted t.cutViews t.cutOwners := by
  have hsame {u : State} (hentries : u.map.entries = s.map.entries) (hcut : u.cut = s.cut) :
      OwnersCounted u.cutViews u.cutOwners := hs.of_eq (cutViews_of_entries hentries) (cutOwners_of_cut hcut)
  cases h with
  | inner h => exact h.keepsCourses.ownersCounted hs
  | ended l h hv =>
    obtain ⟨hviews, howners⟩ := clearsFlight_owners h hv
    exact hs.of_eq hviews howners
  | cutIssued c rest ws _ hqueue _ hop =>
    have hflight : s.cut.cutFlight = none := by
      obtain ⟨-, -, -, hxcut⟩ := hflights
      simpa [hop] using hxcut
    refine hs.perm ?_
    simp only [State.cutOwners, State.setCut_cut, hqueue, hflight, Option.toList_none, Option.toList_some, List.append_nil]
    exact (List.perm_append_singleton c rest).map _
  | cutResolved c made hu hv =>
    obtain ⟨hviews, howners⟩ := cutLeaves_owners hu
    have hk := hv.keepsCourses
    rw [← hviews, ← hk.cutViews] at hs
    rw [← hk.cutOwners] at howners
    rw [cutViews_modifyEntry c.owner (MapEntry.cutDone made) (fun v => { v with pending := v.pending - 1 }) (fun _ => rfl)]
    exact (hs.perm howners).resolve
  | cutQueued c _ hroom howner =>
    obtain ⟨e, he, hphase⟩ := howner
    have hadd := hs.add c.owner ⟨e.cutView, List.mem_map_of_mem (List.mem_of_find?_eq_some he), entry_named he, .inl hphase⟩
    refine OwnersCounted.perm ?_ (insertCut_owners c s)
    exact (cutViews_modifyEntry c.owner (fun e => { e with cutsPending := e.cutsPending + 1 })
      (fun v => { v with pending := v.pending + 1 }) (fun _ => rfl)
      (s.setCut { s.cut with xcut := insertAfter (fun x => x.position) c s.cut.xcut })).symm ▸ hadd
  | slitQueued x => exact hs
  | printLine x _ hphase =>
    refine printLineCrossing_ownersCounted hs (not_owner_of_phase hnames hs fun e he => ?_)
    simp [CutView.mayOwn, MapEntry.cutView, Course.cutView, MapEntry.course, hphase e he]
  | commit x =>
    rw [cutViews_modifyEntry x _ (fun v => { v with phase := .committed }) (fun _ => rfl)]
    exact hs.changePhase x .committed (.inl rfl)
  | knife x =>
    rw [cutViews_modifyEntry x _ (fun v => { v with phase := .atKnife }) (fun _ => rfl)]
    exact hs.changePhase x .atKnife (.inr (.inl rfl))
  | lock lock run => exact hsame (by simp) (by simp)
  | retire x e he hcuts hu =>
    have hx := entry_named he
    subst hx
    have hnone := not_owner_of_pending hs (List.mem_of_find?_eq_some he) hcuts
    have hdropped : OwnersCounted (s.dropEntry e.target).cutViews (s.dropEntry e.target).cutOwners := by
      rw [dropEntry_cutViews]
      exact hs.remove hnone
    exact evalMapLevels_ownersCounted ((hu.keepsCourses.ownersCounted hdropped).of_eq
      (cutViews_of_entries (by simp)) (cutOwners_of_cut (by simp)))
  | withdraw e he hphase hu =>
    have hnone : e.target ∉ s.cutOwners := not_owner_of_phase hnames hs fun x hx => by
      obtain rfl := Option.some.inj (he.symm.trans hx)
      simp [CutView.mayOwn, MapEntry.cutView, Course.cutView, MapEntry.course, hphase]
    have hdropped : OwnersCounted (s.dropEntry e.target).cutViews (s.dropEntry e.target).cutOwners := by
      rw [dropEntry_cutViews]
      exact hs.remove hnone
    refine evalMapLevels_ownersCounted (hu.keepsCourses.ownersCounted (hdropped.of_eq (cutViews_of_entries ?_) rfl))
    rw [State.setMap_map, recomputeLast]
    split <;> rfl
  | announce e he hu hv =>
    have hnone : e.target ∉ s.cutOwners := by
      intro ho
      obtain ⟨v, hv, hvt, -⟩ := hs.2 _ ho
      obtain ⟨x, hx, rfl⟩ := List.mem_map.1 hv
      exact (freeSlot_free _ he.room).2 x hx ((congrArg Target.slot hvt).trans he.slot)
    have hadded : OwnersCounted (s.cutViews ++ [e.cutView]) s.cutOwners := hs.append e.cutView he.cuts hnone
    rw [show s.cutViews ++ [e.cutView] = ((s.setMap { s.map with
      entries := s.map.entries ++ [e], lastTail := e.tail, lastClass := e.cls }).addRef e.plan).cutViews by
        simp [State.cutViews, State.addRef, State.modifyPlan]] at hadded
    have hk := hu.keepsCourses
    have hu' := hk.ownersCounted hadded
    refine evalMapLevels_ownersCounted (hv.keepsCourses.ownersCounted (startTracking_ownersCounted hu' ?_))
    rw [hk.cutOwners]
    exact hnone
  | thresholds high low => exact evalMapLevels_ownersCounted (s := s.setMap _) hs
  | steers h => exact hsame (by rw [h.frame]) (by rw [h.frame])
  | lineReset =>
    have hfilm := (evalFilm_inner (passLevels (resetBlocks s))).keepsCourses
    have hblocks : (passLevels (resetBlocks s)).map = PanelMap.reset ∧ (passLevels (resetBlocks s)).cut = CutControl.reset := by
      simp [passLevels, allLinks, resetBlocks]
    have hcleared : OwnersCounted (passLevels (resetBlocks s)).cutViews (passLevels (resetBlocks s)).cutOwners := by
      rw [State.cutViews, State.cutOwners, hblocks.1, hblocks.2]
      simp [OwnersCounted, PanelMap.reset, CutControl.reset]
    exact hfilm.ownersCounted hcleared
  | hardwareReset =>
    simp [OwnersCounted, State.cutViews, State.cutOwners, Machine.hardwareReset, State.reset, PanelMap.reset, CutControl.reset]
  | _ => exact hs

/-- Settles O59: the cut entries that name a panel and its count change together, and an entry leaves the map, or goes on to a
phase that owns no cuts, only when no cut entry names it. -/
theorem pendingCutsAreCounted : Obligations.PendingCutsAreCounted := by
  refine Kept.of_moves (inv := CutsCounted) (fun _ _ h => h) fun h hs => ?_
  rw [cutsCounted_iff] at hs ⊢
  obtain ⟨hnames, hflights, howners⟩ := hs
  refine ⟨h.mapChange.namesApart hnames, ?_⟩
  cases h with
  | move h => exact ⟨h.flights hflights, h.ownersCounted hnames hflights howners⟩
  | odometer => exact ⟨hflights, howners⟩
  | window x f _ hf =>
    refine ⟨hflights, howners.of_eq ?_ rfl⟩
    have hview : ∀ e, (f e).cutView = id e.cutView := fun e => by
      rw [MapEntry.cutView, hf e]
      rfl
    rw [cutViews_modifyEntry x f id hview]
    simp

end Sys2Proof.Machine
end

section
/-! The windows (the second half of O55): each stands about its entry's mark, a window that the web meets waits among what is due, and
an encoder step and a mark take all that is due, in web order. -/

namespace Sys2Proof.Machine

/-! ### The order in which what is due is taken -/

theorem mem_allOwners (o : Owner) : o ∈ allOwners := by
  cases o <;> simp [allOwners]

/-- An owner takes its next item as long as an item is due. -/
theorem nextOwner_of_due {due : List Due} (h : due ≠ []) (tick : Nat) :
    ∃ o, nextOwner due tick = some o ∧ ∃ d ∈ due, d.owner = o := by
  obtain ⟨d, hd⟩ := List.exists_mem_of_ne_nil due h
  have hmem (o : Owner) (ho : o ∈ allOwners.filter (fun o => due.any (fun d => d.owner == o))) : ∃ d ∈ due, d.owner = o := by
    simpa using (List.mem_filter.1 ho).2
  have hwaits : d.owner ∈ allOwners.filter (fun o => due.any (fun d => d.owner == o)) :=
    List.mem_filter.2 ⟨mem_allOwners _, List.any_eq_true.2 ⟨d, hd, by simp⟩⟩
  unfold nextOwner
  dsimp only
  split
  · next hnil =>
    rw [hnil] at hwaits
    cases hwaits
  · next o hone => exact ⟨o, rfl, hmem o (by rw [hone]; simp)⟩
  · have hpos := List.length_pos_of_mem hwaits
    have hlt := Nat.mod_lt (Config.raceChoice tick) hpos
    exact ⟨_, List.getElem?_eq_getElem hlt, hmem _ (List.getElem_mem hlt)⟩

/-- One item taken after another, each with a move of the counter of free values. -/
def takeInTurn (order : List Due) (s : State) : State :=
  order.foldl (fun u d => takeDue d (u.setFreeTick (u.freeTick + 1))) s

/-- All that is due is taken, each owner's items in their order (R9, R10). -/
theorem drain_takes (fuel : Nat) (due : List Due) (s : State) (h : due.length ≤ fuel) :
    ∃ order : List Due, (∀ o : Owner, order.filter (fun d => d.owner = o) = due.filter (fun d => d.owner = o)) ∧
      drain fuel due s = takeInTurn order s := by
  induction fuel generalizing due s with
  | zero =>
    obtain rfl := List.length_eq_zero_iff.1 (Nat.le_zero.1 h)
    exact ⟨[], fun _ => rfl, rfl⟩
  | succ fuel ih =>
    by_cases hnil : due = []
    · subst hnil
      exact ⟨[], fun _ => rfl, rfl⟩
    obtain ⟨o, ho, x, hx, hxo⟩ := nextOwner_of_due hnil s.freeTick
    have hsome : (due.find? (fun d => d.owner == o)).isSome := List.find?_isSome.2 ⟨x, hx, by simp [hxo]⟩
    obtain ⟨d, hd⟩ := Option.isSome_iff_exists.1 hsome
    obtain ⟨hdo, as, bs, heq, has⟩ := List.find?_eq_some_iff_append.1 hd
    simp only [beq_iff_eq, Bool.not_eq_true', beq_eq_false_iff_ne] at hdo has
    have herase : due.eraseP (fun d => d.owner == o) = as ++ bs := by
      rw [heq, List.eraseP_append_right _ (fun a ha => by simpa using has a ha), List.eraseP_cons_of_pos (by simp [hdo])]
    obtain ⟨order, hfilter, hdrain⟩ := ih (due.eraseP (fun d => d.owner == o)) (takeDue d (s.setFreeTick (s.freeTick + 1))) (by
      rw [herase]
      rw [heq] at h
      simp only [List.length_append, List.length_cons] at h ⊢
      omega)
    refine ⟨d :: order, fun q => ?_, ?_⟩
    · rw [List.filter_cons, hfilter, herase, heq, List.filter_append, List.filter_append, List.filter_cons]
      by_cases hq : d.owner = q
      · have hnone : as.filter (fun d => decide (d.owner = q)) = [] :=
          List.filter_eq_nil_iff.2 fun a ha => by simpa [← hq, hdo] using has a ha
        simp [hq, hnone]
      · simp [hq]
    · rw [drain, ho]
      dsimp only
      rw [hd]
      exact hdrain

/-! ### Where the windows stand -/

/-- What the windows' places turn on: an entry's name, its place and its window. -/
structure Stand where
  target : Target
  head : Nat
  length : Nat
  window : Option Window

def Course.stand (c : Course) : Stand := { target := c.target, head := c.head, length := c.length, window := c.window }

abbrev State.stands (s : State) : List Stand := s.seen Course.stand

abbrev Stand.Opened (x : Stand) : Prop := ∃ w ∈ x.window, w.status = .opened

/-- The web has not passed the crossing a window waits for. -/
def Window.Within (o : Nat) (w : Window) : Prop :=
  (w.status = .notOpen → o + w.halfWidth ≤ w.expected) ∧
    (w.status = .opened → w.expected ≤ o + w.halfWidth ∧ o ≤ w.expected + w.halfWidth)

/-- The web stands at the crossing a window waits for. -/
def Window.Meets (o : Nat) (w : Window) (p : Point) : Prop :=
  (p = .windowOpen ∧ w.status = .notOpen ∧ o + w.halfWidth = w.expected) ∨
    (p = .windowClose ∧ w.status = .opened ∧ o = w.expected + w.halfWidth)

def Stand.Meets (o : Nat) (x : Stand) (d : Due) : Prop := ∃ p, d = .point x.target p ∧ ∃ w ∈ x.window, w.Meets o p

theorem windowTimely_iff (s : State) (w : Window) :
    WindowTimely s w ↔ w.Within s.tracker.odometer ∧ ∀ p, w.Meets s.tracker.odometer p → s.pending.head? = some .mark := by
  unfold WindowTimely Window.Within Window.Meets
  by_cases hmark : s.pending.head? = some .mark
  · simp only [hmark, true_and, implies_true, and_true]
    cases w.status <;> simp <;> omega
  · simp only [hmark, false_and, or_false, imp_false]
    cases w.status <;> simp <;> omega

/-- The windows in their places, the crossings of the present odometer value taken or not. -/
structure State.Placed (s : State) : Prop where
  order : MapInOrder s
  mark : 200 ≤ s.tracker.zones.mark
  halfWidth : 5 ≤ s.reg.halfWidth ∧ s.reg.halfWidth ≤ 100
  place : ∀ x ∈ s.stands, 200 ≤ x.length ∧ ∀ w ∈ x.window, w.expected = x.head + s.tracker.zones.mark ∧
    5 ≤ w.halfWidth ∧ w.halfWidth ≤ 100 ∧ w.Within s.tracker.odometer
  one : ∀ x ∈ s.stands, ∀ y ∈ s.stands, x.Opened → y.Opened → x.target = y.target

/-- The windows in their places, those that the web meets waiting among what is due, in web order. -/
structure State.Awaits (due : List Due) (s : State) : Prop extends s.Placed where
  left : ∀ x ∈ s.stands, ∀ d, x.Meets s.tracker.odometer d → d ∈ due
  turn : due.Pairwise (fun c d => ∀ x ∈ s.stands, ∀ y ∈ s.stands, x.Meets s.tracker.odometer c → y.Meets s.tracker.odometer d →
    x.head ≤ y.head)

theorem mem_stands {s : State} {x : Stand} : x ∈ s.stands ↔ ∃ e ∈ s.map.entries, e.course.stand = x := List.mem_map

theorem stand_eq_of_target {s : State} (hnames : NamesApart s.map) {x y : Stand} (hx : x ∈ s.stands) (hy : y ∈ s.stands)
    (h : x.target = y.target) : x = y := by
  obtain ⟨a, ha, rfl⟩ := mem_stands.1 hx
  obtain ⟨b, hb, rfl⟩ := mem_stands.1 hy
  obtain ⟨-, hslots, -⟩ := hnames
  rw [List.inj_on_of_nodup_map hslots ha hb (congrArg Target.slot h)]

/-- Two entries' places: one lies before the other on the web. -/
theorem stands_apart {s : State} (h : InWebOrder s.map) {x y : Stand} (hx : x ∈ s.stands) (hy : y ∈ s.stands) (hne : x ≠ y) :
    x.head + x.length ≤ y.head ∨ y.head + y.length ≤ x.head := by
  have hpairs : s.stands.Pairwise (fun a b => a.head + a.length ≤ b.head ∨ b.head + b.length ≤ a.head) :=
    List.pairwise_map.2 (h.1.imp fun hab => .inl hab)
  have : Std.Symm (fun a b : Stand => a.head + a.length ≤ b.head ∨ b.head + b.length ≤ a.head) := ⟨fun _ _ h => h.symm⟩
  exact hpairs.forall hx hy hne

/-! ### What the moves leave of the windows -/

/-- What a move leaves of the web: the queue, the odometer and the zones, unless the map is left empty, and the range of the
half-width. -/
structure State.WebKept (s t : State) : Prop where
  pending : t.pending = s.pending
  web : (t.tracker.odometer = s.tracker.odometer ∧ t.tracker.zones = s.tracker.zones) ∨
    (t.map.entries = [] ∧ (200 ≤ s.tracker.zones.mark → 200 ≤ t.tracker.zones.mark))
  halfWidth : 5 ≤ s.reg.halfWidth ∧ s.reg.halfWidth ≤ 100 → 5 ≤ t.reg.halfWidth ∧ t.reg.halfWidth ≤ 100

theorem State.WebKept.of_same {s t : State} (hpending : t.pending = s.pending)
    (hodometer : t.tracker.odometer = s.tracker.odometer) (hzones : t.tracker.zones = s.tracker.zones)
    (hreg : t.reg.halfWidth = s.reg.halfWidth) : s.WebKept t := ⟨hpending, .inl ⟨hodometer, hzones⟩, by rw [hreg]; exact id⟩

theorem State.KeepsCourses.webKept {s t : State} (h : s.KeepsCourses t) : s.WebKept t :=
  .of_same h.pending (by rw [h.tracker]) (by rw [h.tracker]) (by rw [h.reg])

theorem State.WebKept.before {s t u : State} (h : t.WebKept u) (hpending : t.pending = s.pending)
    (hodometer : t.tracker.odometer = s.tracker.odometer) (hzones : t.tracker.zones = s.tracker.zones)
    (hreg : t.reg.halfWidth = s.reg.halfWidth) : s.WebKept u := by
  obtain ⟨h1, h2, h3⟩ := h
  rw [hpending] at h1
  rw [hodometer, hzones] at h2
  rw [hreg] at h3
  exact ⟨h1, h2, h3⟩

theorem startTracking_web (e : MapEntry) (s : State) : (startTracking e s).pending = s.pending ∧
    (startTracking e s).tracker.odometer = s.tracker.odometer ∧ (startTracking e s).tracker.zones = s.tracker.zones ∧
    (startTracking e s).reg = s.reg := by
  obtain ⟨pulse, hpulse⟩ := syncCrossings_tracker [e] s
  unfold startTracking
  dsimp only
  rw [hpulse]
  split
  · simp [printLineCrossing]
  · exact ⟨rfl, rfl, rfl, rfl⟩

theorem PartMove.webKept {s t : State} (h : PartMove s t) : s.WebKept t := by
  cases h with
  | inner h => exact h.keepsCourses.webKept
  | ended l h hv =>
    obtain ⟨-, -, htracker, hreg, hpending⟩ := clearsFlight_entries hv
    have hline := h.lineOnly
    exact .of_same (hpending.trans hline.pending) (by rw [htracker, hline.tracker]; rfl) (by rw [htracker, hline.tracker]; rfl)
      (by rw [hreg, hline.reg]; rfl)
  | cutResolved c made hu hv =>
    obtain ⟨-, -, htracker, hreg, hpending⟩ := cutLeaves_entries hu
    have hk := hv.keepsCourses.webKept.before hpending (by rw [htracker]) (by rw [htracker]) (by rw [hreg])
    obtain ⟨h1, h2, h3⟩ := hk
    refine ⟨h1, h2.imp_right fun h => ⟨?_, h.2⟩, h3⟩
    rw [State.modifyEntry_entries, h.1]
    rfl
  | printLine t =>
    exact .of_same (by simp [printLineCrossing]) (by simp [printLineCrossing]) (by simp [printLineCrossing])
      (by simp [printLineCrossing])
  | lock lock run => exact .of_same (by simp) (by simp) (by simp) (by simp [setLock])
  | retire x e he hcuts hu =>
    have hk := hu.keepsCourses
    exact .of_same (by simp [hk.pending]) (by simp [hk.tracker]) (by simp [hk.tracker]) (by simp [hk.reg])
  | withdraw e he hphase hu =>
    have hk := hu.keepsCourses
    exact .of_same (by simp [hk.pending]) (by simp [hk.tracker]) (by simp [hk.tracker]) (by simp [hk.reg])
  | announce e he hu hv =>
    have hk := hu.keepsCourses
    have hk' := hv.keepsCourses
    have hstart := startTracking_web e
    exact .of_same (by simp [hk'.pending, hstart, hk.pending]) (by simp [hk'.tracker, hstart, hk.tracker])
      (by simp [hk'.tracker, hstart, hk.tracker]) (by simp [hk'.reg, hstart, hk.reg])
  | thresholds high low => exact .of_same (by simp) (by simp) (by simp) (by simp)
  | tracker x _ hodometer hzones => exact .of_same rfl hodometer hzones rfl
  | zones z _ hempty hmark => exact ⟨rfl, .inr ⟨hempty, fun _ => hmark⟩, id⟩
  | registration w n _ hw => exact ⟨rfl, .inl ⟨rfl, rfl⟩, fun _ => hw⟩
  | steers h =>
    rw [h.frame]
    exact .of_same rfl rfl rfl rfl
  | lineReset =>
    refine ⟨?_, .inr ⟨(lineReset_map s).1, fun h => ?_⟩, fun _ => ?_⟩ <;>
      simp [Machine.lineReset, passLevels, allLinks, resetBlocks, Tracker.lineReset, Registration.reset, *]
  | hardwareReset =>
    have hreset : 200 ≤ State.reset.tracker.zones.mark ∧ 5 ≤ State.reset.reg.halfWidth ∧ State.reset.reg.halfWidth ≤ 100 := by
      decide
    exact ⟨rfl, .inr ⟨rfl, fun _ => hreset.1⟩, fun _ => hreset.2⟩
  | _ => exact .of_same rfl rfl rfl rfl

/-- A window the web has yet to come to: that of an entry announced now. -/
def State.Ahead (s : State) (x : Stand) : Prop :=
  200 ≤ x.length ∧ ∀ w ∈ x.window, w.expected = x.head + s.tracker.zones.mark ∧ 5 ≤ w.halfWidth ∧ w.halfWidth ≤ 100 ∧
    w.status = .notOpen ∧ s.tracker.odometer + w.halfWidth < w.expected

theorem State.Ahead.not_opened {s : State} {x : Stand} (h : s.Ahead x) : ¬x.Opened := by
  rintro ⟨w, hw, hopened⟩
  obtain ⟨-, -, -, hnotOpen, -⟩ := h.2 w hw
  rw [hnotOpen] at hopened
  cases hopened

theorem State.Ahead.not_meets {s : State} {x : Stand} (h : s.Ahead x) (d : Due) : ¬x.Meets s.tracker.odometer d := by
  rintro ⟨p, -, w, hw, hmeets⟩
  obtain ⟨-, -, -, hnotOpen, hahead⟩ := h.2 w hw
  rcases hmeets with ⟨-, -, hopen⟩ | ⟨-, hopened, -⟩
  · omega
  · rw [hnotOpen] at hopened
    cases hopened

theorem Announced.ahead {e : MapEntry} {s : State} (h : Announced e s) (hs : s.Placed) : s.Ahead e.course.stand := by
  refine ⟨h.length, fun w hw => ?_⟩
  obtain rfl := h.window w hw
  have hhead : s.tracker.odometer ≤ e.head := h.head.2
  have hmark := hs.mark
  obtain ⟨hlow, hhigh⟩ := hs.halfWidth
  refine ⟨rfl, hlow, hhigh, rfl, ?_⟩
  dsimp only
  omega

/-- Every entry after a move stood there before it, or has been announced by it. -/
theorem PartMove.stands {s t : State} (h : PartMove s t) (hs : s.Placed) : ∀ x ∈ t.stands, x ∈ s.stands ∨ s.Ahead x := by
  intro x hx
  cases h.mapChange (view := Course.stand) (fun _ _ _ => rfl) with
  | same hseen => exact .inl (by rwa [State.stands, hseen] at hx)
  | plans hmap => exact .inl (by rwa [State.stands, seen_of_entries (congrArg PanelMap.entries hmap)] at hx)
  | removed e _ hseen =>
    rw [State.stands, hseen] at hx
    exact .inl (List.map_subset _ List.eraseP_subset hx)
  | added e he hseen =>
    rw [State.stands, hseen] at hx
    rcases List.mem_append.1 hx with hx | hx
    · exact .inl hx
    · rw [List.mem_singleton.1 hx]
      exact .inr (he.ahead hs)
  | cleared hseen =>
    rw [State.stands, hseen] at hx
    cases hx

theorem PartMove.awaits {s t : State} {due : List Due} (h : PartMove s t) (hs : s.Awaits due) : t.Awaits due := by
  have hchange := (WebMove.move h).mapChange
  obtain ⟨-, hweb, hhalf⟩ := h.webKept
  have hmapOrder : MapInOrder t := ⟨hchange.namesApart hs.order.1, hchange.inWebOrder hs.order.2⟩
  rcases hweb with ⟨hodometer, hzones⟩ | ⟨hempty, hmark⟩
  · have hstands := h.stands hs.toPlaced
    have hmeets {x : Stand} {d : Due} (hx : x ∈ t.stands) (hd : x.Meets t.tracker.odometer d) :
        x ∈ s.stands ∧ x.Meets s.tracker.odometer d := by
      rw [hodometer] at hd
      exact ⟨(hstands x hx).resolve_right fun ha => ha.not_meets d hd, hd⟩
    refine ⟨⟨hmapOrder, by rw [hzones]; exact hs.mark, hhalf hs.halfWidth, fun x hx => ?_, fun x hx y hy hxo hyo => ?_⟩,
      fun x hx d hd => ?_, hs.turn.imp fun {c d} hcd x hx y hy hxc hyd => ?_⟩
    · rw [hodometer, hzones]
      rcases hstands x hx with hx | ha
      · exact hs.place x hx
      · refine ⟨ha.1, fun w hw => ?_⟩
        obtain ⟨h1, h2, h3, h4, h5⟩ := ha.2 w hw
        exact ⟨h1, h2, h3, fun _ => h5.le, fun h => by rw [h4] at h; cases h⟩
    · exact hs.one x ((hstands x hx).resolve_right fun ha => ha.not_opened hxo) y
        ((hstands y hy).resolve_right fun ha => ha.not_opened hyo) hxo hyo
    · obtain ⟨hx, hd⟩ := hmeets hx hd
      exact hs.left x hx d hd
    · obtain ⟨hx, hxc⟩ := hmeets hx hxc
      obtain ⟨hy, hyd⟩ := hmeets hy hyd
      exact hcd x hx y hy hxc hyd
  · have hnil : t.stands = [] := by rw [State.stands, State.seen, hempty, List.map_nil]
    refine ⟨⟨hmapOrder, hmark hs.mark, hhalf hs.halfWidth, ?_, ?_⟩, ?_, hs.turn.imp fun _ => ?_⟩ <;> simp [hnil]

theorem PartMoves.awaits {s t : State} {due : List Due} (h : PartMoves s t) (hs : s.Awaits due) : t.Awaits due := by
  induction h with
  | refl => exact hs
  | tail _ hmove ih => exact hmove.awaits ih

/-! ### The window crossings -/

def Stand.withStatus (st : WindowStatus) (x : Stand) : Stand :=
  { x with window := x.window.map (fun w => { w with status := st }) }

/-- The stands after the windows of one name have taken a status. -/
theorem mem_stands_modifyEntry {t : Target} {f : MapEntry → MapEntry} {st : WindowStatus}
    (hf : ∀ e, (f e).course.stand = e.course.stand.withStatus st) {s : State} {y : Stand} :
    y ∈ (s.modifyEntry t f).stands ↔ ∃ x ∈ s.stands, y = if x.target = t then x.withStatus st else x := by
  have hstands : (s.modifyEntry t f).stands = s.stands.map (fun x => if x.target = t then x.withStatus st else x) := by
    simp only [State.stands, State.seen, State.modifyEntry_entries, updateEntry, List.map_map]
    refine List.map_congr_left fun e _ => ?_
    simp only [Function.comp_apply, named_iff_target]
    by_cases h : e.target = t
    · rw [if_pos h, if_pos (show e.course.stand.target = t from h), hf]
    · rw [if_neg h, if_neg (show ¬e.course.stand.target = t from h)]
  rw [hstands, List.mem_map]
  exact exists_congr fun x => and_congr_right fun _ => eq_comm

theorem mem_withStatus {st : WindowStatus} {x : Stand} {w : Window} :
    w ∈ (x.withStatus st).window ↔ ∃ v ∈ x.window, w = { v with status := st } := by
  rw [Stand.withStatus, Option.mem_map]
  exact exists_congr fun v => and_congr_right fun _ => eq_comm

theorem not_meets_resolved (o : Nat) (x : Stand) (d : Due) : ¬(x.withStatus .resolved).Meets o d := by
  rintro ⟨p, -, w, hw, hmeets⟩
  obtain ⟨v, -, rfl⟩ := mem_withStatus.1 hw
  rcases hmeets with ⟨-, h, -⟩ | ⟨-, h, -⟩ <;> cases h

theorem not_opened_resolved (x : Stand) : ¬(x.withStatus .resolved).Opened := by
  rintro ⟨w, hw, hopened⟩
  obtain ⟨v, -, rfl⟩ := mem_withStatus.1 hw
  cases hopened

theorem modifyEntry_mapInOrder {t : Target} {f : MapEntry → MapEntry} (hf : MapEntry.WindowOnly f) {s : State}
    (h : MapInOrder s) : MapInOrder (s.modifyEntry t f) := by
  have hchange := (WebMove.window t f s hf).mapChange
  exact ⟨hchange.namesApart h.1, hchange.inWebOrder h.2⟩

/-- Windows resolved: nothing is left to be taken of them. -/
theorem State.Awaits.resolve {s : State} {due : List Due} (hs : s.Awaits due) (t : Target) (r : RegResult) (n : Int) :
    (s.modifyEntry t (MapEntry.resolve r n)).Awaits due := by
  have hmem {y : Stand} := mem_stands_modifyEntry (t := t) (f := MapEntry.resolve r n) (st := .resolved) (fun _ => rfl)
    (s := s) (y := y)
  have hmeets {y : Stand} {d : Due} (hy : y ∈ (s.modifyEntry t (MapEntry.resolve r n)).stands)
      (hd : y.Meets s.tracker.odometer d) : y ∈ s.stands := by
    obtain ⟨x, hx, rfl⟩ := hmem.1 hy
    split at hd
    · exact absurd hd (not_meets_resolved _ x d)
    · next hne => rwa [if_neg hne]
  have hopened {y : Stand} (hy : y ∈ (s.modifyEntry t (MapEntry.resolve r n)).stands) (ho : y.Opened) : y ∈ s.stands := by
    obtain ⟨x, hx, rfl⟩ := hmem.1 hy
    split at ho
    · exact absurd ho (not_opened_resolved x)
    · next hne => rwa [if_neg hne]
  refine ⟨⟨modifyEntry_mapInOrder (f := MapEntry.resolve r n) (fun _ => rfl) hs.order, hs.mark, hs.halfWidth, fun y hy => ?_,
    fun x hx y hy hxo hyo => hs.one x (hopened hx hxo) y (hopened hy hyo) hxo hyo⟩,
    fun x hx d hd => hs.left x (hmeets hx hd) d hd,
    hs.turn.imp fun {c d} hcd x hx y hy hxc hyd => hcd x (hmeets hx hxc) y (hmeets hy hyd) hxc hyd⟩
  obtain ⟨x, hx, rfl⟩ := hmem.1 hy
  obtain ⟨hlength, hwindow⟩ := hs.place x hx
  split
  · refine ⟨hlength, fun w hw => ?_⟩
    obtain ⟨v, hv, rfl⟩ := mem_withStatus.1 hw
    obtain ⟨hexpected, hlow, hhigh, -⟩ := hwindow v hv
    exact ⟨hexpected, hlow, hhigh, by rintro ⟨⟩, by rintro ⟨⟩⟩
  · exact ⟨hlength, hwindow⟩

/-- The window whose opening is next in turn opens; no other is open then, for those before it on the web have closed. -/
theorem State.Awaits.open {s : State} {due : List Due} {x : Stand} (hs : s.Awaits (.point x.target .windowOpen :: due))
    (hx : x ∈ s.stands) (hmeets : x.Meets s.tracker.odometer (.point x.target .windowOpen)) :
    (s.modifyEntry x.target (MapEntry.setWindow .opened)).Awaits (.point x.target .windowOpen :: due) := by
  have hmem {y : Stand} := mem_stands_modifyEntry (t := x.target) (f := MapEntry.setWindow .opened) (st := .opened)
    (fun _ => rfl) (s := s) (y := y)
  obtain ⟨p, hp, w, hw, hwmeets⟩ := hmeets
  obtain ⟨-, rfl⟩ := Due.point.inj hp
  obtain ⟨hnotOpen, hreached⟩ : w.status = .notOpen ∧ s.tracker.odometer + w.halfWidth = w.expected := by
    simpa [Window.Meets] using hwmeets
  obtain ⟨-, hwindow⟩ := hs.place x hx
  obtain ⟨hexpected, hlow, hhigh, -⟩ := hwindow w hw
  have hself {z : Stand} (hz : z ∈ s.stands) (ht : z.target = x.target) : z = x :=
    stand_eq_of_target hs.order.1 hz hx ht
  have hchanged {v : Window} (hv : v ∈ (x.withStatus .opened).window) : v = { w with status := .opened } := by
    obtain ⟨u, hu, rfl⟩ := mem_withStatus.1 hv
    rw [Option.mem_unique hu hw]
  have hothers {z : Stand} (hz : z ∈ s.stands) (hopened : z.Opened) : z.target = x.target := by
    by_contra hne
    obtain ⟨v, hv, hvopened⟩ := hopened
    obtain ⟨hzlength, hzwindow⟩ := hs.place z hz
    obtain ⟨hvexpected, -, hvhigh, hvwithin⟩ := hzwindow v hv
    obtain ⟨hpast, hbefore⟩ := hvwithin.2 hvopened
    have hxlength := (hs.place x hx).1
    rcases stands_apart hs.order.2 hz hx (fun h => hne (by rw [h])) with hord | hord
    · have hclose : z.Meets s.tracker.odometer (.point z.target .windowClose) :=
        ⟨_, rfl, v, hv, .inr ⟨rfl, hvopened, by omega⟩⟩
      rcases List.mem_cons.1 (hs.left z hz _ hclose) with h | h
      · cases (Due.point.inj h).2
      · have hturn := (List.pairwise_cons.1 hs.turn).1 _ h x hx z hz ⟨_, rfl, w, hw, .inl ⟨rfl, hnotOpen, hreached⟩⟩ hclose
        omega
    · omega
  have hmeets {y : Stand} {d : Due} (hy : y ∈ (s.modifyEntry x.target (MapEntry.setWindow .opened)).stands)
      (hd : y.Meets s.tracker.odometer d) : y ∈ s.stands := by
    obtain ⟨z, hz, rfl⟩ := hmem.1 hy
    split at hd
    · next ht =>
      obtain rfl := hself hz ht
      obtain ⟨p, -, v, hv, hvmeets⟩ := hd
      obtain rfl := hchanged hv
      rcases hvmeets with ⟨-, h, -⟩ | ⟨-, -, h⟩
      · cases h
      · dsimp only at h
        omega
    · next hne => rwa [if_neg hne]
  have hopened {y : Stand} (hy : y ∈ (s.modifyEntry x.target (MapEntry.setWindow .opened)).stands) (ho : y.Opened) :
      y.target = x.target := by
    obtain ⟨z, hz, rfl⟩ := hmem.1 hy
    split at ho
    · next ht =>
      rw [if_pos ht]
      exact ht
    · next hne =>
      rw [if_neg hne]
      exact hothers hz ho
  refine ⟨⟨modifyEntry_mapInOrder (f := MapEntry.setWindow .opened) (fun _ => rfl) hs.order, hs.mark, hs.halfWidth, fun y hy => ?_,
    fun y hy z hz hyo hzo => (hopened hy hyo).trans (hopened hz hzo).symm⟩,
    fun y hy d hd => hs.left y (hmeets hy hd) d hd,
    hs.turn.imp fun {c d} hcd y hy z hz hyc hzd => hcd y (hmeets hy hyc) z (hmeets hz hzd) hyc hzd⟩
  obtain ⟨z, hz, rfl⟩ := hmem.1 hy
  split
  · next ht =>
    obtain rfl := hself hz ht
    refine ⟨(hs.place z hz).1, fun v hv => ?_⟩
    obtain rfl := hchanged hv
    exact ⟨hexpected, hlow, hhigh, by rintro ⟨⟩, fun _ =>
      (by omega : w.expected ≤ s.tracker.odometer + w.halfWidth ∧ s.tracker.odometer ≤ w.expected + w.halfWidth)⟩
  · exact hs.place z hz

/-- An item that the web does not meet has been taken. -/
theorem State.Awaits.done {s : State} {d : Due} {due : List Due} (hs : s.Awaits (d :: due))
    (h : ∀ x ∈ s.stands, ¬x.Meets s.tracker.odometer d) : s.Awaits due := by
  refine ⟨hs.toPlaced, fun x hx c hc => ?_, (List.pairwise_cons.1 hs.turn).2⟩
  refine (List.mem_cons.1 (hs.left x hx c hc)).resolve_left ?_
  rintro rfl
  exact h x hx hc

/-- A window crossing is due where the web meets the window. -/
theorem pointDue_iff_meets {s : State} (hs : s.Placed) (t : Target) (p : Point) (hp : p = .windowOpen ∨ p = .windowClose) :
    s.pointDue t p = true ↔ ∃ x ∈ s.stands, x.Meets s.tracker.odometer (.point t p) := by
  have hcross (e : MapEntry) (he : e ∈ s.map.entries) :
      e.crossing s.tracker.zones p = some s.tracker.odometer ↔ ∃ w ∈ e.window, w.Meets s.tracker.odometer p := by
    have hwithin (w : Window) (hw : w ∈ e.window) : w.Within s.tracker.odometer :=
      ((hs.place e.course.stand (mem_stands.2 ⟨e, he, rfl⟩)).2 w hw).2.2.2
    rcases hp with rfl | rfl <;> cases hw : e.window with
    | none => simp [MapEntry.crossing, hw]
    | some w =>
      have hin := (hwithin w hw).1
      by_cases h1 : w.status = .notOpen <;> by_cases h2 : w.status = .opened <;>
        simp_all [MapEntry.crossing, Window.Meets] <;> omega
  constructor
  · intro hdue
    have hp' : p ≠ .deadline ∧ p ≠ .cutPosition := by rcases hp with rfl | rfl <;> simp
    cases he : s.entry t with
    | none => rcases hp with rfl | rfl <;> simp [State.pointDue, he] at hdue
    | some e =>
      have hmem := List.mem_of_find?_eq_some he
      refine ⟨e.course.stand, mem_stands.2 ⟨e, hmem, rfl⟩, p, ?_, (hcross e hmem).1 (pointDue_crossing hp' hdue e he)⟩
      rw [← entry_named he]
      rfl
  · rintro ⟨x, hx, q, hq, hw⟩
    obtain ⟨e, he, rfl⟩ := mem_stands.1 hx
    obtain ⟨rfl, rfl⟩ := Due.point.inj hq
    have hentry := entry_of_mem hs.order.1 he ((named_iff_target _ e).2 (rfl : e.target = e.course.stand.target))
    have hcrossing := (hcross e he).2 hw
    have hentry' : s.entry e.course.stand.target = some e := hentry
    rcases hp with rfl | rfl <;> simpa [State.pointDue, hentry'] using hcrossing

/-- A window crossing is taken in its turn. -/
theorem takeDue_window {s : State} {d : Due} {due : List Due} (hd : d.owner = .reg) (hs : s.Awaits (d :: due)) :
    (takeDue d s).Awaits due := by
  obtain ⟨t, p, rfl, hp⟩ : ∃ t p, d = .point t p ∧ (p = .windowOpen ∨ p = .windowClose) := by
    cases d with
    | film => cases hd
    | point t p => exact ⟨t, p, rfl, by cases p <;> simp [Due.owner, Point.owner] at hd ⊢⟩
  by_cases hdue : s.pointDue t p = true
  · obtain ⟨x, hx, hmeets⟩ := (pointDue_iff_meets hs.toPlaced t p hp).1 hdue
    obtain ⟨q, hq, -⟩ := id hmeets
    obtain ⟨rfl, rfl⟩ := Due.point.inj hq
    rw [takeDue, if_pos hdue]
    rcases hp with rfl | rfl
    · refine (hs.open hx hmeets).done fun y hy hymeets => ?_
      obtain ⟨z, hz, rfl⟩ := (mem_stands_modifyEntry (f := MapEntry.setWindow .opened) (st := .opened) (fun _ => rfl)).1 hy
      obtain ⟨p, hp, w, hw, hwmeets⟩ := hymeets
      obtain ⟨htarget, rfl⟩ := Due.point.inj hp
      rcases hwmeets with ⟨-, hnotOpen, -⟩ | ⟨h, -⟩
      · split at hw
        · obtain ⟨v, -, rfl⟩ := mem_withStatus.1 hw
          cases hnotOpen
        · next hne =>
          rw [if_neg hne] at htarget
          exact hne htarget.symm
      · cases h
    · have hresolved := (hs.resolve x.target .unread 0).done fun y hy hymeets => by
        obtain ⟨z, hz, rfl⟩ := (mem_stands_modifyEntry (f := MapEntry.resolve .unread 0) (st := .resolved)
          (fun _ => rfl)).1 hy
        split at hymeets
        · exact not_meets_resolved _ z _ hymeets
        · next hne =>
          obtain ⟨p, hp, -⟩ := hymeets
          exact hne (Due.point.inj hp).1.symm
      cases he : s.entry x.target with
      | none => simp [State.pointDue, he] at hdue
      | some e => exact (closeCrossing_after he).awaits hresolved
  · rw [takeDue, if_neg hdue]
    exact hs.done fun x hx hmeets => hdue ((pointDue_iff_meets hs.toPlaced t p hp).2 ⟨x, hx, hmeets⟩)

theorem takeInTurn_awaits {order due : List Due} {s : State}
    (hs : s.Awaits (order.filter (fun d => d.owner = .reg) ++ due)) : (takeInTurn order s).Awaits due := by
  induction order generalizing s with
  | nil => exact hs
  | cons d order ih =>
    refine ih (s := takeDue d (s.setFreeTick (s.freeTick + 1))) ?_
    have htick := (PartMove.tick (s.freeTick + 1) s).awaits hs
    by_cases hd : d.owner = .reg
    · rw [List.filter_cons_of_pos (by simpa using hd)] at htick
      exact takeDue_window hd htick
    · rw [List.filter_cons_of_neg (by simpa using hd)] at htick
      exact (takeDue_part hd _).awaits htick

theorem takeWindows_awaits {taken due : List Due} {s : State} (htaken : ∀ d ∈ taken, d.owner = .reg)
    (hs : s.Awaits (taken ++ due)) : (takeWindows taken s).Awaits due := by
  induction taken generalizing s with
  | nil => exact hs
  | cons d taken ih =>
    exact ih (fun x hx => htaken x (List.mem_cons_of_mem _ hx)) (takeDue_window (htaken d (by simp)) hs)

theorem owner_of_mem_windowsDue {s : State} {d : Due} (h : d ∈ s.windowsDue) : d.owner = .reg := by
  simpa using (List.mem_filter.1 h).2

/-- Every crossing due of an entry carries its name. -/
theorem dueOf_target {s : State} {e : MapEntry} {d : Due} (h : d ∈ s.dueOf e) : ∃ p, d = .point e.target p := by
  simp only [State.dueOf, List.mem_append, List.mem_map] at h
  rcases h with ⟨p, -, rfl⟩ | ⟨c, -, rfl⟩
  · exact ⟨p, rfl⟩
  · exact ⟨.cutPosition, rfl⟩

/-- All the windows that the web meets are among what is due, in web order. -/
theorem State.Placed.awaits {s : State} (hs : s.Placed) : s.Awaits s.windowsDue := by
  refine ⟨hs, fun x hx d hd => ?_, ?_⟩
  · obtain ⟨p, rfl, w, hw, hwmeets⟩ := id hd
    have hp : p = .windowOpen ∨ p = .windowClose := hwmeets.imp (fun h => h.1) (fun h => h.1)
    have hdue := (pointDue_iff_meets hs x.target p hp).2 ⟨x, hx, hd⟩
    obtain ⟨e, he, rfl⟩ := mem_stands.1 hx
    refine List.mem_filter.2 ⟨List.mem_append_right _ (List.mem_flatMap.2 ⟨e, he, List.mem_append_left _ ?_⟩), ?_⟩
    · refine List.mem_map.2 ⟨p, List.mem_filter.2 ⟨?_, hdue⟩, rfl⟩
      rcases hp with rfl | rfl <;> simp [ownerPoints]
    · rcases hp with rfl | rfl <;> rfl
  · refine List.Pairwise.sublist List.filter_sublist (List.pairwise_append.2 ⟨?_, List.pairwise_flatMap.2 ⟨?_, ?_⟩, ?_⟩)
    · split <;> simp
    · intro e he
      refine List.pairwise_iff_forall_sublist.2 fun {c d} hsub x hx y hy hxc hyd => ?_
      obtain ⟨p, rfl⟩ := dueOf_target (hsub.subset (by simp : c ∈ [c, d]))
      obtain ⟨q, rfl⟩ := dueOf_target (hsub.subset (by simp : d ∈ [.point e.target p, d]))
      obtain ⟨_, hxe, -⟩ := hxc
      obtain ⟨_, hye, -⟩ := hyd
      rw [stand_eq_of_target hs.order.1 hx hy ((Due.point.inj hxe).1.symm.trans (Due.point.inj hye).1)]
    · have horder : s.map.entries.Pairwise (fun a b => a ∈ s.map.entries ∧ b ∈ s.map.entries ∧ a.head + a.length ≤ b.head) :=
        List.Pairwise.and_mem.1 hs.order.2.1
      refine horder.imp fun {a b} hab c hc d hd x hx y hy hxc hyd => ?_
      obtain ⟨ha, hb, hab⟩ := hab
      obtain ⟨p, rfl⟩ := dueOf_target hc
      obtain ⟨q, rfl⟩ := dueOf_target hd
      obtain ⟨_, hxa, -⟩ := hxc
      obtain ⟨_, hyb, -⟩ := hyd
      have hxeq := stand_eq_of_target hs.order.1 hx (mem_stands.2 ⟨a, ha, rfl⟩) (Due.point.inj hxa).1.symm
      have hyeq := stand_eq_of_target hs.order.1 hy (mem_stands.2 ⟨b, hb, rfl⟩) (Due.point.inj hyb).1.symm
      rw [hxeq, hyeq]
      exact (Nat.le_add_right _ _).trans hab
    · intro c hc d hd x hx y hy hxc
      split at hc
      · rw [List.mem_singleton.1 hc] at hxc
        obtain ⟨p, hp, -⟩ := hxc
        cases hp
      · cases hc

/-! ### An encoder step and a mark -/

/-- What stands after a command: the windows that the web meets are taken, unless a mark waits in front. -/
def State.InTime (s : State) : Prop := ∃ due, s.Awaits due ∧ (due ≠ [] → s.pending.head? = some .mark)

theorem State.Awaits.inTime {s : State} (hs : s.Awaits []) : s.InTime := ⟨[], hs, absurd rfl⟩

/-- The windows stay in their places as the web moves on by one, once those that it met are taken. -/
theorem State.Awaits.arrive {s : State} (hs : s.Awaits []) (pulse : Timer) :
    (s.setTracker { s.tracker with odometer := s.tracker.odometer + 1, syncPulse := pulse }).Placed := by
  refine ⟨hs.order, hs.mark, hs.halfWidth, fun x hx => ?_, hs.one⟩
  obtain ⟨hlength, hwindow⟩ := hs.place x hx
  refine ⟨hlength, fun w hw => ?_⟩
  obtain ⟨hexpected, hlow, hhigh, hnotOpen, hopened⟩ := hwindow w hw
  have hnone (p : Point) (hp : w.Meets s.tracker.odometer p) : False := by
    have hmem := hs.left x hx (.point x.target p) ⟨p, rfl, w, hw, hp⟩
    cases hmem
  refine ⟨hexpected, hlow, hhigh, fun h => ?_, fun h => ?_⟩
  · have hne : s.tracker.odometer + w.halfWidth ≠ w.expected := fun heq => hnone .windowOpen (.inl ⟨rfl, h, heq⟩)
    have hle := hnotOpen h
    show s.tracker.odometer + 1 + w.halfWidth ≤ w.expected
    omega
  · have hne : s.tracker.odometer ≠ w.expected + w.halfWidth := fun heq => hnone .windowClose (.inr ⟨rfl, h, heq⟩)
    have hle := hopened h
    show w.expected ≤ s.tracker.odometer + 1 + w.halfWidth ∧ s.tracker.odometer + 1 ≤ w.expected + w.halfWidth
    omega

theorem endAdvance_awaits {s : State} {due : List Due} (hs : s.Awaits due) : (endAdvance s).Awaits due :=
  (endAdvance_moves s).awaits hs

theorem advance_inTime {s : State} (hs : s.Awaits []) : (advance s).InTime := by
  obtain ⟨pulse, hpulse⟩ := syncCrossings_tracker s.map.entries
    (s.setTracker { s.tracker with odometer := s.tracker.odometer + 1 })
  have hpending : (advance s).pending = s.pending := by simp
  unfold State.InTime
  rw [hpending]
  unfold advance
  dsimp only
  rw [show (s.setTracker { s.tracker with odometer := s.tracker.odometer + 1 }).map.entries = s.map.entries from rfl, hpulse]
  have harrive := (hs.arrive pulse).awaits
  generalize hu : (s.setTracker { s.tracker with odometer := s.tracker.odometer + 1 }).setTracker _ = u
  rw [show (s.setTracker { s.tracker with odometer := s.tracker.odometer + 1, syncPulse := pulse }) = u from hu] at harrive
  obtain ⟨order, hfilter, hdrain⟩ := drain_takes u.stepDue.length u.stepDue u le_rfl
  rw [hdrain]
  have hend {due : List Due} (h : (takeInTurn order u).Awaits due) :
      (if (takeInTurn order u).leavesWindows then takeInTurn order u else endAdvance (takeInTurn order u)).Awaits due := by
    split
    · exact h
    · exact endAdvance_awaits h
  have hreg := hfilter .reg
  by_cases hmark : u.markBehind = true
  · have hnone : u.stepDue.filter (fun d => d.owner = .reg) = [] := by
      rw [State.stepDue, if_pos hmark, List.filter_filter]
      exact List.filter_eq_nil_iff.2 fun d _ => by simp
    rw [hnone] at hreg
    refine ⟨u.windowsDue, hend (takeInTurn_awaits (by rwa [hreg])), fun _ => ?_⟩
    rw [State.markBehind, ← hu] at hmark
    simpa using hmark
  · have hall : u.stepDue.filter (fun d => d.owner = .reg) = u.windowsDue := by
      rw [State.stepDue, if_neg hmark]
      rfl
    rw [hall] at hreg
    exact ⟨[], hend (takeInTurn_awaits (by rwa [hreg, List.append_nil])), absurd rfl⟩

theorem forwardStep_inTime {s : State} (hs : s.Awaits []) : (forwardStep s).InTime := by
  unfold forwardStep
  split
  · exact ((PartMove.tracker { s.tracker with debt := s.tracker.debt - 1 } s rfl rfl
      (fun h => (Nat.sub_le _ 1).trans h)).awaits hs).inTime
  · split
    · exact advance_inTime hs
    · exact ((faultHold_moves _ _ _).all.awaits hs).inTime

theorem markEvent_awaits {s : State} {due : List Due} (hs : s.Awaits due) : (markEvent s).Awaits due := by
  have horphan : (raiseNotice .orphanMark s).Awaits due := (raiseNotice_all _ _).awaits hs
  unfold markEvent
  split
  · exact horphan
  · split
    · exact horphan
    · next e _ =>
      split
      · next w _ =>
        obtain ⟨r, n, hafter⟩ := comparedMark_after e w s
        exact hafter.awaits (hs.resolve e.target r n)
      · exact horphan

theorem markRow_awaits {s : State} (hs : s.Placed) : (markRow s).Awaits [] := by
  have hwaits := hs.awaits
  unfold markRow
  split
  · next hnone =>
    rw [hnone] at hwaits
    exact markEvent_awaits hwaits
  · have htick := (PartMove.tick (s.freeTick + 1) s).awaits hwaits
    dsimp only
    generalize Config.markChoice s.freeTick % (s.windowsDue.length + 1) = k
    rw [← List.take_append_drop k s.windowsDue] at htick
    have hfirst := takeWindows_awaits (fun d hd => owner_of_mem_windowsDue (List.mem_of_mem_take hd)) htick
    have hrest := markEvent_awaits hfirst
    rw [← List.append_nil (s.windowsDue.drop k)] at hrest
    exact endAdvance_awaits (takeWindows_awaits (fun d hd => owner_of_mem_windowsDue (List.mem_of_mem_drop hd)) hrest)

/-! ### The statement -/

theorem opened_iff (e : MapEntry) : e.window.any (fun w => w.status == .opened) = true ↔ e.course.stand.Opened := by
  simp [Stand.Opened, Option.any_eq_true, Course.stand, MapEntry.course]

/-- At most one window is open, said of the entries one by one. -/
theorem oneWindowOpen_iff {s : State} (hnames : NamesApart s.map) :
    OneWindowOpen s ↔ ∀ x ∈ s.stands, ∀ y ∈ s.stands, x.Opened → y.Opened → x.target = y.target := by
  unfold OneWindowOpen
  rw [List.countP_eq_length_filter]
  constructor
  · intro hone x hx y hy hxo hyo
    obtain ⟨a, ha, rfl⟩ := mem_stands.1 hx
    obtain ⟨b, hb, rfl⟩ := mem_stands.1 hy
    have hmem {e : MapEntry} (he : e ∈ s.map.entries) (ho : e.course.stand.Opened) :
        e ∈ s.map.entries.filter (fun e => e.window.any (fun w => w.status == .opened)) :=
      List.mem_filter.2 ⟨he, (opened_iff e).2 ho⟩
    have ha := hmem ha hxo
    have hb := hmem hb hyo
    obtain ⟨c, hc⟩ := List.length_eq_one_iff.1 (le_antisymm hone (List.length_pos_of_mem ha))
    rw [hc, List.mem_singleton] at ha hb
    rw [ha, hb]
  · intro hone
    have hnodup : (s.map.entries.filter (fun e => e.window.any (fun w => w.status == .opened))).Pairwise
        (fun a b => a.slot ≠ b.slot) := (List.pairwise_map.1 hnames.2.1).sublist List.filter_sublist
    match hlist : s.map.entries.filter (fun e => e.window.any (fun w => w.status == .opened)) with
    | [] => simp [hlist]
    | [_] => simp [hlist]
    | a :: b :: rest =>
      have hmem (e : MapEntry) (he : e ∈ a :: b :: rest) : e.course.stand ∈ s.stands ∧ e.course.stand.Opened := by
        rw [← hlist] at he
        obtain ⟨hin, hopened⟩ := List.mem_filter.1 he
        exact ⟨mem_stands.2 ⟨e, hin, rfl⟩, (opened_iff e).1 hopened⟩
      obtain ⟨ha, hao⟩ := hmem a (by simp)
      obtain ⟨hb, hbo⟩ := hmem b (by simp)
      rw [hlist] at hnodup
      exact absurd (congrArg Target.slot (hone _ ha _ hb hao hbo)) ((List.pairwise_cons.1 hnodup).1 b (by simp))

theorem placed_of_windowsInPlace {s : State} (h : WindowsInPlace s) : s.Placed := by
  obtain ⟨horder, hone, hmark, hlow, hhigh, hplace⟩ := h
  refine ⟨horder, hmark, ⟨hlow, hhigh⟩, fun x hx => ?_, (oneWindowOpen_iff horder.1).1 hone⟩
  obtain ⟨e, he, rfl⟩ := mem_stands.1 hx
  obtain ⟨hlength, hwindow⟩ := hplace e he
  refine ⟨hlength, fun w hw => ?_⟩
  obtain ⟨hexpected, hwlow, hwhigh, htimely⟩ := hwindow w hw
  exact ⟨hexpected, hwlow, hwhigh, ((windowTimely_iff s w).1 htimely).1⟩

/-- With no mark in front no window crossing is left. -/
theorem awaits_of_windowsInPlace {s : State} (h : WindowsInPlace s) (hmark : s.pending.head? ≠ some .mark) :
    s.Awaits [] := by
  refine ⟨placed_of_windowsInPlace h, fun x hx d hd => absurd ?_ hmark, .nil⟩
  obtain ⟨-, -, -, -, -, hplace⟩ := h
  obtain ⟨p, -, w, hw, hmeets⟩ := hd
  obtain ⟨e, he, rfl⟩ := mem_stands.1 hx
  exact ((windowTimely_iff s w).1 ((hplace e he).2 w hw).2.2.2).2 p hmeets

theorem windowsInPlace_of_inTime {s : State} (h : s.InTime) : WindowsInPlace s := by
  obtain ⟨due, hs, hmark⟩ := h
  refine ⟨hs.order, (oneWindowOpen_iff hs.order.1).2 hs.one, hs.mark, hs.halfWidth.1, hs.halfWidth.2, fun e he => ?_⟩
  have hx : e.course.stand ∈ s.stands := mem_stands.2 ⟨e, he, rfl⟩
  obtain ⟨hlength, hwindow⟩ := hs.place _ hx
  refine ⟨hlength, fun w hw => ?_⟩
  obtain ⟨hexpected, hwlow, hwhigh, hwithin⟩ := hwindow w hw
  refine ⟨hexpected, hwlow, hwhigh, (windowTimely_iff s w).2 ⟨hwithin, fun p hp => hmark ?_⟩⟩
  exact List.ne_nil_of_mem (hs.left _ hx (.point e.target p) ⟨p, rfl, w, hw, hp⟩)

/-- Every command but an encoder step and a mark leaves no window crossing where none was left. -/
theorem awaitsRel : CommandRel (fun s t => s.Awaits [] → t.Awaits []) :=
  .of_moves (fun _ => id) (fun h1 h2 h => h2 (h1 h)) PartMove.awaits

/-- The second half of O55: a command runs where no window crossing is left, but a mark, which takes those that are. -/
theorem keptWindowsInPlace : Kept WindowsInPlace := by
  intro s t hs hstep
  unfold step at hstep
  split at hstep
  · cases hstep
    exact hs
  · next c rest hpending =>
    by_cases hmark : c = .mark
    · subst hmark
      obtain ⟨horder, hmark, hhalf, hplace, hone⟩ := placed_of_windowsInPlace hs
      have hrow := markRow_awaits (s := s.setPending rest) ⟨horder, hmark, hhalf, hplace, hone⟩
      cases hstep
      exact windowsInPlace_of_inTime hrow.inTime
    · have hwaits := awaits_of_windowsInPlace hs (by rw [hpending]; simpa using hmark)
      obtain ⟨⟨horder, hzone, hhalf, hplace, hone⟩, hleft, hturn⟩ := hwaits
      have hstart : (s.setPending rest).Awaits [] := ⟨⟨horder, hzone, hhalf, hplace, hone⟩, hleft, hturn⟩
      by_cases hforward : c = .encoderForwardStep
      · subst hforward
        have hrow := forwardStep_inTime hstart
        cases hstep
        exact windowsInPlace_of_inTime hrow
      · obtain ⟨u, hu, hrow⟩ := awaitsRel.exec c (s.setPending rest) (fun h => absurd h hforward) (fun h => absurd h hmark)
        rw [hu] at hstep
        cases hstep
        exact windowsInPlace_of_inTime (hrow hstart).inTime

/-- Settles O55: a move changes the entries' places only where one is announced, withdrawn or retired, or all are cleared; and the
windows that the web meets are taken in web order as it meets them, or by the mark in front. -/
theorem mapStaysInWebOrder : Obligations.MapStaysInWebOrder := ⟨keptMapInOrder, keptWindowsInPlace⟩

end Sys2Proof.Machine
end

section
/-! The operations of the map, of Cut Control and of Laminator Control in the words of the statements: one equation for each, so that
what a crossing or an operation's end does can be read off in those words. -/

namespace Sys2Proof.Machine

/-! ### Notices, levels, entries -/

theorem passLevel_eq_passed (n : Notice) (v : Bool) (s : State) (h : ∀ x, (s.setNotices x).inGroup n = true) :
    passLevel n v s = s.passed n.number v := by
  unfold passLevel State.passed NoticeUnit.passed State.level
  split
  · rfl
  · rw [raiseNotice_eq_took _ _ (h _)]
    simp only [State.setNotices_notices, setBit]
    cases v <;> rfl

theorem raiseNotice_eq_noticed (n : Notice) (s : State) (h : s.inGroup n = true) : raiseNotice n s = s.noticed n.number :=
  raiseNotice_eq_took n s h

theorem evalMapLevels_eq_mapLevels (s : State) : evalMapLevels s = s.mapLevels := by
  rw [evalMapLevels, passLevel_eq_passed .queueLow _ _ (fun _ => rfl), passLevel_eq_passed .nearFull _ _ (fun _ => rfl)]
  unfold State.mapLevels State.queueLow State.nearFull queuedCount
  simp only [beq_eq_decide]
  rfl

/-- An entry carries the name that slot and panel number spell (R18). -/
theorem named_eq_decide (t : Target) : MapEntry.named t = fun e => decide (e.slot = t.slot ∧ e.panel = t.panel) := by
  funext e
  rw [Bool.eq_iff_iff]
  simp [MapEntry.named]

theorem shift_eq (n : Nat) (offset : Int) : shift n offset = ((n : Int) + offset).toNat := rfl

/-! ### The slit issue attempt (R113, R114) -/

theorem State.good_iff (s : State) (t : Target) : s.good t = true ↔ s.Good t := by
  unfold State.good State.Good
  cases s.entry t <;> simp

theorem olderClear_iff (owner : Target) (es : List MapEntry) : olderClear owner es = true ↔
    ∀ e ∈ (es.takeWhile (fun e => ¬(e.slot = owner.slot ∧ e.panel = owner.panel))).reverse.find? (fun e => e.scrap = none),
      e.slitter = .past := by
  have hold : olderThan owner es = es.takeWhile (fun e => ¬(e.slot = owner.slot ∧ e.panel = owner.panel)) := by
    rw [olderThan, named_eq_decide]
    simp only [decide_not]
  have hnone : (fun e : MapEntry => e.scrap.isNone) = fun e => decide (e.scrap = none) := by
    funext e
    rw [Bool.eq_iff_iff]
    simp
  unfold olderClear
  rw [hold, hnone]
  simp only [Option.mem_def]
  split
  · next e he => simp only [he, Option.some.injEq, forall_eq', beq_iff_eq]
  · next he => exact iff_of_true rfl fun e h => by rw [he] at h; cases h

theorem slitAttempt_eq_slitIssued (s : State) : slitAttempt s = s.slitIssued := by
  unfold slitAttempt State.slitIssued
  cases s.cut.slit with
  | nil => rfl
  | cons x rest =>
    dsimp only
    have hready : s.slitReady x = true ↔ s.cut.moveFlight = none ∧ x.issued = false ∧ s.Good x.owner ∧
        olderClear x.owner s.map.entries = true ∧ (s.link .slit).state = .active := by
      simp [State.slitReady, State.good_iff, and_assoc]
    by_cases hop : (s.link .slit).state = .active ∧ (s.link .slit).op = none
    · have hcond : (s.slitReady x = true) = (s.cut.moveFlight = none ∧ x.issued = false ∧ s.Good x.owner ∧
          (∀ e ∈ (s.map.entries.takeWhile (fun e => ¬(e.slot = x.owner.slot ∧ e.panel = x.owner.panel))).reverse.find?
            (fun e => e.scrap = none), e.slitter = .past) ∧ (s.link .slit).state = .active ∧ (s.link .slit).op = none) := by
        rw [hready, olderClear_iff]
        simp [hop]
      rw [requestOp_taken _ _ _ _ _ hop]
      simp only [hcond]
      rfl
    · rw [requestOp_refused _ _ _ _ _ hop, ite_self, if_neg]
      exact fun h => hop h.2.2.2.2

/-! ### Scrap, conversion and disposal (R33, R111, R112) -/

theorem appendReprint_eq (r : ReprintRecord) (s : State) : appendReprint r s =
    if s.map.reprints.length < 16 then
      ({ s with map := { s.map with reprints := s.map.reprints ++ [r] } } : State).noticed 12
    else s.noticed 13 := by
  unfold appendReprint
  rw [raiseNotice_eq_noticed _ _ rfl, raiseNotice_eq_noticed _ _ rfl]
  rfl

theorem markScrap_eq_spoiled {s : State} {t : Target} {e : MapEntry} (he : s.entry t = some e) (hnone : e.scrap = none)
    (reason : ScrapReason) : markScrap t reason s = s.spoiled e reason := by
  obtain rfl := entry_named he
  unfold markScrap
  rw [he]
  simp only [hnone, Option.isSome_none, Bool.false_eq_true, if_false]
  rw [State.modifyEntry_eq_changed, raiseNotice_eq_noticed _ _ rfl, appendReprint_eq]
  unfold State.spoiled State.reprintsWith
  have hlength : (s.changed e.target (fun x => { x with scrap := some reason })).map.reprints = s.map.reprints := rfl
  rw [hlength]
  split <;> rfl

theorem convertCuts_eq_wasted (t : Target) (s : State) : convertCuts t s = s.wasted t := by
  unfold convertCuts State.wasted State.setCut
  have hmap : s.cut.xcut.map (fun c => if c.owner = t ∧ c.kind = .cut then { c with kind := .waste } else c) =
      s.cut.xcut.map (fun c => if c.owner = t then { c with kind := .waste } else c) := by
    refine List.map_congr_left fun c _ => ?_
    by_cases ho : c.owner = t
    · cases hk : c.kind
      · simp [ho]
      · rw [if_neg (by simp), if_pos ho, ← hk]
    · simp [ho]
  rw [hmap]

theorem disposeOver_eq_handOver (i : Nat) (ts : List Target) (s : State) : disposeOver i ts s = s.handOver i ts := by
  induction ts generalizing s with
  | nil => exact slitAttempt_eq_slitIssued _
  | cons t ts ih =>
    unfold disposeOver State.handOver
    cases he : s.entry t with
    | none => exact ih s
    | some q =>
      dsimp only
      by_cases hscrap : q.scrap = none
      · have hhanded : (handOn i t (q.headAt s.tracker.zones.slit) s).entry t = some q := he
        rw [if_neg (show ¬q.scrap.isSome = true by simp [hscrap]), if_neg (show ¬q.scrap ≠ none by simp [hscrap])]
        by_cases hahead : q.slitter = .ahead
        · rw [if_pos hahead, if_neg (show ¬q.slitter ≠ .ahead by simp [hahead]), markScrap_eq_spoiled hhanded hscrap, convertCuts_eq_wasted,
            slitAttempt_eq_slitIssued, ih]
          rfl
        · rw [if_neg hahead, if_pos hahead, markScrap_eq_spoiled he hscrap, convertCuts_eq_wasted, slitAttempt_eq_slitIssued, ih]
      · rw [if_pos (Option.isSome_iff_ne_none.2 hscrap), if_pos hscrap, ih]

theorem disposalRange_eq_relying (s : State) (owner : Target) (next : Option Target) :
    disposalRange owner next s.map.entries = s.relying owner next := by
  unfold disposalRange State.relying youngerThan
  have hphase : (fun e : MapEntry => decide (some e.target ≠ next) && (e.phase == .committed || e.phase == .atKnife)) =
      fun e => decide (some e.target ≠ next ∧ (e.phase = .committed ∨ e.phase = .atKnife)) := by
    funext e
    rw [Bool.eq_iff_iff]
    simp
  rw [hphase, named_eq_decide]
  simp only [decide_not]

theorem disposeSlit_eq_disposedOf (t : Target) (s : State) : disposeSlit t s = s.disposedOf t := by
  have hfind : s.unissuedOf t = s.cut.slit.findIdx? (fun x => x.owner = t ∧ x.issued = false) := by
    unfold State.unissuedOf
    congr 1
    funext x
    rw [Bool.eq_iff_iff]
    simp
  unfold disposeSlit State.disposedOf
  rw [hfind]
  cases s.cut.slit.findIdx? (fun x => x.owner = t ∧ x.issued = false) with
  | none => rfl
  | some i =>
    dsimp only
    rw [disposalRange_eq_relying, disposeOver_eq_handOver]

theorem convertPanel_eq_converted (t : Target) (s : State) : convertPanel t s = s.converted t := by
  rw [convertPanel, convertCuts_eq_wasted, disposeSlit_eq_disposedOf, slitAttempt_eq_slitIssued, State.converted]

theorem scrapClaim_eq_claimed (t : Target) (reason : ScrapReason) (s : State) : scrapClaim t reason s = s.claimed t reason := by
  unfold scrapClaim State.claimed
  cases he : s.entry t with
  | none => rfl
  | some e =>
    dsimp only
    by_cases hscrap : e.scrap = none
    · rw [if_neg (show ¬e.scrap.isSome = true by simp [hscrap]), if_neg (show ¬e.scrap ≠ none by simp [hscrap]),
        markScrap_eq_spoiled he hscrap, convertPanel_eq_converted]
    · rw [if_pos (Option.isSome_iff_ne_none.2 hscrap), if_pos hscrap]

/-! ### The nip (R82, R91 to R98) -/

theorem setSpeeds_eq (commanded target : Nat) (s : State) : setSpeeds commanded target s =
    { s with line := s.line.steered commanded target, notices := speedNotices s commanded target } := by
  unfold setSpeeds speedNotices
  dsimp only
  split
  · rw [raiseNotice_eq_took _ _ rfl]
    rfl
  · rfl

theorem retarget_eq_steered (s : State) : retarget s = s.steered := by
  rw [retarget, setSpeeds_eq]
  rfl

theorem nipEntry_eq (s : State) : (entryAtNip s.map.entries).map MapEntry.target = s.nipEntry := by
  unfold entryAtNip State.nipEntry
  simp only [beq_eq_decide]

theorem reportNip_eq_nipTold (s : State) : reportNip s = s.nipTold := by
  unfold reportNip State.nipTold
  dsimp only
  rw [nipEntry_eq, retarget_eq_steered]
  rfl

theorem evalFilm_eq_filmChecked (s : State) : evalFilm s = s.filmChecked := by
  unfold evalFilm autoSplice State.filmChecked
  rw [passLevel_eq_passed .filmLow _ _ (fun _ => rfl), wantSplice_eq_wanting]
  dsimp only
  have hlow (u : State) : u.filmLow = decide (u.lam.remaining ≤ u.lam.filmLow) := rfl
  simp only [hlow, Option.isSome_iff_ne_none, decide_eq_true_eq]
  rfl

theorem lamComplete_eq_lamCompleted (s : State) : lamComplete s = s.lamCompleted := by
  unfold lamComplete State.lamCompleted
  cases s.lam.op with
  | none => rfl
  | some o =>
    dsimp only
    rw [transitionDecision_eq_decided]
    split
    · rw [evalFilm_eq_filmChecked]
      rfl
    · rfl

theorem lamFail_eq_lamFailed (s : State) : lamFail s = s.lamFailed := by
  unfold lamFail State.lamFailed
  cases s.lam.op with
  | none => rfl
  | some o =>
    dsimp only
    rw [transitionDecision_eq_decided, wantSplice_eq_wanting]
    rfl

theorem openTarget_isSome_iff (s : State) : s.openTarget.isSome = true ↔ s.atGap ≠ none := by
  rw [State.openTarget, State.gapOpen_eq_atGap, Option.isSome_map, Option.isSome_iff_ne_none]

theorem decideIfOpen_eq (s : State) : decideIfOpen s = if s.atGap ≠ none then s.decided else s := by
  unfold decideIfOpen
  rw [transitionDecision_eq_decided]
  simp only [openTarget_isSome_iff]

theorem splicing_eq (s : State) : s.splicing = s.lam.op.any (fun o => o.kind = .splice) := by
  unfold State.splicing
  cases s.lam.op <;> simp [beq_eq_decide]

theorem lamRemoved_eq_lamFreed (t : Target) (withdrawn : Bool) (s : State) :
    lamRemoved t withdrawn s = s.lamFreed t withdrawn := by
  unfold lamRemoved State.lamFreed
  simp only [decideIfOpen_eq, spliceSearch_eq_searched, reportNip_eq_nipTold, splicing_eq]
  have hforget : LamOp.forget t = fun o => if o.target = some t then { o with target := none } else o := rfl
  simp only [hforget, decide_eq_true_eq]
  rfl

theorem nipCheck_eq_nipChecked (e : MapEntry) (s : State) : nipCheck e s = s.nipChecked e := by
  unfold nipCheck State.nipChecked
  have hop : ((s.lam.op.bind (fun o => o.target)) = some e.target) ↔
      (s.lam.op.any (fun o => o.target = some e.target) = true) := by
    cases s.lam.op <;> simp
  simp only [scrapClaim_eq_claimed, wantSplice_eq_wanting, LamClass.calls_eq_callsFor, hop]

theorem nipHeadCrossing_eq (t : Target) (s : State) : nipHeadCrossing t s = s.headAtNip t := by
  unfold nipHeadCrossing State.headAtNip
  cases s.entry t with
  | none => rfl
  | some e => simp only [nipCheck_eq_nipChecked, reportNip_eq_nipTold, State.modifyEntry_eq_changed]

theorem nipTailCrossing_eq (t : Target) (s : State) : nipTailCrossing t s = s.tailAtNip t := by
  rw [nipTailCrossing, transitionDecision_eq_decided, reportNip_eq_nipTold, State.modifyEntry_eq_changed, State.tailAtNip]

/-! ### Retirement (R30, R37, R91, R103) -/

theorem cutRemoved_eq_cutFreed (t : Target) (s : State) : cutRemoved t s = s.cutFreed t := by
  unfold cutRemoved State.cutFreed
  cases s.cut.slit with
  | nil => rfl
  | cons front rest => rfl

theorem dropRef_eq_unreferenced (s : State) (n : Nat) : s.dropRef n = s.unreferenced n := by
  unfold State.dropRef State.modifyPlan State.unreferenced
  rw [updatePlan_eq_map]
  rfl

theorem appendOutcome_eq (r : OutcomeRecord) (s : State) : appendOutcome r s =
    if s.map.outcomes.length < 32 then { s with map := { s.map with outcomes := s.map.outcomes ++ [r] } }
    else s.noticed 14 := by
  unfold appendOutcome
  rw [raiseNotice_eq_noticed _ _ rfl]
  rfl

theorem retire_eq_retired (t : Target) (s : State) : retire t s = s.retired t := by
  unfold retire State.retired
  cases s.entry t with
  | none => rfl
  | some e =>
    dsimp only
    rw [evalMapLevels_eq_mapLevels, raiseNotice_eq_noticed _ _ rfl, dropRef_eq_unreferenced, cutRemoved_eq_cutFreed,
      lamRemoved_eq_lamFreed]
    have hdropped : (appendOutcome e.outcomeRecord s).dropEntry t = { s with
        map := { s.map with
          entries := s.map.entries.eraseP (fun x => x.slot = t.slot ∧ x.panel = t.panel)
          outcomes := if s.map.outcomes.length < 32 then s.map.outcomes ++ [e.outcomeRecord] else s.map.outcomes }
        notices := if s.map.outcomes.length < 32 then s.notices else s.notices.took 14 } := by
      rw [appendOutcome_eq, State.dropEntry, removeEntry, named_eq_decide]
      split <;> rfl
    rw [hdropped]
    simp only [decide_eq_true_eq]
    rfl

theorem retireIfDone_eq (t : Target) (s : State) : retireIfDone t s =
    if ∃ e ∈ s.entry t, e.tailCleared = true ∧ e.cutsPending = 0 then s.retired t else s := by
  unfold retireIfDone
  cases s.entry t with
  | none => simp
  | some e => simp [retire_eq_retired]

theorem resolveCut_eq_cutResolved (t : Target) (made : Bool) (s : State) : resolveCut t made s = s.cutResolved t made := by
  rw [resolveCut, retireIfDone_eq, State.modifyEntry_eq_changed]
  rfl

/-! ### The knife and the slitters (R107 to R110, R115, R117) -/

theorem divert_eq (k : CutKind) : k.divert = if k = .waste then 1 else 0 := by
  cases k <;> rfl

/-- The front cut entry where the web has reached its position. -/
theorem cutCrossing_eq_cutReached {s : State} {c : CutEntry} {rest : List CutEntry} (hqueue : s.cut.xcut = c :: rest)
    (hposition : c.position = s.tracker.odometer) : cutCrossing s = s.cutReached c rest := by
  unfold cutCrossing State.cutReached
  rw [hqueue]
  dsimp only
  rw [if_pos hposition, divert_eq]
  by_cases hop : (s.link .xcut).state = .active ∧ (s.link .xcut).op = none
  · rw [requestOp_taken _ _ _ _ _ (show ((s.setCut { s.cut with xcut := rest }).link .xcut).state = .active ∧
      ((s.setCut { s.cut with xcut := rest }).link .xcut).op = none from hop), if_pos hop]
    rfl
  · rw [requestOp_refused _ _ _ _ _ (show ¬(((s.setCut { s.cut with xcut := rest }).link .xcut).state = .active ∧
      ((s.setCut { s.cut with xcut := rest }).link .xcut).op = none) from hop), if_neg hop]
    simp only [cutMissed, resolveCut_eq_cutResolved, scrapClaim_eq_claimed, raiseNotice_eq_noticed .cutMissed _ rfl]
    rfl

theorem cutComplete_eq_cutCompleted (s : State) : cutComplete s = s.cutCompleted := by
  unfold cutComplete State.cutCompleted
  cases s.cut.cutFlight with
  | none => rfl
  | some c => simp only [resolveCut_eq_cutResolved, beq_eq_decide]; rfl

theorem cutFail_eq_cutFailed (s : State) : cutFail s = s.cutFailed := by
  unfold cutFail State.cutFailed
  cases s.cut.cutFlight with
  | none => rfl
  | some c => simp only [resolveCut_eq_cutResolved, scrapClaim_eq_claimed]; rfl

theorem moveComplete_eq_moveCompleted (s : State) : moveComplete s = s.moveCompleted := by
  unfold moveComplete State.moveCompleted
  cases s.cut.moveFlight with
  | none => rfl
  | some m =>
    dsimp only
    rw [slitAttempt_eq_slitIssued]
    cases s.cut.slit <;> rfl

theorem moveFail_eq_moveFailed (s : State) : moveFail s = s.moveFailed := by
  unfold moveFail State.moveFailed
  cases s.cut.moveFlight with
  | none => rfl
  | some m =>
    dsimp only
    cases m.owner with
    | none => exact slitAttempt_eq_slitIssued _
    | some t => simp only [slitAttempt_eq_slitIssued, disposeSlit_eq_disposedOf, scrapClaim_eq_claimed]; rfl

/-! ### Commit expansion (R55 to R61) -/

theorem insertAfter_eq {α : Type} (key : α → Nat) (x : α) (xs : List α) : insertAfter key x xs =
    xs.takeWhile (fun y => key y ≤ key x) ++ x :: xs.dropWhile (fun y => key y ≤ key x) := by
  induction xs with
  | nil => rfl
  | cons y ys ih =>
    unfold insertAfter
    by_cases h : key x < key y
    · rw [if_pos h, List.takeWhile_cons_of_neg (by simpa using h), List.dropWhile_cons_of_neg (by simpa using h),
        List.nil_append]
    · rw [if_neg h, List.takeWhile_cons_of_pos (by simpa using h), List.dropWhile_cons_of_pos (by simpa using h), ih,
        List.cons_append]

theorem insertAfter_eq_cutInserted (c : CutEntry) (queue : List CutEntry) :
    insertAfter (fun x => x.position) c queue = cutInserted c queue := insertAfter_eq _ c queue

theorem insertAfter_eq_slitInserted (x : SlitEntry) (queue : List SlitEntry) :
    insertAfter (fun y => y.deadline) x queue = slitInserted x queue := insertAfter_eq _ x queue

theorem insertCut_eq (c : CutEntry) (s : State) : insertCut c s =
    State.changed { s with cut := { s.cut with xcut := cutInserted c s.cut.xcut } } c.owner
      (fun e => { e with cutsPending := e.cutsPending + 1 }) := by
  rw [insertCut, State.modifyEntry_eq_changed, insertAfter_eq_cutInserted]
  rfl

theorem wasteCuts_eq_wasteMade (e : MapEntry) (s : State) : wasteCuts e s = s.wasteMade e := by
  have hwaste (n : Nat) (step : CutStep) (u : State) : insertWaste
      { position := shift (n + u.tracker.zones.knife) e.offset, owner := e.target, step := step, kind := .waste } u =
      u.wasteCut e n step := by
    unfold insertWaste State.wasteCut
    rw [insertCut_eq]
    rfl
  have hzones : (insertWaste { position := e.headAt s.tracker.zones.knife, owner := e.target, step := .wasteHead, kind := .waste }
      s).tracker = s.tracker := by
    unfold insertWaste insertCut
    split <;> rfl
  have htail := hwaste (e.head + e.length) .wasteTail (insertWaste
    { position := e.headAt s.tracker.zones.knife, owner := e.target, step := .wasteHead, kind := .waste } s)
  rw [hzones] at htail
  unfold wasteCuts State.wasteMade
  rw [← hwaste e.head .wasteHead s]
  exact htail

theorem cutEntriesFrom_eq (e : MapEntry) (d k : Nat) (os : List Nat) : cutEntriesFrom e d k os = os.mapIdx (fun i o =>
    { position := shift (e.head + o + d) e.offset, owner := e.target, step := .offset (k + i), kind := .cut }) := by
  induction os generalizing k with
  | nil => rfl
  | cons o os ih =>
    rw [cutEntriesFrom, ih, List.mapIdx_cons]
    simp only [MapEntry.headAt, Nat.add_assoc, Nat.add_comm 1, Nat.add_zero]

theorem cutEntriesFrom_eq_plannedCuts (s : State) (e : MapEntry) (cuts : List Nat) :
    cutEntriesFrom e s.tracker.zones.knife 1 cuts = plannedCuts s e cuts := by
  rw [cutEntriesFrom_eq, plannedCuts]
  simp only [Nat.add_comm 1]
  rfl

/-- The cuts of one entry queued one after another: the queue takes them in turn, and all of them are counted pending. -/
theorem foldInsertCut_eq (t : Target) (cs : List CutEntry) (s : State) (howner : ∀ c ∈ cs, c.owner = t) :
    cs.foldl (fun s c => insertCut c s) s =
      State.changed { s with cut := { s.cut with xcut := cs.foldl (fun queue c => cutInserted c queue) s.cut.xcut } } t
        (fun e => { e with cutsPending := e.cutsPending + cs.length }) := by
  induction cs generalizing s with
  | nil =>
    have hid : s.entriesWith t (fun e => { e with cutsPending := e.cutsPending + ([] : List CutEntry).length }) =
        s.map.entries := by
      unfold State.entriesWith
      exact (List.map_congr_left fun e _ => by split <;> rfl).trans (List.map_id _)
    exact (congrArg (fun es => { s with map := { s.map with entries := es } }) hid).symm
  | cons c cs ih =>
    obtain rfl : c.owner = t := howner c (by simp)
    rw [List.foldl_cons, ih _ (fun x hx => howner x (by simp [hx])), insertCut_eq]
    unfold State.changed State.entriesWith
    simp only [List.map_map, List.foldl_cons, List.length_cons]
    congr 2
    refine List.map_congr_left fun e _ => ?_
    rw [Function.comp_apply]
    by_cases h : e.slot = c.owner.slot ∧ e.panel = c.owner.panel
    · simp [h, Nat.add_comm cs.length, Nat.add_assoc]
    · simp [h]

theorem needsMove_iff (q : Plan) (c : CutControl) : needsMove q c = true ↔ c.slitReference ≠ .known q.slits := by
  rw [needsMove, decide_eq_true_eq]
  rfl

theorem expandNormal_eq_expandedNormally (e : MapEntry) (q : Plan) (s : State) : expandNormal e q s = s.expandedNormally e q := by
  unfold expandNormal State.expandedNormally
  dsimp only
  rw [foldInsertCut_eq e.target _ _ (cutEntriesFrom_owner _ _ _ _), cutEntriesFrom_length, cutEntriesFrom_eq_plannedCuts]
  by_cases h : s.cut.slitReference = .known q.slits
  · rw [if_neg (by simp [needsMove_iff, h]), if_pos h]
  · rw [if_pos ((needsMove_iff _ _).2 h), if_neg h, insertSlit, slitAttempt_eq_slitIssued, insertAfter_eq_slitInserted]
    rfl

theorem expandScrap_eq (e : MapEntry) (reason : ScrapReason) (s : State) :
    expandScrap e reason s = (s.claimed e.target reason).wasteMade e := by
  rw [expandScrap, wasteCuts_eq_wasteMade, scrapClaim_eq_claimed]

theorem queuesHaveRoom_iff (q : Plan) (c : CutControl) : queuesHaveRoom q c = true ↔
    ¬(24 < c.xcut.length + q.cuts.length ∨ (c.slitReference ≠ .known q.slits ∧ 6 ≤ c.slit.length)) := by
  simp only [queuesHaveRoom, Bool.and_eq_true, Bool.or_eq_true, Bool.not_eq_true', decide_eq_true_eq]
  rw [← Bool.not_eq_true, needsMove_iff]
  simp only [Config.xcutSize, Config.slitSize]
  by_cases h : c.slitReference = .known q.slits <;> simp [h]

theorem expand_eq_expandedBy {s : State} {e : MapEntry} {q : Plan} (hq : s.plan e.plan = some q) :
    expand e s = s.expandedBy e q := by
  unfold expand State.expandedBy
  rw [hq]
  have hany : (q.cuts.any (fun o => decide (e.length < o)) = true) = (∃ o ∈ q.cuts, e.length < o) := by
    simp
  simp only [hany, expandScrap_eq, expandNormal_eq_expandedNormally]
  split_ifs with h1 h2 h3 h4 h4
  · rfl
  · rfl
  · exact absurd h4 ((queuesHaveRoom_iff _ _).1 h3)
  · rfl
  · rfl
  · exact absurd ((queuesHaveRoom_iff _ _).2 h4) h3

theorem commitCrossing_eq {s : State} {e : MapEntry} {q : Plan} (he : s.entry e.target = some e) (hq : s.plan e.plan = some q) :
    commitCrossing e.target s =
      let u := (s.changed e.target (fun x => { x with phase := .committed })).expandedBy e q
      if e.scrap = none then u else u.converted e.target := by
  unfold commitCrossing
  rw [he]
  dsimp only
  rw [State.modifyEntry_eq_changed, expand_eq_expandedBy (s := s.changed _ _) hq, convertPanel_eq_converted]
  by_cases h : e.scrap = none
  · rw [if_neg (by simp [h]), if_pos h]
  · rw [if_pos (Option.isSome_iff_ne_none.2 h), if_neg h]

end Sys2Proof.Machine
end

section
/-! Line Control, the Hold Unit and the links in the words of the statements: a fault hold request, a change of line state, a link's
parking and the reports that an operation has ended. -/

namespace Sys2Proof.Machine

/-! ### What is latched -/

/-- A notice raised inside its validity group is latched, as seen from any state before (R191). -/
theorem State.Carries.latched_raise {s t : State} (h : s.Carries t) (n : Notice) (hn : n.number < 25)
    (hg : t.inGroup n = true) : s.Latched (raiseNotice n t) n.number := by
  intro p hp
  obtain ⟨hmask, hoption⟩ := h.settings p
  rw [raiseNotice_inside n t hg]
  simp only [State.setNotices_notices, PerPort.get_map]
  exact NoticeCopy.latch_latched _ _ hn (by rwa [hmask, hoption])

/-- What is latched stays so, as the state goes on without a clear (R193). -/
theorem State.Latched.carries {s t u : State} {n : Nat} (h : s.Latched t n) (hn : n < 25) (hc : t.Carries u) :
    s.Latched u n := fun p hp => hc.latched p n hn (h p hp)

/-- What is latched after a state of the same masks is latched as seen from before it. -/
theorem State.Latched.before {s t u : State} {n : Nat} (h : t.Latched u n) (hc : s.Carries t) : s.Latched u n := by
  intro p hp
  obtain ⟨hmask, hoption⟩ := hc.settings p
  exact h p (by rwa [hmask, hoption])

/-! ### Line states -/

/-- Line Control as it enters a state (R148). -/
def State.lineIn (s : State) (st : LineState) : LineControl :=
  ({ s.line with state := st, ratio := s.ratioAtNip } : LineControl).steered s.line.commanded
    (speedGoal st s.line.setSpeed s.ratioAtNip s.line.minSpeed)

theorem enterLine_eq (st : LineState) (s : State) : enterLine st s =
    (({ s with line := { s.line with state := st } } : State).passed 0 (st != .stopped)).steered := by
  rw [enterLine, retarget_eq_steered, passLevel_eq_passed .lineState _ _ (fun _ => rfl)]
  rfl

theorem enterLine_line_eq (st : LineState) (s : State) : (enterLine st s).line = s.lineIn st := by
  rw [enterLine_eq]
  rfl

theorem lineIn_of_not_run {s : State} {st : LineState} (h : st ≠ .run) : s.lineIn st =
    ({ s.line with state := st, ratio := s.ratioAtNip } : LineControl).steered s.line.commanded 0 := by
  rw [State.lineIn, speedGoal, if_neg h]

/-- The ratio in use is read off the entry at the nip, the map and the plans (R148). -/
theorem ratioAtNip_congr {s t : State} (hnip : t.line.atNip = s.line.atNip) (hmap : t.map.entries = s.map.entries)
    (hplans : t.plans.plans = s.plans.plans) : t.ratioAtNip = s.ratioAtNip := by
  unfold State.ratioAtNip State.entry State.plan
  rw [hnip, hmap, hplans]

theorem enterLine_blocks (st : LineState) (s : State) :
    (enterLine st s).map = s.map ∧ (enterLine st s).plans = s.plans ∧ (enterLine st s).line.atNip = s.line.atNip := by
  refine ⟨by simp, by simp, ?_⟩
  rw [enterLine_line_eq]
  rfl

theorem haltReport_line (s : State) (hs : s.hold.stack ≠ []) : (haltReport s).line =
    if s.line.state = .run then
      ({ s.line with
        state := if s.line.commanded = 0 then .held else .halting
        ratio := s.ratioAtNip } : LineControl).steered s.line.commanded 0
    else s.line := by
  by_cases hrun : s.line.state = .run
  · rw [haltReport_eq s hrun hs, if_pos hrun]
    by_cases hzero : s.line.commanded = 0
    · obtain ⟨hmap, hplans, hnip⟩ := enterLine_blocks .halting s
      have hratio : (enterLine .halting s).ratioAtNip = s.ratioAtNip :=
        ratioAtNip_congr hnip (congrArg PanelMap.entries hmap) (congrArg PlanStore.plans hplans)
      rw [if_pos hzero, if_pos hzero, enterLine_line_eq, lineIn_of_not_run (by simp), hratio, enterLine_line_eq,
        lineIn_of_not_run (by simp)]
      simp [LineControl.steered, hzero]
    · rw [if_neg hzero, if_neg hzero, enterLine_line_eq, lineIn_of_not_run (by simp)]
  · rw [haltReport_of_not_run s hrun, if_neg hrun]

/-! ### Fault hold requests (R126, R135, R140) -/

theorem pushHold_taken (owner : HoldOwner) (reason : HoldReason) (detail : FaultDetail) (s : State)
    (h : s.hold.stack.length < 254) : PushTaken (pushedRecord s owner reason detail) s (pushHold owner reason detail s) := by
  refine ⟨rfl, rfl, fun hnext => ?_⟩
  exact skipHeld_eq_numberFollowing _ _ hnext (by
    show (_ :: s.hold.stack).length < 255
    rw [List.length_cons]
    omega)

theorem takeFault_taken (reason : HoldReason) (detail : FaultDetail) (s : State) :
    FaultTaken reason detail s (takeFault reason detail s) := by
  unfold FaultTaken takeFault
  cases hstack : s.hold.stack with
  | nil => exact pushHold_taken _ _ _ _ (by rw [hstack]; simp)
  | cons r rest =>
    dsimp only
    by_cases htop : r.owner = .line ∧ r.reason = reason
    · rw [if_pos htop, if_pos htop]
      rfl
    · rw [if_neg htop, if_neg htop]
      by_cases hroom : rest.length < 3
      · rw [if_pos hroom, if_pos (by simp [Config.holdSize]; omega)]
        exact pushHold_taken _ _ _ _ (by rw [hstack, List.length_cons]; omega)
      · rw [if_neg hroom, if_neg (by simp [Config.holdSize]; omega)]
        rfl

/-- A fault hold request as the Hold Unit takes it depends on the stack, the odometer and the line alone. -/
theorem FaultTaken.congr {reason : HoldReason} {detail : FaultDetail} {s s' t t' : State} (h : FaultTaken reason detail s t)
    (hhold : s'.hold = s.hold) (hodometer : s'.tracker.odometer = s.tracker.odometer) (hstate : s'.line.state = s.line.state)
    (hspeed : s'.line.setSpeed = s.line.setSpeed) (ht : t'.hold = t.hold) : FaultTaken reason detail s' t' := by
  have hrecord (o : HoldOwner) : pushedRecord s' o reason detail = pushedRecord s o reason detail := by
    rw [pushedRecord, pushedRecord, hhold, hodometer, hstate, hspeed]
  unfold FaultTaken PushTaken at h ⊢
  rw [hrecord, ht, hhold]
  exact h

/-- A state that differs in the hold stack, the line and the notices alone. -/
theorem eq_of_blocks {s t : State} (htracker : t.tracker = s.tracker) (hmap : t.map = s.map) (hplans : t.plans = s.plans)
    (hreg : t.reg = s.reg) (hlam : t.lam = s.lam) (hcut : t.cut = s.cut) (hports : t.ports = s.ports) (hbusy : t.busy = s.busy)
    (htick : t.freeTick = s.freeTick) (hpending : t.pending = s.pending) :
    t = { s with links := t.links, hold := t.hold, line := t.line, notices := t.notices } := by
  cases t
  simp_all

theorem faultHold_eq_blocks (reason : HoldReason) (detail : FaultDetail) (s : State) : faultHold reason detail s =
    { s with
      hold := (faultHold reason detail s).hold, line := (faultHold reason detail s).line
      notices := (faultHold reason detail s).notices } := by
  have hlinks := faultHold_links reason detail s
  have hblocks := eq_of_blocks (s := s) (t := faultHold reason detail s) (by simp) (by simp) (by simp) (by simp) (by simp)
    (by simp) (by simp) (by simp) (by simp) (by simp)
  rwa [hlinks] at hblocks

theorem faultHold_line (reason : HoldReason) (detail : FaultDetail) (s : State) :
    (faultHold reason detail s).line = (haltReport (takeFault reason detail s)).line := by
  simp [faultHold]

theorem faultHold_halts (reason : HoldReason) (detail : FaultDetail) (s : State) : HaltTaken s (faultHold reason detail s) := by
  have hline : (takeFault reason detail s).line = s.line := by simp
  have hratio : (takeFault reason detail s).ratioAtNip = s.ratioAtNip :=
    ratioAtNip_congr (by rw [hline]) (by simp) (by simp)
  unfold HaltTaken
  rw [faultHold_line, haltReport_line _ (takeFault_stack_ne _ _ _), hline, hratio]

theorem faultHold_holdActive (reason : HoldReason) (detail : FaultDetail) (s : State) :
    (faultHold reason detail s).level .holdActive = true := by
  have hhold : (haltReport (takeFault reason detail s)).hold = (takeFault reason detail s).hold := by simp
  rw [faultHold, raiseNotice_level, passLevel_level _ _ _ (by decide), State.holdActive, hhold]
  simpa using takeFault_stack_ne reason detail s

theorem faultHold_latched (reason : HoldReason) (detail : FaultDetail) (s : State) :
    s.Latched (faultHold reason detail s) 17 :=
  State.Carries.latched_raise (((takeFault_carries reason detail s).trans (haltReport_carries _)).trans
    (passLevel_carries _ _ _)) .faultHold (by decide) rfl

/-- A fault hold request is the one the statements describe (R126, R135, R140). -/
theorem faultHold_reported (reason : HoldReason) (detail : FaultDetail) (s : State) :
    FaultReported reason detail s (faultHold reason detail s) :=
  ⟨faultHold_eq_blocks reason detail s,
    (takeFault_taken reason detail s).congr rfl rfl rfl rfl (faultHold_hold reason detail s),
    faultHold_halts reason detail s, faultHold_holdActive reason detail s, faultHold_latched reason detail s⟩

/-! ### Links that change their state (R147, R165, R168) -/

/-- A link that enters a state other than DOWN, as its LINK_UP level is passed (R168, R192). -/
theorem enterLink_eq_linked (l : LinkId) (st : LinkState) (k : Link) (s : State) (h : st ≠ .down) :
    enterLink l st (s.setLink l k) = s.linked l { k with state := st } := by
  have hgroup (x : NoticeUnit) : ((((s.setLink l k).setLink l { (s.setLink l k).link l with state := st }).setNotices x).inGroup
      (.linkUp l)) = true := by
    simp only [State.inGroup, bne_iff_ne]
    rw [show ((((s.setLink l k).setLink l { (s.setLink l k).link l with state := st }).setNotices x).link l) =
      ((s.setLink l k).setLink l { (s.setLink l k).link l with state := st }).link l from rfl, State.setLink_link_self]
    exact h
  rw [enterLink, passLinkUp, passLevel_eq_passed _ _ _ hgroup]
  unfold State.linkUp
  rw [State.setLink_link_self, setLink_setLink, State.setLink_link_self]
  simp only [beq_eq_decide]
  rfl

theorem parkLink_eq_linked (l : LinkId) (s : State) : parkLink l s = s.linked l (s.link l).parked :=
  enterLink_eq_linked l .parking _ s (by simp)

theorem wakeLink_eq_linked (l : LinkId) (s : State) : wakeLink l s =
    s.linked l { s.link l with state := .waking, goGiven := false, faults := 0, wakeTimer := some 250 } :=
  enterLink_eq_linked l .waking _ s (by simp)

theorem carries_iff (st : LinkState) : st.carries = true ↔ st = .active ∨ st = .slipped := by
  cases st <;> simp [LinkState.carries]

theorem armedUp_iff (st : LinkState) : st.armedUp = true ↔ st = .armed ∨ st = .active ∨ st = .slipped := by
  cases st <;> simp [LinkState.armedUp]

theorem owedParkReport_eq_parkServed (l : LinkId) (s : State) : owedParkReport l s = s.parkServed l := by
  unfold owedParkReport State.parkServed
  dsimp only
  simp only [parkLink_eq_linked, carries_iff]
  rfl

theorem parkOrOwe_eq_restOrdered (l : LinkId) (s : State) : parkOrOwe l s = s.restOrdered l := by
  unfold parkOrOwe State.restOrdered
  dsimp only
  simp only [parkLink_eq_linked, carries_iff]
  by_cases harmed : (s.link l).state = .armed
  · simp [harmed]
  · by_cases hup : (s.link l).state = .active ∨ (s.link l).state = .slipped
    · cases hop : (s.link l).op with
      | none => simp [harmed, hup]
      | some o =>
        simp only [harmed, hup, if_false, if_true, Option.isSome_some, false_or, reduceCtorEq, and_false]
        rfl
    · simp [harmed, hup]

theorem parkAll_eq (s : State) : parkAll s = [LinkId.feed, .lam, .slit, .xcut].foldl State.restOrdered s := by
  unfold parkAll allLinks
  simp only [List.foldl_cons, List.foldl_nil, parkOrOwe_eq_restOrdered]

/-- The last steps of a start that fails, once every link has been ordered to rest (R143). -/
theorem startFailure_ends {s : State} (h : s.line.state = .stopped) :
    retarget (passLevel .lineState (raiseNotice .lineStartFailed s).lineUp (raiseNotice .lineStartFailed s)) =
      ((s.noticed 19).passed 0 false).steered := by
  have hdown : (s.noticed 19).lineUp = false := by
    rw [State.lineUp, State.noticed, h]
    rfl
  rw [retarget_eq_steered, raiseNotice_eq_noticed _ _ rfl, passLevel_eq_passed .lineState _ _ (fun _ => rfl)]
  exact congrArg (fun v => ((s.noticed 19).passed 0 v).steered) hdown

theorem startFailure_eq_startFailed (s : State) : startFailure s = s.startFailed := by
  have hrest : dropWakes (s.setLine { s.line with state := .stopped, go := false }) = { s with line := { s.line with
      state := .stopped, go := false, owed := s.line.owed.map (fun o => if o = .wake then .nothing else o) } } := rfl
  unfold startFailure State.startFailed
  dsimp only
  rw [startFailure_ends (by simp [parkAll, allLinks, parkOrOwe_state, dropWakes]), parkAll_eq, hrest]

theorem askerComplete_eq_completedAt (l : LinkId) (s : State) : askerComplete l s = s.completedAt l := by
  cases l with
  | feed => rfl
  | lam => exact lamComplete_eq_lamCompleted s
  | slit => exact moveComplete_eq_moveCompleted s
  | xcut => exact cutComplete_eq_cutCompleted s

theorem askerFail_eq_failedAt (l : LinkId) (s : State) : askerFail l s = s.failedAt l := by
  cases l with
  | feed => rfl
  | lam => exact lamFail_eq_lamFailed s
  | slit => exact moveFail_eq_moveFailed s
  | xcut => exact cutFail_eq_cutFailed s

theorem completeOp_eq (l : LinkId) (s : State) :
    completeOp l s = ((dropOp l s).parkServed l).completedAt l := by
  rw [completeOp, askerComplete_eq_completedAt, owedParkReport_eq_parkServed]

theorem reportFailure_eq (l : LinkId) (s : State) : reportFailure l s = (s.parkServed l).failedAt l := by
  rw [reportFailure, askerFail_eq_failedAt, owedParkReport_eq_parkServed]

/-- The failure of an operation, reported where one was in flight (R164, R171). -/
theorem failing_eq (l : LinkId) (op : Option LinkOp) (s : State) :
    (if op.isSome then reportFailure l s else s) = s.failing l op := by
  rw [State.failing, reportFailure_eq]
  cases op <;> rfl

end Sys2Proof.Machine
end

section
/-! Encoder steps (O4, O5): an advance as the statements describe it, what is due at an odometer value, and what each item due
does. -/

namespace Sys2Proof.Machine

/-! ### The arrival at the next odometer value (R1, R3, R13, R14) -/

theorem syncPoint_any_iff (s : State) (o : Nat) :
    s.map.entries.any (s.setTracker { s.tracker with odometer := o }).tracker.syncPoint = true ↔ s.SyncAt o := by
  have htracker : (s.setTracker { s.tracker with odometer := o }).tracker = { s.tracker with odometer := o } := rfl
  rw [htracker, List.any_eq_true]
  unfold State.SyncAt Tracker.syncPoint
  refine exists_congr fun e => and_congr_right fun _ => ?_
  dsimp only
  cases s.tracker.syncMode <;> simp [MapEntry.tail]

/-- The web as it arrives at the next odometer value, with the SYNC pulse that is given there. -/
theorem arrive_eq {s : State} {pulse : Timer} (h : s.pulseAt (s.tracker.odometer + 1) pulse) :
    syncCrossings s.map.entries (s.setTracker { s.tracker with odometer := s.tracker.odometer + 1 }) = s.arriving pulse := by
  obtain ⟨hsync, hnone⟩ := h
  unfold syncCrossings
  by_cases hat : s.SyncAt (s.tracker.odometer + 1)
  · obtain rfl := hsync hat
    rw [if_pos ((syncPoint_any_iff s _).2 hat)]
    rfl
  · obtain rfl := hnone hat
    rw [if_neg (fun hany => hat ((syncPoint_any_iff s _).1 hany))]
    rfl

theorem leavesWindows_iff (s : State) : s.leavesWindows = true ↔ s.LeftToAMark := by
  unfold State.leavesWindows State.markBehind State.LeftToAMark
  simp

/-- An advance takes what is due in an order in which each owner's items keep theirs (R9, R10), and ends, unless crossings are
left to a mark (R3, log 25). -/
theorem advance_eq {s : State} {pulse : Timer} (h : s.pulseAt (s.tracker.odometer + 1) pulse) :
    ∃ order : List Due,
      (∀ o : Owner, order.filter (fun d => d.owner = o) = (s.arriving pulse).stepDue.filter (fun d => d.owner = o)) ∧
      let t := takeInTurn order (s.arriving pulse)
      advance s = if t.leavesWindows then t else endAdvance t := by
  obtain ⟨order, hfilter, hdrain⟩ := drain_takes (s.arriving pulse).stepDue.length (s.arriving pulse).stepDue
    (s.arriving pulse) le_rfl
  refine ⟨order, hfilter, ?_⟩
  dsimp only
  rw [← hdrain, ← arrive_eq h]
  rfl

theorem forwardStep_advance {s : State} (hdebt : s.tracker.debt = 0) (htop : s.tracker.odometer < 4294967295) :
    forwardStep s = advance s := by
  rw [forwardStep, if_neg (by omega), if_pos (by exact htop)]

theorem takeInTurn_tracker (order : List Due) (s : State) : (takeInTurn order s).tracker = s.tracker := by
  induction order generalizing s with
  | nil => rfl
  | cons d order ih =>
    exact (ih _).trans (by simp)

/-- Of items with one owner the order is given. -/
theorem order_of_one_owner {order due : List Due} {q : Owner} (hdue : ∀ d ∈ due, d.owner = q)
    (h : ∀ o : Owner, order.filter (fun d => d.owner = o) = due.filter (fun d => d.owner = o)) : order = due := by
  have hall : ∀ d ∈ order, d.owner = q := by
    intro d hd
    have hmem : d ∈ due.filter (fun x => x.owner = d.owner) := by
      rw [← h d.owner]
      exact List.mem_filter.2 ⟨hd, by simp⟩
    exact hdue d (List.mem_filter.1 hmem).1
  have hself (xs : List Due) (hxs : ∀ d ∈ xs, d.owner = q) : xs.filter (fun d => d.owner = q) = xs :=
    List.filter_eq_self.2 fun d hd => by simpa using hxs d hd
  rw [← hself order hall, h q, hself due hdue]

/-- A step on which the items of one owner are due, and nothing else. -/
theorem forwardStep_meets {s a : State} {d : Due} {rest : List Due} (h : Meets (d :: rest) s a)
    (howner : ∀ x ∈ rest, x.owner = d.owner) : forwardStep s = takeInTurn rest (takeDue d a) := by
  obtain ⟨⟨hdebt, htop⟩, ⟨pulse, hpulse, rfl⟩, hdue⟩ := h
  have hstep : (s.arriving pulse).stepDue = d :: rest := hdue
  obtain ⟨order, hfilter, hadvance⟩ := advance_eq hpulse
  rw [hstep] at hfilter
  obtain rfl := order_of_one_owner (q := d.owner) (by simpa using howner) hfilter
  rw [forwardStep_advance hdebt (by omega), hadvance]
  have hend : endAdvance (takeInTurn (d :: rest) (s.arriving pulse)) = takeInTurn (d :: rest) (s.arriving pulse) := by
    refine endAdvance_below _ ?_
    rw [takeInTurn_tracker]
    show s.tracker.odometer + 1 ≠ 4294967295
    omega
  rw [hend, ite_self]
  rfl

theorem exec_forward (s : State) : exec .encoderForwardStep s = .next (forwardStep s) := rfl

/-! ### What is due -/

theorem pointDue_of_mem_due {s : State} {t : Target} {p : Point} (h : Due.point t p ∈ s.due) : s.pointDue t p = true := by
  simp only [State.due, List.mem_append, List.mem_flatMap] at h
  rcases h with h | ⟨e, -, h⟩
  · split at h <;> simp at h
  · simp only [State.dueOf, List.mem_append, List.mem_map, List.mem_filter] at h
    rcases h with ⟨q, ⟨-, hq⟩, heq⟩ | ⟨c, ⟨hc, hdue⟩, heq⟩
    · obtain ⟨rfl, rfl⟩ := Due.point.inj heq
      exact hq
    · obtain ⟨rfl, rfl⟩ := Due.point.inj heq
      exact List.any_eq_true.2 ⟨c, hc, hdue⟩

theorem mem_due_of_pointDue {s : State} {t : Target} {e : MapEntry} {p : Point} (he : s.entry t = some e)
    (h : s.pointDue t p = true) : Due.point t p ∈ s.due := by
  obtain rfl := entry_named he
  refine List.mem_append_right _ (List.mem_flatMap.2 ⟨e, List.mem_of_find?_eq_some he, ?_⟩)
  by_cases hp : p = .cutPosition
  · subst hp
    obtain ⟨c, hc, hdue⟩ := List.any_eq_true.1 (show s.cut.xcut.any _ = true from h)
    exact List.mem_append_right _ (List.mem_map.2 ⟨c, List.mem_filter.2 ⟨hc, hdue⟩, rfl⟩)
  · refine List.mem_append_left _ (List.mem_map.2 ⟨p, List.mem_filter.2 ⟨?_, h⟩, rfl⟩)
    cases p <;> simp [ownerPoints] at hp ⊢

/-- What is due of an entry is what stands at the odometer value. -/
theorem mem_due_iff {s : State} {t : Target} {e : MapEntry} (he : s.entry t = some e) (p : Point) :
    Due.point t p ∈ s.due ↔ s.pointDue t p = true := ⟨pointDue_of_mem_due, mem_due_of_pointDue he⟩

theorem stepDue_subset (s : State) : s.stepDue ⊆ s.due := by
  unfold State.stepDue
  split
  · exact List.filter_subset_self _
  · exact List.Subset.refl _

/-- An item that a step meets is taken. -/
theorem takeDue_of_meets {s a : State} {t : Target} {p : Point} {due : List Due} (h : Meets due s a) (hmem : .point t p ∈ due) :
    takeDue (.point t p) a = takePoint t p a := by
  have hdue := pointDue_of_mem_due (stepDue_subset a (h.due ▸ hmem))
  rw [takeDue, if_pos hdue]

theorem takeDue_of_mem {s : State} {t : Target} {p : Point} (h : Due.point t p ∈ s.due) :
    takeDue (.point t p) s = takePoint t p s := by
  rw [takeDue, if_pos (pointDue_of_mem_due h)]

/-- A step that meets one point of an entry and nothing else. -/
theorem forwardStep_point {s a : State} {t : Target} {p : Point} (h : Meets [.point t p] s a) :
    forwardStep s = takePoint t p a := by
  rw [forwardStep_meets h (by simp), takeDue_of_meets h (by simp)]
  rfl

/-- What the arrival leaves as it was. -/
theorem Meets.blocks {due : List Due} {s a : State} (h : Meets due s a) :
    a.map = s.map ∧ a.plans = s.plans ∧ a.reg = s.reg ∧ a.lam = s.lam ∧ a.cut = s.cut ∧ a.links = s.links ∧
      a.line = s.line ∧ a.hold = s.hold ∧ a.ports = s.ports ∧ a.busy = s.busy ∧ a.notices = s.notices ∧
      a.tracker.zones = s.tracker.zones ∧ a.tracker.odometer = s.tracker.odometer + 1 := by
  obtain ⟨-, ⟨pulse, -, rfl⟩, -⟩ := h
  exact ⟨rfl, rfl, rfl, rfl, rfl, rfl, rfl, rfl, rfl, rfl, rfl, rfl, rfl⟩

/-! ### The crossing values of R7's table -/

theorem headAt_eq_iff (e : MapEntry) (d o : Nat) (hoffset : -100 ≤ e.offset) (hd : 100 ≤ d) :
    e.headAt d = o ↔ (o : Int) = (e.head : Int) + e.offset + d := by
  unfold MapEntry.headAt shift
  push_cast
  omega

theorem tailAt_eq_iff (e : MapEntry) (d o : Nat) (hoffset : -100 ≤ e.offset) (hd : 100 ≤ d) :
    e.tailAt d = o ↔ (o : Int) = (e.head : Int) + e.length + e.offset + d := by
  unfold MapEntry.tailAt MapEntry.tail shift
  push_cast
  omega

/-- A point of the entry's own is due where it stands at its crossing value, while it is tracked. -/
theorem pointDue_eq_crossing {s : State} {t : Target} {e : MapEntry} (he : s.entry t = some e) {p : Point}
    (hp : p ≠ .deadline ∧ p ≠ .cutPosition) :
    s.pointDue t p = true ↔ e.crossing s.tracker.zones p = some s.tracker.odometer := by
  obtain ⟨hd, hc⟩ := hp
  cases p <;> simp_all [State.pointDue]

theorem crossingsFollowTheTable : CrossingsFollowTheTable := by
  intro s e hnames he hoffset hwindow hnip hcommit hslit hknife
  have hentry := entry_of_mem hnames he ((named_iff_target e.target e).2 rfl)
  have hdue {p : Point} (hp : p ≠ .deadline ∧ p ≠ .cutPosition) :
      Due.point e.target p ∈ s.due ↔ e.crossing s.tracker.zones p = some s.tracker.odometer :=
    (mem_due_iff hentry p).trans (pointDue_eq_crossing hentry hp)
  have hhead (d : Nat) (hd : 100 ≤ d) := headAt_eq_iff e d s.tracker.odometer hoffset hd
  have htail (d : Nat) (hd : 100 ≤ d) := tailAt_eq_iff e d s.tracker.odometer hoffset hd
  refine ⟨?_, ?_, ?_, ?_, ?_, ?_, ?_, ?_, ?_, ?_, ?_, ?_⟩
  · refine (hdue (by simp)).trans ?_
    simp only [MapEntry.crossing, Option.ite_none_right_eq_some, Option.some.injEq]
    exact and_congr_right fun _ => by omega
  · refine (hdue (by simp)).trans ?_
    simp only [MapEntry.crossing, Option.bind_eq_some_iff, Option.ite_none_right_eq_some, Option.some.injEq, Option.mem_def]
    refine exists_congr fun w => and_congr_right fun hw => and_congr_right fun _ => ?_
    have hle := hwindow w hw
    omega
  · refine (hdue (by simp)).trans ?_
    simp only [MapEntry.crossing, Option.bind_eq_some_iff, Option.ite_none_right_eq_some, Option.some.injEq, Option.mem_def]
    exact exists_congr fun w => and_congr_right fun hw => and_congr_right fun _ => by omega
  · refine (hdue (by simp)).trans ?_
    simp only [MapEntry.crossing, Option.ite_none_right_eq_some, Option.some.injEq, hhead _ hnip]
  · refine (hdue (by simp)).trans ?_
    simp only [MapEntry.crossing, Option.ite_none_left_eq_some, Option.some.injEq, htail _ hnip, ne_eq]
  · refine (hdue (by simp)).trans ?_
    simp only [MapEntry.crossing, Option.ite_none_right_eq_some, Option.some.injEq, hhead _ hcommit]
  · refine (hdue (by simp)).trans ?_
    simp only [MapEntry.crossing, Option.ite_none_right_eq_some, Option.some.injEq, hhead _ hslit]
  · refine (hdue (by simp)).trans ?_
    simp only [MapEntry.crossing, Option.ite_none_left_eq_some, Option.some.injEq, htail _ hslit, ne_eq]
  · refine (hdue (by simp)).trans ?_
    simp only [MapEntry.crossing, Option.ite_none_right_eq_some, Option.some.injEq, hhead _ hknife]
  · refine (hdue (by simp)).trans ?_
    simp only [MapEntry.crossing, Option.ite_none_left_eq_some, Option.some.injEq, htail _ hknife, Bool.not_eq_true]
  · refine (mem_due_iff hentry _).trans ?_
    simp [State.pointDue]
  · refine (mem_due_iff hentry _).trans ?_
    simp [State.pointDue]

theorem stepsLeaveWindowsToAMark : StepsLeaveWindowsToAMark := by
  intro s
  have hwindow : (fun d : Due => d.owner == .reg) =
      fun d => match d with | .point _ .windowOpen => true | .point _ .windowClose => true | _ => false := by
    funext d
    cases d with
    | film => rfl
    | point t p => cases p <;> rfl
  refine ⟨?_, ?_⟩
  · exact congrArg (fun p => s.due.filter p) hwindow
  · have hmark : s.markBehind = true ↔ s.pending.head? = some .mark := by
      simp [State.markBehind]
    have hothers : (fun d : Due => d.owner != .reg) = fun d =>
        !(match d with | .point _ .windowOpen => true | .point _ .windowClose => true | _ => false) := by
      funext d
      exact congrArg (fun b => !b) (congrFun hwindow d)
    exact if_congr hmark (congrArg (fun p => s.due.filter p) hothers) rfl

/-- Settles O5: a point is due where its entry's crossing value is the odometer's, and the window crossings are left where a mark
waits behind the step. -/
theorem duePointsStandAtTheirCrossingValues : Obligations.DuePointsStandAtTheirCrossingValues :=
  ⟨crossingsFollowTheTable, stepsLeaveWindowsToAMark⟩

/-! ### The steps that move no odometer, and any advance -/

theorem debtAndTheOdometersTop : DebtAndTheOdometersTop := by
  intro s
  refine ⟨fun h => ?_, fun h => ⟨_, ?_, faultHold_reported .webReverse noDetail s⟩, fun h => ?_,
    fun hdebt h => ⟨_, ?_, faultHold_reported .odometer noDetail s⟩⟩
  · exact congrArg Host.Outcome.next (if_pos h)
  · exact congrArg Host.Outcome.next (if_neg (Nat.not_lt.2 h))
  · exact congrArg Host.Outcome.next (if_pos h)
  · refine congrArg Host.Outcome.next ?_
    rw [forwardStep, if_neg (by omega), if_neg (show ¬ s.tracker.odometer < Config.odometerTop from Nat.not_lt.2 h)]

theorem endAdvance_over (s : State) : AdvanceOver s (endAdvance s) := by
  unfold AdvanceOver endAdvance
  by_cases h : s.tracker.odometer = 4294967295
  · rw [if_pos h, if_pos (by exact h)]
    exact faultHold_reported .odometer noDetail s
  · rw [if_neg h, if_neg (by exact h)]

theorem quietAdvanceMovesTheOdometer : QuietAdvanceMovesTheOdometer := by
  intro s pulse hdebt htop hpulse hquiet
  obtain ⟨order, hfilter, hadvance⟩ := advance_eq hpulse
  rw [hquiet] at hfilter
  obtain rfl := order_of_one_owner (q := .map) (by simp) hfilter
  have hstep : forwardStep s = if (s.arriving pulse).leavesWindows then s.arriving pulse else endAdvance (s.arriving pulse) :=
    (forwardStep_advance hdebt htop).trans hadvance
  refine ⟨fun h => ?_, fun hat hleft => ⟨endAdvance (s.arriving pulse), ?_, ?_⟩⟩
  · rw [exec_forward, hstep]
    rcases h with hbelow | hleft
    · rw [endAdvance_below _ (by show s.tracker.odometer + 1 ≠ 4294967295; omega), ite_self]
    · rw [if_pos ((leavesWindows_iff _).2 hleft)]
  · rw [exec_forward, hstep, if_neg (fun h => hleft ((leavesWindows_iff _).1 h))]
  · have hover := endAdvance_over (s.arriving pulse)
    rwa [AdvanceOver, if_pos (show (s.arriving pulse).tracker.odometer = 4294967295 from hat)] at hover

theorem advancesTakeWhatIsDue : AdvancesTakeWhatIsDue := by
  intro s pulse hdebt htop hpulse
  obtain ⟨order, hfilter, hadvance⟩ := advance_eq hpulse
  have hstep := (forwardStep_advance hdebt htop).trans hadvance
  refine ⟨order, hfilter, fun hleft => ?_, fun hleft => ⟨endAdvance (takeInTurn order (s.arriving pulse)), ?_, endAdvance_over _⟩⟩
  · exact congrArg Host.Outcome.next (hstep.trans (if_pos ((leavesWindows_iff _).2 hleft)))
  · exact congrArg Host.Outcome.next (hstep.trans (if_neg fun h => hleft ((leavesWindows_iff _).1 h)))

end Sys2Proof.Machine
end

section
/-! What a scrap claim leaves of the entries and the cut entries, and a window that closes unread (R33, R68, R72, R73, R77). -/

namespace Sys2Proof.Machine

/-! ### Entries looked up -/

theorem modifyEntry_entry_other {s : State} {t x : Target} {f : MapEntry → MapEntry} (hf : ∀ e, (f e).target = e.target)
    (h : x ≠ t) : (s.modifyEntry t f).entry x = s.entry x := by
  have hnamed (e : MapEntry) (he : e.named t = true) : e.named x = false := by
    rw [named_iff_target] at he
    rw [Bool.eq_false_iff, ne_eq, named_iff_target, he]
    exact Ne.symm h
  rw [State.entry, State.entry, State.modifyEntry_entries, updateEntry]
  induction s.map.entries with
  | nil => rfl
  | cons e es ih =>
    rw [List.map_cons, List.find?_cons, List.find?_cons, ih]
    split_ifs with he
    · have hfe : (f e).named t = true := by rwa [named_iff_target, hf e, ← named_iff_target]
      rw [hnamed e he, hnamed (f e) hfe]
    · rfl

/-- What of a cut entry a conversion leaves: all but its kind (R111). -/
def CutEntry.mark (c : CutEntry) : Nat × Target × CutStep := (c.position, c.owner, c.step)

/-- An entry that carries a scrap reason stays as it is, and every cut entry but for its kind (R33, R111, R112). -/
structure State.Spares (s t : State) : Prop where
  scrapped : ∀ x e, s.entry x = some e → e.scrap ≠ none → t.entry x = some e
  cuts : t.cut.xcut.map CutEntry.mark = s.cut.xcut.map CutEntry.mark

theorem State.Spares.refl (s : State) : s.Spares s := ⟨fun _ _ he _ => he, rfl⟩

theorem State.Spares.trans {s t u : State} (h : s.Spares t) (k : t.Spares u) : s.Spares u :=
  ⟨fun x e he hscrap => k.scrapped x e (h.scrapped x e he hscrap) hscrap, k.cuts.trans h.cuts⟩

theorem State.Spares.of_map {s t : State} (hmap : t.map = s.map)
    (hcuts : t.cut.xcut.map CutEntry.mark = s.cut.xcut.map CutEntry.mark) : s.Spares t :=
  ⟨fun x e he _ => by rwa [State.entry, hmap], hcuts⟩

/-! ### The parts of a scrap claim -/

theorem raiseNotice_entry (n : Notice) (s : State) (x : Target) : (raiseNotice n s).entry x = s.entry x :=
  entry_of_entries_eq (by simp) x

theorem appendReprint_entry (r : ReprintRecord) (s : State) (x : Target) : (appendReprint r s).entry x = s.entry x := by
  unfold appendReprint
  split_ifs
  · exact raiseNotice_entry _ _ x
  · exact raiseNotice_entry _ _ x

/-- A claim marks the entry it names and no other (R33). -/
theorem markScrap_entry {s : State} {t : Target} {e : MapEntry} (he : s.entry t = some e) (reason : ScrapReason) :
    (markScrap t reason s).entry t = some { e with scrap := e.scrap.or (some reason) } := by
  unfold markScrap
  rw [he]
  dsimp only
  cases hscrap : e.scrap with
  | some old =>
    rw [if_pos (by simp), he]
    cases e
    simp_all
  | none =>
    rw [if_neg (by simp), raiseNotice_entry, appendReprint_entry]
    exact modifyEntry_entry_self (fun y : MapEntry => { y with scrap := some reason }) (fun _ => rfl) he

theorem markScrap_entry_other {t x : Target} (h : x ≠ t) (reason : ScrapReason) (s : State) :
    (markScrap t reason s).entry x = s.entry x := by
  unfold markScrap
  split
  · rfl
  · split_ifs
    · rfl
    · rw [raiseNotice_entry, appendReprint_entry]
      exact modifyEntry_entry_other (f := fun y : MapEntry => { y with scrap := some reason }) (fun _ => rfl) h

theorem markScrap_spares (t : Target) (reason : ScrapReason) (s : State) : s.Spares (markScrap t reason s) := by
  refine ⟨fun x e he hscrap => ?_, by simp⟩
  by_cases hx : x = t
  · subst hx
    obtain ⟨old, hold⟩ := Option.ne_none_iff_exists'.1 hscrap
    rw [markScrap_entry he, hold]
    cases e
    simp_all
  · rw [markScrap_entry_other hx, he]

theorem slitAttempt_xcut (s : State) : (slitAttempt s).cut.xcut = s.cut.xcut := by
  rw [slitAttempt_eq_slitIssued]
  unfold State.slitIssued
  split
  · rfl
  · dsimp only
    split_ifs <;> rfl

theorem slitAttempt_spares (s : State) : s.Spares (slitAttempt s) := .of_map (by simp) (by rw [slitAttempt_xcut])

theorem convertCuts_spares (t : Target) (s : State) : s.Spares (convertCuts t s) := by
  refine .of_map (by simp) ?_
  unfold convertCuts
  dsimp only
  simp only [State.setCut_cut, List.map_map]
  refine List.map_congr_left fun c _ => ?_
  rw [Function.comp_apply]
  split_ifs <;> rfl

theorem setCut_spares {s : State} {x : CutControl} (h : x.xcut = s.cut.xcut) : s.Spares (s.setCut x) :=
  .of_map rfl (congrArg (List.map CutEntry.mark) h)

theorem disposeOver_spares (i : Nat) (ts : List Target) (s : State) : s.Spares (disposeOver i ts s) := by
  induction ts generalizing s with
  | nil =>
    have hdrop : s.Spares (s.setCut { s.cut with slit := s.cut.slit.eraseIdx i }) := setCut_spares rfl
    exact hdrop.trans (slitAttempt_spares _)
  | cons t ts ih =>
    have hclaim (u : State) : u.Spares (convertCuts t (markScrap t .slitLate u)) :=
      (markScrap_spares t .slitLate u).trans (convertCuts_spares t _)
    have hhand (d : Nat) : s.Spares (handOn i t d s) := setCut_spares rfl
    unfold disposeOver
    dsimp only
    split
    · exact ih s
    · split_ifs
      · exact ih s
      · exact (hhand _).trans ((hclaim _).trans (ih _))
      · exact (hhand _).trans (slitAttempt_spares _)
      · exact (hclaim s).trans ((slitAttempt_spares _).trans (ih _))

theorem disposeSlit_spares (t : Target) (s : State) : s.Spares (disposeSlit t s) := by
  unfold disposeSlit
  split
  · exact .refl s
  · exact disposeOver_spares _ _ s

theorem convertPanel_spares (t : Target) (s : State) : s.Spares (convertPanel t s) :=
  (convertCuts_spares t s).trans ((disposeSlit_spares t _).trans (slitAttempt_spares _))

/-! ### A scrap claim whole -/

theorem scrapClaim_spares (t : Target) (reason : ScrapReason) (s : State) : s.Spares (scrapClaim t reason s) := by
  unfold scrapClaim
  split
  · exact .refl s
  · split_ifs
    · exact .refl s
    · exact (markScrap_spares t reason s).trans (convertPanel_spares t _)
    · exact markScrap_spares t reason s

/-- The entry claimed carries the reason, unless it carried one before (R33). -/
theorem scrapClaim_entry {s : State} {t : Target} {e : MapEntry} (he : s.entry t = some e) (reason : ScrapReason) :
    (scrapClaim t reason s).entry t = some { e with scrap := e.scrap.or (some reason) } := by
  have hmark := markScrap_entry he reason
  unfold scrapClaim
  rw [he]
  dsimp only
  cases hscrap : e.scrap with
  | some old =>
    rw [if_pos (by simp), he]
    cases e
    simp_all
  | none =>
    rw [hscrap] at hmark
    rw [if_neg (by simp)]
    split_ifs
    · exact (convertPanel_spares t _).scrapped t _ hmark (by simp)
    · exact hmark

/-- What a claim may change: the map, Cut Control, the links and the notices. -/
theorem scrapClaim_eq_blocks (t : Target) (reason : ScrapReason) (s : State) : scrapClaim t reason s =
    { s with
      map := (scrapClaim t reason s).map, cut := (scrapClaim t reason s).cut, links := (scrapClaim t reason s).links
      notices := (scrapClaim t reason s).notices } := by
  obtain ⟨htracker, hplans, hreg, hlam, hline, hhold, hports, hbusy, htick, hpending⟩ := scrapClaim_frame t reason s
  generalize scrapClaim t reason s = u at *
  cases u
  simp_all

/-! ### The ratio in use -/

theorem find?_places (s : State) (x : Target) :
    (s.entry x).map MapEntry.place = s.places.find? (fun p => decide (p.target = x)) := by
  have hnamed : MapEntry.named x = (fun p : Place => decide (p.target = x)) ∘ MapEntry.place := by
    funext e
    rw [Function.comp_apply, Bool.eq_iff_iff, named_iff_target, decide_eq_true_iff]
    rfl
  rw [State.entry, hnamed, ← List.find?_map]
  rfl

/-- The ratio in use is read off the entries' places (R148). -/
theorem ratioAtNip_of_places {s t : State} (hnip : t.line.atNip = s.line.atNip) (hplaces : t.places = s.places)
    (hplans : t.plans = s.plans) : t.ratioAtNip = s.ratioAtNip := by
  have hplan (x : Target) : (t.entry x).map MapEntry.place = (s.entry x).map MapEntry.place := by
    rw [find?_places, find?_places, hplaces]
  unfold State.ratioAtNip State.plan
  rw [hnip, hplans]
  cases s.line.atNip with
  | none => rfl
  | some x =>
    dsimp only
    have hx := hplan x
    cases hs : s.entry x with
    | none =>
      rw [hs, Option.map_none, Option.map_eq_none_iff] at hx
      rw [hx]
    | some y =>
      rw [hs, Option.map_some, Option.map_eq_some_iff] at hx
      obtain ⟨e, he, hplace⟩ := hx
      have hsame : e.plan = y.plan := congrArg Place.plan hplace
      rw [he]
      dsimp only
      rw [hsame]

/-! ### Settled reads (R77) -/

theorem gapsAfter_entries (before : Option MapEntry) (es : List MapEntry) :
    (gapsAfter before es).map EntryView.entry = es := by
  induction es generalizing before with
  | nil =>
    unfold gapsAfter
    rfl
  | cons e es ih =>
    unfold gapsAfter
    rw [List.map_cons, ih]

/-- An entry in the map has a view, with the gap before it. -/
theorem view_of_entry {s : State} {t : Target} {x : MapEntry} (hx : s.entry t = some x) :
    ∃ v ∈ s.gapped, v.entry = x ∧ s.view t = some v := by
  have hfind : (s.gapped.find? (fun v => v.entry.named t)).map EntryView.entry = some x := by
    rw [← hx, State.entry, State.gapped]
    conv_rhs => rw [← gapsAfter_entries none s.map.entries]
    rw [List.find?_map]
    rfl
  obtain ⟨v, hv, hentry⟩ := Option.map_eq_some_iff.1 hfind
  exact ⟨v, List.mem_of_find?_eq_some hv, hentry, by rw [State.view, State.views_eq_gapped, hv]⟩

theorem settleReads_settles {s : State} {t : Target} {x : MapEntry} (hx : s.entry t = some x) :
    ∃ v ∈ s.gapped, v.entry = x ∧ ∀ p, (settleReads t s).port p = (s.port p).settledBy v := by
  obtain ⟨v, hmem, hentry, hview⟩ := view_of_entry hx
  refine ⟨v, hmem, hentry, fun p => ?_⟩
  unfold settleReads
  rw [hview]
  exact PerPort.get_map _ _ p

/-! ### A window that closes unread (R68) -/

/-- The state in which an entry's window has closed, its scrap claimed under policy REQUIRED, before the lock state moves. -/
def unreadMarked (e : MapEntry) (s : State) : State :=
  let u := s.modifyEntry e.target (MapEntry.resolve .unread 0)
  if e.policy = .required then scrapClaim e.target .regUnread u else u

theorem closeCrossing_eq {s : State} {e : MapEntry} (he : s.entry e.target = some e) :
    closeCrossing e.target s = settleReads e.target (lockUnread e.target (unreadMarked e s)) := by
  unfold closeCrossing
  rw [he]
  rfl

theorem unreadMarked_entry {s : State} {e : MapEntry} (he : s.entry e.target = some e) :
    (unreadMarked e s).entry e.target = some { e with
      window := e.window.map (fun w => { w with status := .resolved }), regResult := some .unread, offset := 0
      scrap := if e.policy = .required then e.scrap.or (some .regUnread) else e.scrap } := by
  have hresolved := modifyEntry_entry_self (MapEntry.resolve .unread 0) (fun _ => rfl) he
  unfold unreadMarked
  dsimp only
  split_ifs
  · exact scrapClaim_entry hresolved .regUnread
  · exact hresolved

theorem unreadMarked_frame (e : MapEntry) (s : State) :
    (unreadMarked e s).tracker = s.tracker ∧ (unreadMarked e s).plans = s.plans ∧ (unreadMarked e s).reg = s.reg ∧
    (unreadMarked e s).lam = s.lam ∧ (unreadMarked e s).line = s.line ∧ (unreadMarked e s).hold = s.hold ∧
    (unreadMarked e s).ports = s.ports ∧ (unreadMarked e s).busy = s.busy ∧ (unreadMarked e s).freeTick = s.freeTick ∧
    (unreadMarked e s).pending = s.pending := by
  unfold unreadMarked
  dsimp only
  split_ifs <;> simp

theorem unreadMarked_places (e : MapEntry) (s : State) : (unreadMarked e s).places = s.places := by
  have hresolved : (s.modifyEntry e.target (MapEntry.resolve .unread 0)).places = s.places :=
    seen_modifyEntry e.target (MapEntry.resolve .unread 0) (fun _ => rfl) s
  unfold unreadMarked
  dsimp only
  split_ifs
  · rw [State.places, (scrapClaim_moves _ _ _).keepsCourses.seen]
    exact hresolved
  · exact hresolved

theorem unreadMarked_carries (e : MapEntry) (s : State) : s.Carries (unreadMarked e s) := by
  have hresolved : s.Carries (s.modifyEntry e.target (MapEntry.resolve .unread 0)) := .of_eq rfl
  unfold unreadMarked
  dsimp only
  split_ifs
  · exact hresolved.trans (scrapClaim_moves _ _ _).carries
  · exact hresolved

/-! ### The lock state after an UNREAD (R72, R73) -/

theorem setLock_reg (lock : LockState) (run : Nat) (s : State) :
    (setLock lock run s).reg = { s.reg with lock := lock, unreadRun := run } := by simp [setLock]

theorem loseLock_reg (t : Target) (s : State) : (loseLock t s).reg = { s.reg with lock := .lost, unreadRun := 2 } := by
  rw [← setLock_reg]
  simp [loseLock]

theorem lockUnread_lock (t : Target) (s : State) :
    ((lockUnread t s).reg.lock, (lockUnread t s).reg.unreadRun) = unreadLock s.reg.lock s.reg.unreadRun := by
  unfold lockUnread unreadLock
  cases s.reg.lock with
  | seeking =>
    dsimp only
    cases s.reg.unreadRun with
    | zero =>
      rw [if_pos rfl, setLock_reg]
      rfl
    | succ n =>
      rw [if_neg (by simp), loseLock_reg]
      rfl
  | locked => rw [setLock_reg]
  | slipping => rw [loseLock_reg]
  | lost => rw [setLock_reg]

/-- The lock state moves without a hold, or is lost (R73). -/
theorem lockUnread_cases (t : Target) (s : State) :
    (∃ lock run, lockUnread t s = setLock lock run s ∧ (lock = .lost → s.reg.lock = .lost)) ∨
      (lockUnread t s = loseLock t s ∧ s.reg.lock ≠ .lost) := by
  unfold lockUnread
  cases hlock : s.reg.lock with
  | seeking =>
    dsimp only
    split_ifs
    · exact .inl ⟨_, _, rfl, by simp⟩
    · exact .inr ⟨rfl, by simp⟩
  | locked => exact .inl ⟨_, _, rfl, by simp⟩
  | slipping => exact .inr ⟨rfl, by simp⟩
  | lost => exact .inl ⟨_, _, rfl, by simp⟩

theorem setLock_carries (lock : LockState) (run : Nat) (s : State) : s.Carries (setLock lock run s) := by
  have hset : s.Carries (s.setReg { s.reg with lock := lock, unreadRun := run }) := .of_eq rfl
  exact hset.trans (passLevel_carries .regLock _ _)

/-- A hold request depends on what it reads of Line Control, the Hold Unit and the places of the entries. -/
theorem HaltTaken.congr {s s' t t' : State} (h : HaltTaken s t) (hline : s'.line = s.line) (hratio : s'.ratioAtNip = s.ratioAtNip)
    (ht : t'.line = t.line) : HaltTaken s' t' := by
  unfold HaltTaken at h ⊢
  rw [ht, hline, hratio]
  exact h

theorem closeCrossing_unread {s : State} {e : MapEntry} (he : s.entry e.target = some e) :
    ClosedUnread e s (closeCrossing e.target s) := by
  obtain ⟨htracker, hplans, hreg, hlam, hline, hhold, hports, hbusy, htick, hpending⟩ := unreadMarked_frame e s
  have hplaces := unreadMarked_places e s
  have hcarries := unreadMarked_carries e s
  have hentry := unreadMarked_entry he
  rw [closeCrossing_eq he]
  generalize unreadMarked e s = u at *
  have hlocked : (lockUnread e.target u).entry e.target = u.entry e.target := entry_of_entries_eq (by simp) _
  refine ⟨_, ?_, rfl, ?_, fun hnot hlost => ?_, fun hkept => ?_, ?_, ?_⟩
  · rw [entry_of_entries_eq (s := lockUnread e.target u) (by simp), hlocked, hentry]
  · have hreg' : (settleReads e.target (lockUnread e.target u)).reg = (lockUnread e.target u).reg := by simp
    rw [hreg', lockUnread_lock, hreg]
  · have hlose : lockUnread e.target u = loseLock e.target u := by
      rcases lockUnread_cases e.target u with ⟨lock, run, heq, hlock⟩ | ⟨heq, -⟩
      · have hnow : lock = .lost := by
          have hreg' : (settleReads e.target (lockUnread e.target u)).reg = (lockUnread e.target u).reg := by simp
          rwa [hreg', heq, setLock_reg] at hlost
        exact absurd (hreg ▸ hlock hnow) hnot
      · exact heq
    rw [hlose]
    have hreported := faultHold_reported .regLost { panel := some e.target, link := none } (setLock .lost 2 u)
    obtain ⟨-, hfault, hhalt, -, hlatched⟩ := hreported
    have hratio : s.ratioAtNip = (setLock .lost 2 u).ratioAtNip := by
      refine ratioAtNip_of_places (by simp [hline]) ?_ (by simp [hplans])
      rw [← hplaces]
      exact (seen_of_entries (by simp)).symm
    refine ⟨hfault.congr (by simp [hhold]) (by simp [htracker]) (by simp [hline]) (by simp [hline]) (by simp [loseLock]),
      hhalt.congr (by simp [hline]) hratio (by simp [loseLock]), ?_⟩
    have hfrom : s.Latched (loseLock e.target u) 17 := hlatched.before (hcarries.trans (setLock_carries _ _ _))
    exact hfrom.carries (by decide) (.of_eq (by simp))
  · rcases lockUnread_cases e.target u with ⟨lock, run, heq, -⟩ | ⟨heq, hnot⟩
    · simp [heq, hhold, hline]
    · rcases hkept with hlost | hnow
      · exact absurd ((congrArg Registration.lock hreg).trans hlost) hnot
      · refine absurd ?_ hnow
        rw [heq, show (settleReads e.target (loseLock e.target u)).reg = (loseLock e.target u).reg by simp, loseLock_reg]
  · obtain ⟨v, hmem, hv, hsettled⟩ := settleReads_settles (hlocked.trans hentry)
    have hgapped : (settleReads e.target (lockUnread e.target u)).gapped = (lockUnread e.target u).gapped := by
      simp [State.gapped]
    refine ⟨v, by rwa [hgapped], hv, fun p => ?_⟩
    have hp : (lockUnread e.target u).ports = s.ports := by simp [hports]
    rw [hsettled p, State.port, hp, ← State.port]
  · have hall : ∀ t : State, t.tracker = s.tracker → t.plans = s.plans → t.lam = s.lam → t.busy = s.busy →
        t.freeTick = s.freeTick → t.pending = s.pending →
        t = { s with map := t.map, reg := t.reg, cut := t.cut, links := t.links, hold := t.hold, line := t.line
                     ports := t.ports, notices := t.notices } := by
      intro t h1 h2 h3 h4 h5 h6
      cases t
      simp_all
    exact hall _ (by simp [htracker]) (by simp [hplans]) (by simp [hlam]) (by simp [hbusy]) (by simp [htick]) (by simp [hpending])

end Sys2Proof.Machine
end

section
/-! What the crossings do, in the words of the statements (O4, O6, O10, O13): each owner's items, the film count, and steps that meet one
item or two. -/

namespace Sys2Proof.Machine

/-! ### The crossings in words -/

theorem printLineCrossing_eq (t : Target) (s : State) : printLineCrossing t s =
    let u := s.changed t (fun e => { e with phase := .onWeb })
    u.passed 5 (decide (u.map.entries.countP (fun e => e.phase = .queued) ≤ u.map.low)) := by
  rw [printLineCrossing, passLevel_eq_passed .queueLow _ _ (fun _ => rfl), State.modifyEntry_eq_changed]
  unfold State.queueLow queuedCount
  simp only [beq_eq_decide]
  rfl

theorem slitTailCrossing_eq (t : Target) (s : State) :
    slitTailCrossing t s = (s.changed t (fun e => { e with slitter := .past })).slitIssued := by
  rw [slitTailCrossing, slitAttempt_eq_slitIssued, State.modifyEntry_eq_changed]

theorem knifeTailCrossing_eq {s : State} {e : MapEntry} (he : s.entry e.target = some e) : knifeTailCrossing e.target s =
    let u := s.changed e.target (fun x => { x with tailCleared := true })
    if e.cutsPending = 0 then u.retired e.target else u := by
  have hcleared : (s.modifyEntry e.target (fun x => { x with tailCleared := true })).entry e.target =
      some { e with tailCleared := true } :=
    modifyEntry_entry_self (fun x : MapEntry => { x with tailCleared := true }) (fun _ => rfl) he
  rw [knifeTailCrossing, retireIfDone_eq, hcleared, State.modifyEntry_eq_changed]
  simp

/-! ### The film count (R83, R84, R98) -/

theorem filmStep_counts {s : State} (h : s.lam.remaining ≠ 1) : filmStep s = s.filmCounted := by
  unfold filmStep
  dsimp only
  rw [if_neg h, evalFilm_eq_filmChecked]
  rfl

theorem filmOut_eq (s : State) : ∃ h : State, FaultReported .filmOut
      { panel := ((s.map.entries.filter (fun e => e.nip = .inside)).map MapEntry.target).head?, link := none }
      (((s.map.entries.filter (fun e => e.nip = .inside)).map MapEntry.target).foldl (fun v t => v.claimed t .filmOut) s) h ∧
    filmOut s = h.decided := by
  refine ⟨_, faultHold_reported _ _ _, ?_⟩
  unfold filmOut
  dsimp only
  rw [transitionDecision_eq_decided]
  simp only [scrapClaim_eq_claimed, beq_eq_decide]

/-- The last of the film counted: the panels at the nip, the hold and the decision. -/
theorem filmStep_runsOut {s : State} (h : s.lam.remaining = 1) : ∃ f, FilmRanOut s f ∧ filmStep s = f.decided := by
  obtain ⟨f, hreported, hout⟩ := filmOut_eq s.filmCounted
  refine ⟨f, hreported, ?_⟩
  rw [← hout]
  unfold filmStep
  dsimp only
  rw [if_pos h, evalFilm_eq_filmChecked]
  rfl

theorem film_mem_due_iff (s : State) : Due.film ∈ s.due ↔ s.lam.nip = .closed ∧ 0 < s.lam.remaining := by
  have hfilm (e : MapEntry) : Due.film ∉ s.dueOf e := by
    simp [State.dueOf]
  have hentries : Due.film ∉ s.map.entries.flatMap s.dueOf := by
    simp [List.mem_flatMap, hfilm]
  rw [State.due, List.mem_append, or_iff_left hentries]
  by_cases h : s.drawsFilm = true
  · rw [if_pos h]
    simpa [State.drawsFilm] using h
  · rw [if_neg h]
    simpa [State.drawsFilm] using h

/-! ### Items due (O4) -/

theorem dueItemsHaveTheirEffect : DueItemsHaveTheirEffect := by
  intro s t
  dsimp only
  refine ⟨fun h => ?_, fun h => ?_, fun h => ?_, fun h => ?_, fun h => ?_, fun h => ?_, fun h => ?_, fun h => ?_,
    fun c rest hqueue hposition h => ?_, fun e he => ⟨fun p h => ?_, fun h => ?_, fun h => ?_, fun q hq h => ?_⟩, fun h => ?_⟩
  · rw [takeDue_of_mem h]
    exact printLineCrossing_eq t s
  · rw [takeDue_of_mem h]
    exact State.modifyEntry_eq_changed s t _
  · rw [takeDue_of_mem h]
    exact State.modifyEntry_eq_changed s t _
  · rw [takeDue_of_mem h]
    exact State.modifyEntry_eq_changed s t _
  · rw [takeDue_of_mem h]
    exact slitTailCrossing_eq t s
  · rw [takeDue_of_mem h]
    exact scrapClaim_eq_claimed t .slitLate s
  · rw [takeDue_of_mem h]
    exact nipHeadCrossing_eq t s
  · rw [takeDue_of_mem h]
    exact nipTailCrossing_eq t s
  · rw [takeDue_of_mem h]
    exact cutCrossing_eq_cutReached hqueue hposition
  · exact if_neg fun hdue => h (mem_due_of_pointDue he hdue)
  · obtain rfl := entry_named he
    rw [takeDue_of_mem h]
    exact closeCrossing_unread he
  · obtain rfl := entry_named he
    rw [takeDue_of_mem h]
    exact knifeTailCrossing_eq he
  · obtain rfl := entry_named he
    rw [takeDue_of_mem h]
    exact commitCrossing_eq he hq
  · obtain ⟨hnip, hfilm⟩ := (film_mem_due_iff s).1 h
    exact ⟨hnip, hfilm, fun hmore => filmStep_counts (by omega), filmStep_runsOut⟩

/-- Settles O4: an encoder step moves debt, the odometer and the SYNC output, and takes what is due. -/
theorem encoderStepsMoveTheWeb : Obligations.EncoderStepsMoveTheWeb :=
  ⟨debtAndTheOdometersTop, quietAdvanceMovesTheOdometer, advancesTakeWhatIsDue, dueItemsHaveTheirEffect⟩

/-! ### Steps that meet two items -/

/-- A step whose first item is the film and whose second a crossing of the same owner: where the crossing is still due after the
count, the count and then the crossing. -/
theorem forwardStep_film_point {s a : State} {t : Target} {p : Point} (h : Meets [.film, .point t p] s a) (hp : p.owner = .lam)
    (u : State) (hu : filmStep a = u) (hdue : (u.setFreeTick (u.freeTick + 1)).pointDue t p = true) :
    forwardStep s = takePoint t p (u.setFreeTick (u.freeTick + 1)) := by
  rw [forwardStep_meets h (by simpa [Due.owner] using hp)]
  show takeDue (.point t p) ((filmStep a).setFreeTick ((filmStep a).freeTick + 1)) = _
  rw [hu, takeDue, if_pos hdue]

end Sys2Proof.Machine
end

section
/-! The web's statements: marking crossings, the tail at the knife, the commit crossing (O6 to O9), and a window that closes unread
(O10). -/

namespace Sys2Proof.Machine

/-! ### A step that meets an item -/

theorem Meets.entry {due : List Due} {s a : State} (h : Meets due s a) (t : Target) : a.entry t = s.entry t :=
  entry_of_entries_eq (congrArg PanelMap.entries h.blocks.1) t

theorem Meets.carries {due : List Due} {s a : State} (h : Meets due s a) : s.Carries a := by
  obtain ⟨-, -, -, -, -, -, -, -, -, -, hnotices, -⟩ := h.blocks
  exact .of_eq hnotices

theorem exec_forward_point {s a : State} {t : Target} {p : Point} (h : Meets [.point t p] s a) :
    exec .encoderForwardStep s = .next (takePoint t p a) := by
  rw [exec_forward, forwardStep_point h]

/-! ### Marking crossings (O6) -/

theorem printLineCrossing_facts (t : Target) (a : State) :
    printLineCrossing t a = { a with map := (printLineCrossing t a).map, notices := (printLineCrossing t a).notices } ∧
      (printLineCrossing t a).map = { a.map with entries := a.entriesWith t (fun e => { e with phase := .onWeb }) } ∧
      (printLineCrossing t a).level .queueLow = decide
        ((printLineCrossing t a).map.entries.countP (fun e => e.phase == .queued) ≤ (printLineCrossing t a).map.low) := by
  refine ⟨?_, ?_, ?_⟩
  · rw [printLineCrossing_eq]
    rfl
  · rw [printLineCrossing_eq]
    rfl
  · rw [printLineCrossing, passLevel_level _ _ _ (by decide)]
    simp only [passLevel_frame]
    rfl

/-- The head at the slitters and the deadline on the same advance (R106, R116). -/
theorem forwardStep_slitHead_deadline {s a : State} {t : Target} (h : Meets [.point t .slitHead, .point t .deadline] s a) :
    forwardStep s =
      ({ a.changed t (fun e => { e with slitter := .inside }) with freeTick := a.freeTick + 1 } : State).claimed t .slitLate := by
  have hdue : a.pointDue t .deadline = true :=
    pointDue_of_mem_due (stepDue_subset a (by simp [h.due]))
  rw [forwardStep_meets h (by simp [Due.owner, Point.owner]), takeDue_of_meets h (by simp)]
  have hstill : ((slitHeadCrossing t a).setFreeTick (a.freeTick + 1)).pointDue t .deadline = true := hdue
  show takeDue (.point t .deadline) ((slitHeadCrossing t a).setFreeTick (a.freeTick + 1)) = _
  rw [takeDue, if_pos hstill]
  show scrapClaim t .slitLate _ = _
  rw [scrapClaim_eq_claimed, slitHeadCrossing, State.modifyEntry_eq_changed]
  rfl

/-- Settles O6: the crossings that mark their entry. -/
theorem markingCrossings : Obligations.MarkingCrossings := by
  intro s a t
  refine ⟨fun h => ?_, fun h => ?_, fun h => ?_, fun h => ?_, fun h => ?_, fun h => ?_⟩
  · exact ⟨_, exec_forward_point h, printLineCrossing_facts t a⟩
  · rw [exec_forward_point h]
    exact congrArg Host.Outcome.next (State.modifyEntry_eq_changed a t _)
  · rw [exec_forward_point h]
    exact congrArg Host.Outcome.next (State.modifyEntry_eq_changed a t _)
  · rw [exec_forward_point h]
    exact congrArg Host.Outcome.next (State.modifyEntry_eq_changed a t _)
  · rw [exec_forward, forwardStep_slitHead_deadline h]
  · rw [exec_forward_point h]
    exact congrArg Host.Outcome.next (slitTailCrossing_eq t a)

/-! ### Retirement (O7) -/

/-- Under distinct slots an entry removed by its name leaves the entries of the other slots. -/
theorem removeEntry_updateEntry {t : Target} {e : MapEntry} {f : MapEntry → MapEntry} (hf : ∀ x, (f x).target = x.target)
    (hnamed : e.named t = true) {es : List MapEntry} (hmem : e ∈ es) (hslots : (es.map MapEntry.slot).Nodup) :
    removeEntry t (updateEntry t f es) = es.filter (fun x => x.slot ≠ e.slot) := by
  have hslot {x : MapEntry} (hx : x.named t = true) : x.slot = e.slot := by
    simp only [MapEntry.named, Bool.and_eq_true, beq_iff_eq] at hx hnamed
    rw [hx.1, hnamed.1]
  unfold removeEntry updateEntry
  induction es with
  | nil => cases hmem
  | cons x es ih =>
    obtain ⟨hfresh, hrest⟩ := List.nodup_cons.1 hslots
    have hother {y : MapEntry} (hy : y ∈ es) : y.slot ≠ x.slot := fun h => hfresh (h ▸ List.mem_map_of_mem hy)
    rw [List.map_cons]
    by_cases hx : x.named t = true
    · have hfx : (f x).named t = true := by rwa [named_iff_target, hf x, ← named_iff_target]
      have hkeep : es.map (fun y => if y.named t = true then f y else y) = es :=
        (List.map_congr_left fun y hy => if_neg fun hy' => hother hy ((hslot hy').trans (hslot hx).symm)).trans (List.map_id' es)
      rw [if_pos hx, List.eraseP_cons_of_pos hfx, hkeep, List.filter_cons_of_neg (by simp [hslot hx])]
      exact (List.filter_eq_self.2 fun y hy => by simpa [← hslot hx] using hother hy).symm
    · have hne : e ≠ x := fun h => hx (h ▸ hnamed)
      have hmem' : e ∈ es := (List.mem_cons.1 hmem).resolve_left hne
      rw [if_neg hx, List.eraseP_cons_of_neg hx, ih hmem' hrest,
        List.filter_cons_of_pos (by simpa using (hother hmem').symm)]

/-- Where no request is PLACED on the entry that leaves, no search runs, and the map stays (R91). -/
theorem lamRemoved_map {t : Target} {s : State} (h : s.lam.request ≠ .placed t) : (lamRemoved t false s).map = s.map := by
  unfold lamRemoved
  dsimp only
  rw [if_neg (by simp [h])]
  simp

theorem appendOutcome_map (r : OutcomeRecord) (s : State) : (appendOutcome r s).map =
    { s.map with outcomes := if s.map.outcomes.length < 32 then s.map.outcomes ++ [r] else s.map.outcomes } := by
  rw [appendOutcome_eq]
  split_ifs <;> rfl

theorem retire_map {s : State} {t : Target} {e : MapEntry} (he : s.entry t = some e) (h : s.lam.request ≠ .placed t) :
    (retire t s).map = { s.map with
      entries := removeEntry t s.map.entries
      outcomes := if s.map.outcomes.length < 32 then s.map.outcomes ++ [e.outcomeRecord] else s.map.outcomes } := by
  unfold retire
  rw [he]
  have hlam : ((appendOutcome e.outcomeRecord s).dropEntry t).lam.request ≠ .placed t := by simpa using h
  have hmap := lamRemoved_map hlam
  simp only [evalMapLevels_frame, raiseNotice_frame, State.dropRef_frame, cutRemoved_frame, hmap]
  rw [State.dropEntry, State.setMap_map, appendOutcome_map]

theorem retire_plans {s : State} {t : Target} {e : MapEntry} (he : s.entry t = some e) :
    (retire t s).plans = (s.dropRef e.plan).plans := by
  unfold retire
  rw [he]
  simp [State.dropRef, State.modifyPlan]

theorem retire_levels {s : State} {t : Target} {e : MapEntry} (he : s.entry t = some e) :
    (retire t s).level .nearFull = (retire t s).nearFull ∧ (retire t s).level .queueLow = (retire t s).queueLow := by
  unfold retire
  rw [he]
  refine ⟨(evalMapLevels_nearFull _).trans ?_, (evalMapLevels_queueLow _).trans ?_⟩ <;> simp [State.nearFull, State.queueLow]

theorem appendOutcome_carries (r : OutcomeRecord) (s : State) : s.Carries (appendOutcome r s) := by
  unfold appendOutcome
  split_ifs
  · exact .of_eq rfl
  · exact raiseNotice_carries _ _

theorem evalMapLevels_carries (s : State) : s.Carries (evalMapLevels s) :=
  (passLevel_carries _ _ _).trans (passLevel_carries _ _ _)

/-- A retirement raises PANEL_RETIRED, and OUTCOME_LOST where its record finds no room (R30, R37). -/
theorem retire_latched {s : State} {t : Target} {e : MapEntry} (he : s.entry t = some e) :
    s.Latched (retire t s) 10 ∧ (32 ≤ s.map.outcomes.length → s.Latched (retire t s) 14) := by
  have hdropped (u : State) : u.Carries (u.dropEntry t) := .of_eq rfl
  have hmoves (u : State) : u.Carries (cutRemoved t (lamRemoved t false u)) :=
    (lamRemoved_moves t false u).carries.trans (cutRemoved_moves t _).carries
  have hplan (u : State) : u.Carries (u.dropRef e.plan) := .of_eq rfl
  have hbefore := (appendOutcome_carries e.outcomeRecord s).trans ((hdropped _).trans ((hmoves _).trans (hplan _)))
  have hlost (hfull : 32 ≤ s.map.outcomes.length) : s.Latched (appendOutcome e.outcomeRecord s) 14 := by
    rw [appendOutcome, if_neg (show ¬ s.map.outcomes.length < Config.outcomeSize from Nat.not_lt.2 hfull)]
    exact (State.Carries.refl s).latched_raise .outcomeLost (by decide) rfl
  unfold retire
  rw [he]
  refine ⟨(hbefore.latched_raise .panelRetired (by decide) rfl).carries (by decide) (evalMapLevels_carries _), fun hfull => ?_⟩
  exact (hlost hfull).carries (by decide) ((hdropped _).trans ((hmoves _).trans ((hplan _).trans
    ((raiseNotice_carries _ _).trans (evalMapLevels_carries _)))))

end Sys2Proof.Machine
end

section
/-! The tail at the knife (O7), the commit crossing (O8, O9) and the window that closes unread (O10). -/

namespace Sys2Proof.Machine

/-! ### The tail at the knife (O7) -/

/-- The entry whose tail has cleared leaves the map, and no search runs. -/
theorem knifeTail_retires {s a : State} {e : MapEntry} (hnames : NamesApart s.map) (he : s.entry e.target = some e)
    (h : Meets [.point e.target .knifeTail] s a) (hrequest : s.lam.request ≠ .placed e.target) :
    ∃ t, (a.changed e.target (fun x => { x with tailCleared := true })).retired e.target = t ∧
      t = { a with
        map := t.map, plans := t.plans, lam := t.lam, cut := t.cut, links := t.links, line := t.line,
        notices := t.notices } ∧
      t.map = { a.map with
        entries := s.map.entries.filter (fun x => x.slot ≠ e.slot),
        outcomes := if s.map.outcomes.length < 32 then s.map.outcomes ++
          [{ panel := e.panel, plan := e.plan, reason := e.scrap, regResult := e.regResult, cutsMade := e.cutsMade }]
          else s.map.outcomes } ∧
      t.plans = { s.plans with
        plans := s.plans.plans.map (fun q => if q.number = e.plan then { q with refs := q.refs - 1 } else q) } ∧
      t.level .nearFull = decide (t.map.high ≤ t.map.entries.length) ∧
      t.level .queueLow = decide (t.map.entries.countP (fun x => x.phase == .queued) ≤ t.map.low) ∧
      s.Latched t 10 ∧ (32 ≤ s.map.outcomes.length → s.Latched t 14) := by
  obtain ⟨hmap, hplans, -, hlam, -⟩ := h.blocks
  let u := a.modifyEntry e.target (fun x => { x with tailCleared := true })
  have hu : u.entry e.target = some { e with tailCleared := true } :=
    modifyEntry_entry_self (fun x : MapEntry => { x with tailCleared := true }) (fun _ => rfl) ((h.entry _).trans he)
  have hcarries : s.Carries u := h.carries.trans (.of_eq rfl)
  have hmem := List.mem_of_find?_eq_some he
  have hslots : (s.map.entries.map MapEntry.slot).Nodup := by
    obtain ⟨-, hslots, -⟩ := hnames
    exact hslots
  have hentries : removeEntry e.target u.map.entries = s.map.entries.filter (fun x => x.slot ≠ e.slot) := by
    rw [← removeEntry_updateEntry (f := fun x => { x with tailCleared := true }) (fun _ => rfl)
      ((named_iff_target _ _).2 rfl) hmem hslots, ← hmap]
    rfl
  obtain ⟨hfull, hlow⟩ := retire_levels hu
  obtain ⟨hretired, hlost⟩ := retire_latched hu
  refine ⟨retire e.target u, ?_, ?_, ?_, ?_, hfull, hlow, hretired.before hcarries, fun hlength =>
    (hlost (by simpa [u, hmap] using hlength)).before hcarries⟩
  · rw [← State.modifyEntry_eq_changed, retire_eq_retired]
  · obtain ⟨htracker, hreg, hhold, hports, hbusy, htick, hpending⟩ := retire_frame e.target u
    generalize retire e.target u = t at *
    cases t
    simp_all [u]
  · rw [retire_map hu (by simpa [u, hlam] using hrequest), hentries]
    have humap : u.map = { s.map with entries := u.map.entries } := by
      rw [← hmap]
      rfl
    rw [humap, hmap]
    rfl
  · rw [retire_plans hu, dropRef_eq_unreferenced]
    show (State.unreferenced u e.plan).plans = _
    simp only [State.unreferenced, u, State.modifyEntry_frame, hplans]

/-- Settles O7: the tail at the knife. -/
theorem knifeTailRetiresTheEntry : Obligations.KnifeTailRetiresTheEntry := by
  intro s a e hnames he h
  have hstep : exec .encoderForwardStep s = .next (
      let u := a.changed e.target (fun x => { x with tailCleared := true })
      if e.cutsPending = 0 then u.retired e.target else u) :=
    (exec_forward_point h).trans (congrArg Host.Outcome.next (knifeTailCrossing_eq ((h.entry _).trans he)))
  refine ⟨fun hpending => ?_, fun hnone => ?_, fun hnone hrequest => ?_⟩
  · rw [hstep]
    exact congrArg Host.Outcome.next (if_neg (by omega))
  · rw [hstep]
    exact congrArg Host.Outcome.next (if_pos hnone)
  · obtain ⟨t, hretired, hfacts⟩ := knifeTail_retires hnames he h hrequest
    refine ⟨t, ?_, hfacts⟩
    rw [hstep, ← hretired]
    exact congrArg Host.Outcome.next (if_pos hnone)

/-! ### The commit crossing (O8, O9) -/

theorem commitFollowsTheCases : CommitFollowsTheCases := by
  intro s a e q he hq h
  obtain ⟨-, hplans, -⟩ := h.blocks
  have hq' : a.plan e.plan = some q := by rw [State.plan, hplans]; exact hq
  exact (exec_forward_point h).trans (congrArg Host.Outcome.next (commitCrossing_eq ((h.entry _).trans he) hq'))

/-- Two changes of one entry are one. -/
theorem entriesWith_changed (s : State) (t : Target) (f g : MapEntry → MapEntry)
    (hf : ∀ e, (f e).slot = e.slot ∧ (f e).panel = e.panel) :
    (s.changed t f).entriesWith t g = s.entriesWith t (fun e => g (f e)) := by
  simp only [State.entriesWith, State.changed, List.map_map]
  refine List.map_congr_left fun e _ => ?_
  obtain ⟨hslot, hpanel⟩ := hf e
  rw [Function.comp_apply]
  by_cases h : e.slot = t.slot ∧ e.panel = t.panel
  · rw [if_pos h, if_pos h, if_pos (by rwa [hslot, hpanel])]
  · rw [if_neg h, if_neg h, if_neg h]

/-- The entry at its commit crossing, COMMITTED. -/
def State.committed (s : State) (t : Target) : State := s.changed t (fun x => { x with phase := .committed })

/-- The expansion of a panel with a plan that is CLOSED, fits it, and has room in the queues (R55). -/
theorem expandedBy_normal {u : State} {e : MapEntry} {q : Plan} (hclosed : q.state = .closed) (hfit : ∀ o ∈ q.cuts, o ≤ e.length)
    (hroom : u.cut.xcut.length + q.cuts.length ≤ 24) (hslit : u.cut.slitReference ≠ .known q.slits → u.cut.slit.length < 6) :
    u.expandedBy e q = u.expandedNormally e q := by
  have hlong : ¬ ∃ o ∈ q.cuts, e.length < o := fun ⟨o, ho, hlt⟩ => absurd (hfit o ho) (Nat.not_le.2 hlt)
  have hfull : ¬(24 < u.cut.xcut.length + q.cuts.length ∨ (u.cut.slitReference ≠ .known q.slits ∧ 6 ≤ u.cut.slit.length)) := by
    rintro (hlt | ⟨hmove, hle⟩)
    · omega
    · exact absurd (hslit hmove) (Nat.not_lt.2 hle)
  rw [State.expandedBy, if_neg (by simp [hclosed]), if_neg hlong, if_neg hfull]

theorem committed_expandedNormally (a : State) (e : MapEntry) (q : Plan) : (a.committed e.target).expandedNormally e q =
    let u : State := { a with
      map := { a.map with entries := a.entriesWith e.target (fun x =>
        { x with phase := .committed, cutsPending := x.cutsPending + q.cuts.length }) }
      cut := { a.cut with xcut := (plannedCuts a e q.cuts).foldl (fun queue c => cutInserted c queue) a.cut.xcut } }
    if a.cut.slitReference = .known q.slits then u
    else
      let x : SlitEntry :=
        { owner := e.target, deadline := ((e.head + a.tracker.zones.slit : Nat) + e.offset : Int).toNat, lanes := q.slits
          issued := false }
      State.slitIssued { u with cut := { u.cut with slit := slitInserted x a.cut.slit } } := by
  have hentries := entriesWith_changed a e.target (fun x => { x with phase := .committed })
    (fun x => { x with cutsPending := x.cutsPending + q.cuts.length }) (fun _ => ⟨rfl, rfl⟩)
  dsimp only
  rw [← hentries]
  rfl

/-- Settles O8: normal expansion at the commit crossing. -/
theorem commitExpandsTheClosedPlan : Obligations.CommitExpandsTheClosedPlan := by
  intro s a e q he hq hnone hclosed hfit hroom h
  have hstep : exec .encoderForwardStep s = .next ((a.committed e.target).expandedBy e q) :=
    (commitFollowsTheCases s a e q he hq h).trans (congrArg Host.Outcome.next (if_pos hnone))
  have hcut : (a.committed e.target).cut = s.cut := h.blocks.2.2.2.2.1
  have hexpand (hslit : s.cut.slitReference ≠ .known q.slits → s.cut.slit.length < 6) :
      (a.committed e.target).expandedBy e q = (a.committed e.target).expandedNormally e q :=
    expandedBy_normal hclosed hfit (by rwa [hcut]) (by rwa [hcut])
  have hnormal := committed_expandedNormally a e q
  obtain ⟨-, ⟨pulse, -, rfl⟩, -⟩ := h
  refine ⟨fun hsame => ?_, fun hmove hshort => ?_⟩
  · rw [hstep, hexpand (fun hne => absurd hsame hne), hnormal]
    exact congrArg Host.Outcome.next (if_pos hsame)
  · rw [hstep, hexpand (fun _ => hshort), hnormal]
    exact congrArg Host.Outcome.next (if_neg hmove)

/-! ### An OPEN plan at the commit crossing (R56) -/

theorem wasted_of_no_owner {s : State} {t : Target} (h : ∀ c ∈ s.cut.xcut, c.owner ≠ t) : s.wasted t = s := by
  have hsame : s.cut.xcut.map (fun c => if c.owner = t then { c with kind := .waste } else c) = s.cut.xcut :=
    (List.map_congr_left fun c hc => if_neg (h c hc)).trans (List.map_id' _)
  rw [State.wasted, hsame]

theorem disposedOf_of_no_owner {s : State} {t : Target} (h : ∀ x ∈ s.cut.slit, x.owner ≠ t) : s.disposedOf t = s := by
  have hnone : s.cut.slit.findIdx? (fun x => x.owner = t ∧ x.issued = false) = none := by
    simpa [List.findIdx?_eq_none_iff] using fun x hx howner => absurd howner (h x hx)
  rw [State.disposedOf, hnone]

/-- A panel that owns no entry of the queues is converted by a slit issue attempt alone (R111). -/
theorem converted_of_no_owner {s : State} {t : Target} (hcut : ∀ c ∈ s.cut.xcut, c.owner ≠ t)
    (hslit : ∀ x ∈ s.cut.slit, x.owner ≠ t) : s.converted t = s.slitIssued := by
  rw [State.converted, wasted_of_no_owner hcut, disposedOf_of_no_owner hslit]

/-- A slit issue attempt changes the links, the slit queue and the move in flight alone (R113, R114). -/
theorem slitIssued_frame (s : State) : ∃ links slit moveFlight,
    s.slitIssued = { s with links := links, cut := { s.cut with slit := slit, moveFlight := moveFlight } } := by
  unfold State.slitIssued
  split
  · exact ⟨_, _, _, rfl⟩
  · dsimp only
    split_ifs
    · exact ⟨_, _, _, rfl⟩
    · exact ⟨_, _, _, rfl⟩

/-- The cut position of an entry's nominal position n (R58). -/
def State.knifeAt (s : State) (e : MapEntry) (n : Nat) : Nat := ((n + s.tracker.zones.knife : Nat) + e.offset : Int).toNat

/-- The XCUT queue with the two waste cuts of an entry (R56). -/
def State.withWaste (s : State) (e : MapEntry) : List CutEntry :=
  cutInserted { position := s.knifeAt e (e.head + e.length), owner := e.target, step := .wasteTail, kind := .waste }
    (cutInserted { position := s.knifeAt e e.head, owner := e.target, step := .wasteHead, kind := .waste } s.cut.xcut)

theorem wasteMade_eq {s : State} (e : MapEntry) (h : s.cut.xcut.length ≤ 22) : s.wasteMade e =
    { s with
      map := { s.map with entries := s.entriesWith e.target (fun x => { x with cutsPending := x.cutsPending + 2 }) }
      cut := { s.cut with xcut := s.withWaste e } } := by
  have hlength (c : CutEntry) (queue : List CutEntry) : (cutInserted c queue).length = queue.length + 1 := by
    rw [← insertAfter_eq_cutInserted, insertAfter_length]
  have hentries := entriesWith_changed s e.target (fun x => { x with cutsPending := x.cutsPending + 1 })
    (fun x => { x with cutsPending := x.cutsPending + 1 }) (fun _ => ⟨rfl, rfl⟩)
  dsimp only
  rw [State.wasteMade, State.wasteCut, if_pos ?_, State.wasteCut, if_pos (by omega), ← hentries]
  · rfl
  · rw [State.wasteCut, if_pos (by omega)]
    exact (hlength _ _).trans_lt (by omega)

theorem noticed_carries (n : Notice) {s : State} (h : s.inGroup n = true) : s.Carries (s.noticed n.number) := by
  rw [← raiseNotice_eq_noticed n s h]
  exact raiseNotice_carries n s

theorem noticed_latched (n : Notice) {s : State} (hn : n.number < 25) (h : s.inGroup n = true) :
    s.Latched (s.noticed n.number) n.number := by
  rw [← raiseNotice_eq_noticed n s h]
  exact (State.Carries.refl s).latched_raise n hn h

/-- A claim raises PANEL_SCRAPPED, and REPRINT_WANTED or REPRINT_LOST (R33, R35). -/
theorem spoiled_latched (s : State) (e : MapEntry) (reason : ScrapReason) :
    s.Latched (s.spoiled e reason) 11 ∧ s.Latched (s.spoiled e reason) (if s.map.reprints.length < 16 then 12 else 13) := by
  unfold State.spoiled
  split_ifs
  · refine ⟨(noticed_latched .panelScrapped (s := s.noticed 12) (by decide) rfl).before (noticed_carries .reprintWanted rfl),
      (noticed_latched .reprintWanted (by decide) rfl).carries (by decide) ?_⟩
    exact (noticed_carries .panelScrapped (s := s.noticed 12) rfl).trans (.of_eq rfl)
  · refine ⟨(noticed_latched .panelScrapped (s := s.noticed 13) (by decide) rfl).before (noticed_carries .reprintLost rfl),
      (noticed_latched .reprintLost (by decide) rfl).carries (by decide) ?_⟩
    exact (noticed_carries .panelScrapped (s := s.noticed 13) rfl).trans (.of_eq rfl)

/-- A claim at an OPEN plan's commit crossing, of a panel that owns no entry of the queues. -/
theorem committed_claimed {a : State} {e : MapEntry} (he : a.entry e.target = some e) (hnone : e.scrap = none)
    (hcut : ∀ c ∈ a.cut.xcut, c.owner ≠ e.target) (hslit : ∀ x ∈ a.cut.slit, x.owner ≠ e.target) (reason : ScrapReason) :
    (a.committed e.target).claimed e.target reason = ((a.committed e.target).spoiled e reason).slitIssued := by
  have hentry : (a.committed e.target).entry e.target = some { e with phase := .committed } := by
    rw [State.committed, ← State.modifyEntry_eq_changed]
    exact modifyEntry_entry_self (fun x : MapEntry => { x with phase := .committed }) (fun _ => rfl) he
  rw [State.claimed, hentry]
  dsimp only
  rw [if_neg (by simp [hnone]), if_pos (by simp)]
  exact converted_of_no_owner hcut hslit

/-- What an OPEN plan's commit crossing does (R56). -/
theorem committed_wasteMade {a : State} {e : MapEntry} (he : a.entry e.target = some e) (hnone : e.scrap = none)
    (hroom : a.cut.xcut.length ≤ 22) (hcut : ∀ c ∈ a.cut.xcut, c.owner ≠ e.target)
    (hslit : ∀ x ∈ a.cut.slit, x.owner ≠ e.target) (reason : ScrapReason) :
    ∃ t, ((a.committed e.target).claimed e.target reason).wasteMade e = t ∧
      t = { a with map := t.map, cut := t.cut, links := t.links, notices := t.notices } ∧
      t.map = { a.map with
        entries := a.entriesWith e.target (fun x =>
          { x with phase := .committed, scrap := some reason, cutsPending := x.cutsPending + 2 })
        reprints := a.reprintsWith e reason } ∧
      t.cut.xcut = a.withWaste e ∧ t.cut.cutFlight = a.cut.cutFlight ∧ a.Latched t 11 ∧
      a.Latched t (if a.map.reprints.length < 16 then 12 else 13) := by
  obtain ⟨hscrapped, hreprint⟩ := spoiled_latched (a.committed e.target) e reason
  obtain ⟨links, slit, moveFlight, hissued⟩ := slitIssued_frame ((a.committed e.target).spoiled e reason)
  rw [committed_claimed he hnone hcut hslit, hissued, wasteMade_eq e (by exact hroom)]
  have hentries : (((a.committed e.target).changed e.target (fun x => { x with scrap := some reason })).entriesWith e.target
      (fun x => { x with cutsPending := x.cutsPending + 2 })) = a.entriesWith e.target (fun x =>
        { x with phase := .committed, scrap := some reason, cutsPending := x.cutsPending + 2 }) :=
    (entriesWith_changed (a.committed e.target) e.target (fun x => { x with scrap := some reason }) _
      (fun _ => ⟨rfl, rfl⟩)).trans
      (entriesWith_changed a e.target (fun x => { x with phase := .committed }) _ (fun _ => ⟨rfl, rfl⟩))
  refine ⟨_, rfl, rfl, ?_, rfl, rfl, hscrapped, hreprint⟩
  rw [← hentries]
  rfl

theorem anOpenPlanScrapsThePanel : AnOpenPlanScrapsThePanel := by
  intro s a e q he hq hnone hopen hroom hcut hslit h
  have hstep : exec .encoderForwardStep s = .next ((a.committed e.target).expandedBy e q) :=
    (commitFollowsTheCases s a e q he hq h).trans (congrArg Host.Outcome.next (if_pos hnone))
  have hentry := (h.entry _).trans he
  obtain ⟨-, ⟨pulse, -, rfl⟩, -⟩ := h
  obtain ⟨t, heq, hfacts⟩ := committed_wasteMade hentry hnone hroom hcut hslit .planUnderrun
  refine ⟨t, ?_, hfacts⟩
  rw [hstep, State.expandedBy, if_pos hopen, heq]

/-- Settles O9: a commit crossing at an OPEN plan, and by all of R55's cases. -/
theorem commitScrapsAtAnOpenPlan : Obligations.CommitScrapsAtAnOpenPlan := ⟨anOpenPlanScrapsThePanel, commitFollowsTheCases⟩

/-! ### A window that closes unread (O10) -/

/-- Settles O10: the window-closing crossing of an entry. -/
theorem windowClosesUnread : Obligations.WindowClosesUnread := fun _ _ _ he h =>
  ⟨_, exec_forward_point h, closeCrossing_unread ((h.entry _).trans he)⟩

end Sys2Proof.Machine
end

section
/-! The nip and the film (O11, O13): what a claim, the splice search and the film count leave of the entries at the nip. -/

namespace Sys2Proof.Machine

/-! ### What the crossings at the nip go by -/

/-- What of an entry its crossings at the nip are read off (R7, R82). -/
structure NipView where
  target : Target
  head : Nat
  length : Nat
  offset : Int
  nip : Progress

def MapEntry.nipView (e : MapEntry) : NipView :=
  { target := e.target, head := e.head, length := e.length, offset := e.offset, nip := e.nip }

def State.nipViews (s : State) : List NipView := s.map.entries.map MapEntry.nipView

theorem nipViews_of_map {s t : State} (h : t.map = s.map) : t.nipViews = s.nipViews := by
  rw [State.nipViews, h, State.nipViews]

theorem nipViews_modifyEntry (t : Target) (f : MapEntry → MapEntry) (hf : ∀ e, (f e).nipView = e.nipView) (s : State) :
    (s.modifyEntry t f).nipViews = s.nipViews := by
  rw [State.nipViews, State.modifyEntry_entries, updateEntry, List.map_map]
  refine List.map_congr_left fun e _ => ?_
  rw [Function.comp_apply]
  split_ifs
  · exact hf e
  · rfl

theorem raiseNotice_nipViews (n : Notice) (s : State) : (raiseNotice n s).nipViews = s.nipViews := nipViews_of_map (by simp)

theorem appendReprint_nipViews (r : ReprintRecord) (s : State) : (appendReprint r s).nipViews = s.nipViews := by
  unfold appendReprint
  split_ifs
  · rw [raiseNotice_nipViews]
    rfl
  · exact raiseNotice_nipViews _ s

theorem markScrap_nipViews (t : Target) (reason : ScrapReason) (s : State) : (markScrap t reason s).nipViews = s.nipViews := by
  unfold markScrap
  split
  · rfl
  · split_ifs
    · rfl
    · rw [raiseNotice_nipViews, appendReprint_nipViews]
      exact nipViews_modifyEntry t (fun x => { x with scrap := some reason }) (fun _ => rfl) s

theorem slitAttempt_nipViews (s : State) : (slitAttempt s).nipViews = s.nipViews := nipViews_of_map (by simp)

theorem convertCuts_nipViews (t : Target) (s : State) : (convertCuts t s).nipViews = s.nipViews := nipViews_of_map (by simp)

theorem disposeOver_nipViews (i : Nat) (ts : List Target) (s : State) : (disposeOver i ts s).nipViews = s.nipViews := by
  induction ts generalizing s with
  | nil =>
    unfold disposeOver
    exact slitAttempt_nipViews _
  | cons t ts ih =>
    have hhand (d : Nat) : (handOn i t d s).nipViews = s.nipViews := nipViews_of_map (by simp)
    unfold disposeOver
    dsimp only
    split
    · exact ih s
    · split_ifs
      · exact ih s
      · rw [ih, convertCuts_nipViews, markScrap_nipViews, hhand]
      · rw [slitAttempt_nipViews, hhand]
      · rw [ih, slitAttempt_nipViews, convertCuts_nipViews, markScrap_nipViews]

theorem disposeSlit_nipViews (t : Target) (s : State) : (disposeSlit t s).nipViews = s.nipViews := by
  unfold disposeSlit
  split
  · rfl
  · exact disposeOver_nipViews _ _ s

theorem scrapClaim_nipViews (t : Target) (reason : ScrapReason) (s : State) :
    (scrapClaim t reason s).nipViews = s.nipViews := by
  unfold scrapClaim
  split
  · rfl
  · split_ifs
    · rfl
    · rw [convertPanel, slitAttempt_nipViews, disposeSlit_nipViews, convertCuts_nipViews, markScrap_nipViews]
    · exact markScrap_nipViews t reason s

/-- The splice search marks at most one entry, with the splice gap it takes (R89). -/
theorem spliceSearch_entries (s : State) : (spliceSearch s).map = s.map ∨
    ∃ t, (spliceSearch s).map = (s.modifyEntry t (fun e => { e with spliceGap := true })).map := by
  unfold spliceSearch
  by_cases hwanted : s.lam.request = .wanted
  · rw [if_pos hwanted]
    split
    · next v _ =>
      refine .inr ⟨v.entry.target, ?_⟩
      dsimp only
      split_ifs
      · simp
      · rfl
    · split_ifs
      · exact .inl rfl
      · exact .inl (by simp)
  · rw [if_neg hwanted]
    exact .inl rfl

theorem spliceSearch_nipViews (s : State) : (spliceSearch s).nipViews = s.nipViews := by
  rcases spliceSearch_entries s with h | ⟨t, h⟩
  · exact nipViews_of_map h
  · rw [nipViews_of_map h]
    exact nipViews_modifyEntry t (fun e => { e with spliceGap := true }) (fun _ => rfl) s

theorem wantSplice_nipViews (s : State) : (wantSplice s).nipViews = s.nipViews := spliceSearch_nipViews _

theorem evalFilm_nipViews (s : State) : (evalFilm s).nipViews = s.nipViews := by
  have hpass : (passLevel .filmLow s.filmLow s).nipViews = s.nipViews := nipViews_of_map (by simp)
  unfold evalFilm autoSplice
  split_ifs
  · rw [wantSplice_nipViews, hpass]
  · exact hpass

theorem foldScrap_nipViews (reason : ScrapReason) (ts : List Target) (s : State) :
    (ts.foldl (fun s t => scrapClaim t reason s) s).nipViews = s.nipViews := by
  induction ts generalizing s with
  | nil => rfl
  | cons t ts ih => rw [List.foldl_cons, ih, scrapClaim_nipViews]

theorem filmStep_nipViews (s : State) : (filmStep s).nipViews = s.nipViews := by
  have hcount : (evalFilm (s.setLam { s.lam with remaining := s.lam.remaining - 1 })).nipViews = s.nipViews :=
    evalFilm_nipViews _
  have hdecide (u : State) : (transitionDecision u).nipViews = u.nipViews := nipViews_of_map (by simp)
  have hfault (d : FaultDetail) (u : State) : (faultHold .filmOut d u).nipViews = u.nipViews := nipViews_of_map (by simp)
  unfold filmStep
  dsimp only
  split_ifs
  · unfold filmOut
    dsimp only
    rw [hdecide, hfault, foldScrap_nipViews, hcount]
  · exact hcount

theorem find?_nipViews (s : State) (p : NipView → Bool) :
    (s.map.entries.find? (fun e => p e.nipView)).map MapEntry.nipView = s.nipViews.find? p := by
  rw [State.nipViews, List.find?_map]
  rfl

/-- The entry at the nip is read off the views (R82). -/
theorem nipEntry_of_nipViews {s t : State} (h : t.nipViews = s.nipViews) : t.nipEntry = s.nipEntry := by
  have hview (u : State) : u.nipEntry = (u.nipViews.find? (fun v => decide (v.nip = .inside))).map NipView.target := by
    rw [← find?_nipViews, Option.map_map]
    rfl
  rw [hview, hview, h]

/-- So are the crossings at the nip (R7). -/
theorem pointDue_of_nipViews {s t : State} (h : t.nipViews = s.nipViews) (htracker : t.tracker = s.tracker) (x : Target)
    {p : Point} (hp : p = .nipHead ∨ p = .nipTail) : t.pointDue x p = s.pointDue x p := by
  have hview (u : State) : (u.entry x).map MapEntry.nipView = u.nipViews.find? (fun v => decide (v.target = x)) := by
    have hnamed : MapEntry.named x = fun e => decide (e.nipView.target = x) := by
      funext e
      rw [Bool.eq_iff_iff, named_iff_target, decide_eq_true_iff]
      rfl
    rw [← find?_nipViews, State.entry, hnamed]
  have hentry : (t.entry x).map MapEntry.nipView = (s.entry x).map MapEntry.nipView := by rw [hview, hview, h]
  have hcrossing {e y : MapEntry} (hey : e.nipView = y.nipView) : e.crossing s.tracker.zones p = y.crossing s.tracker.zones p := by
    obtain ⟨-, hhead, hlength, hoffset, hnip⟩ := NipView.mk.inj hey
    rcases hp with rfl | rfl <;> simp [MapEntry.crossing, MapEntry.headAt, MapEntry.tailAt, MapEntry.tail, hhead, hlength, hoffset, hnip]
  have hdue (u : State) (hu : u.tracker = s.tracker) : u.pointDue x p =
      match u.entry x with
      | some e => decide (e.crossing s.tracker.zones p = some s.tracker.odometer)
      | none => false := by
    rcases hp with rfl | rfl <;> simp only [State.pointDue, hu] <;> rfl
  rw [hdue t htracker, hdue s rfl]
  cases hs : s.entry x with
  | none =>
    rw [hs, Option.map_none, Option.map_eq_none_iff] at hentry
    rw [hentry]
  | some y =>
    rw [hs, Option.map_some, Option.map_eq_some_iff] at hentry
    obtain ⟨e, he, hey⟩ := hentry
    rw [he]
    dsimp only
    rw [hcrossing hey]

/-! ### The film and a crossing at the nip on one advance (R83, log 10) -/

/-- The film is counted, and then the crossing is taken. -/
theorem forwardStep_film_nip {s a : State} {t : Target} {p : Point} (h : Meets [.film, .point t p] s a)
    (hp : p = .nipHead ∨ p = .nipTail) :
    forwardStep s = takePoint t p { filmStep a with freeTick := a.freeTick + 1 } := by
  have howner : p.owner = .lam := by rcases hp with rfl | rfl <;> rfl
  have hdue : a.pointDue t p = true := pointDue_of_mem_due (stepDue_subset a (by simp [h.due]))
  have hviews : ((filmStep a).setFreeTick ((filmStep a).freeTick + 1)).nipViews = a.nipViews := filmStep_nipViews a
  rw [forwardStep_film_point h howner _ rfl ((pointDue_of_nipViews hviews (by simp) t hp).trans hdue)]
  have htick : (filmStep a).freeTick = a.freeTick := by simp
  rw [htick]
  rfl

theorem filmIsCountedAndRunsOut_alone {s a : State} (h : Meets [.film] s a) : s.lam.nip = .closed ∧ 0 < s.lam.remaining ∧
    (1 < s.lam.remaining → exec .encoderForwardStep s = .next a.filmCounted) ∧
    (s.lam.remaining = 1 → ∃ f, FilmRanOut a f ∧ exec .encoderForwardStep s = .next f.decided) := by
  have hstep : forwardStep s = filmStep a := forwardStep_meets h (by simp)
  have hlam : a.lam = s.lam := h.blocks.2.2.2.1
  obtain ⟨hnip, hfilm⟩ := (film_mem_due_iff a).1 (stepDue_subset a (by simp [h.due]))
  rw [hlam] at hnip hfilm
  refine ⟨hnip, hfilm, fun hmore => ?_, fun hlast => ?_⟩
  · rw [exec_forward, hstep, filmStep_counts (by rw [hlam]; omega)]
  · obtain ⟨f, hf, hout⟩ := filmStep_runsOut (s := a) (by rw [hlam]; exact hlast)
    exact ⟨f, hf, by rw [exec_forward, hstep, hout]⟩

/-- The film counted before a crossing at the nip on the same advance. -/
theorem film_before_nip {s a : State} {t : Target} {p : Point} (h : Meets [.film, .point t p] s a)
    (hp : p = .nipHead ∨ p = .nipTail) :
    (1 < s.lam.remaining → exec .encoderForwardStep s = .next (takePoint t p { a.filmCounted with freeTick := a.freeTick + 1 })) ∧
    (s.lam.remaining = 1 → ∃ f, FilmRanOut a f ∧
      exec .encoderForwardStep s = .next (takePoint t p { f.decided with freeTick := a.freeTick + 1 })) := by
  have hstep := forwardStep_film_nip h hp
  have hlam : a.lam = s.lam := h.blocks.2.2.2.1
  refine ⟨fun hmore => ?_, fun hlast => ?_⟩
  · rw [exec_forward, hstep, filmStep_counts (by rw [hlam]; omega)]
  · obtain ⟨f, hf, hout⟩ := filmStep_runsOut (s := a) (by rw [hlam]; exact hlast)
    exact ⟨f, hf, by rw [exec_forward, hstep, hout]⟩

/-- Settles O13: the film is counted, before a tail at the nip on the same advance, and runs out. -/
theorem filmIsCountedAndRunsOut : Obligations.FilmIsCountedAndRunsOut := by
  intro s a
  refine ⟨filmIsCountedAndRunsOut_alone, fun t h => ?_⟩
  have hnip := film_before_nip h (.inr rfl)
  simp only [takePoint, nipTailCrossing_eq] at hnip
  exact hnip

theorem headAtNipWithTheFilm : HeadAtNipWithTheFilm := by
  intro s a t
  refine ⟨fun h => ?_, fun h => ?_⟩
  · exact (exec_forward_point h).trans (congrArg Host.Outcome.next (nipHeadCrossing_eq t a))
  · have hnip := film_before_nip h (.inl rfl)
    simp only [takePoint, nipHeadCrossing_eq] at hnip
    exact hnip

theorem tailAtNipDecides : TailAtNipDecides := fun _ a t h =>
  (exec_forward_point h).trans (congrArg Host.Outcome.next (nipTailCrossing_eq t a))

end Sys2Proof.Machine
end

section
/-! The head at the nip (O11) and the cut position (O12). -/

namespace Sys2Proof.Machine

/-! ### The head at the nip (R96) -/

/-- The reason that R96's table gives an entry as its head reaches the nip. -/
def State.nipReason (s : State) (e : MapEntry) : Option ScrapReason :=
  if e.cls = .film ∧ s.lam.remaining = 0 then some .filmOut
  else if (∃ o, s.lam.op = some o ∧ o.target = some e.target) ∨ s.lam.request = .placed e.target ∨
    s.lam.nip ≠ callsFor e.cls then some .lamLate
  else none

/-- What the check of an entry at the nip does by that reason. -/
theorem nipCheck_cases (e : MapEntry) (s : State) :
    (s.nipReason e = none ∧ nipCheck e s = s) ∨
      (∃ r, s.nipReason e = some r ∧ nipCheck e s = scrapClaim e.target r s) ∨
      (s.nipReason e = some .lamLate ∧ s.lam.request = .placed e.target ∧
        nipCheck e s = wantSplice (scrapClaim e.target .lamLate s)) := by
  have hop : (s.lam.op.bind (fun o => o.target)) = some e.target ↔ ∃ o, s.lam.op = some o ∧ o.target = some e.target :=
    Option.bind_eq_some_iff
  unfold nipCheck State.nipReason
  dsimp only
  rw [LamClass.calls_eq_callsFor]
  by_cases hfilm : e.cls = .film ∧ s.lam.remaining = 0
  · rw [if_pos hfilm, if_pos hfilm]
    exact .inr (.inl ⟨_, rfl, rfl⟩)
  · rw [if_neg hfilm, if_neg hfilm]
    by_cases htarget : (s.lam.op.bind (fun o => o.target)) = some e.target
    · rw [if_pos htarget, if_pos (.inl (hop.1 htarget))]
      exact .inr (.inl ⟨_, rfl, rfl⟩)
    · rw [if_neg htarget]
      by_cases hplaced : s.lam.request = .placed e.target
      · rw [if_pos hplaced, if_pos (.inr (.inl hplaced))]
        exact .inr (.inr ⟨rfl, hplaced, rfl⟩)
      · rw [if_neg hplaced]
        by_cases hnip : s.lam.nip ≠ callsFor e.cls
        · rw [if_pos hnip, if_pos (.inr (.inr hnip))]
          exact .inr (.inl ⟨_, rfl, rfl⟩)
        · rw [if_neg hnip, if_neg (by rintro (h | h | h); exacts [htarget (hop.2 h), hplaced h, hnip h])]
          exact .inl ⟨rfl, rfl⟩

/-- The splice search changes no entry's progress at the nip and no scrap reason. -/
theorem spliceSearch_entry {s : State} {t : Target} {x : MapEntry} (hx : s.entry t = some x) :
    ∃ y, (spliceSearch s).entry t = some y ∧ y.nip = x.nip ∧ y.scrap = x.scrap := by
  rcases spliceSearch_entries s with h | ⟨u, h⟩
  · exact ⟨x, (entry_of_entries_eq (congrArg PanelMap.entries h) t).trans hx, rfl, rfl⟩
  · have hentry := entry_of_entries_eq (congrArg PanelMap.entries h) t
    by_cases hu : t = u
    · subst hu
      exact ⟨_, hentry.trans (modifyEntry_entry_self (fun e : MapEntry => { e with spliceGap := true }) (fun _ => rfl) hx),
        rfl, rfl⟩
    · exact ⟨x, (hentry.trans (modifyEntry_entry_other (f := fun e : MapEntry => { e with spliceGap := true })
        (fun _ => rfl) hu)).trans hx, rfl, rfl⟩

/-- What the check of the entry x of state s, with the reason given or none, leaves in state t. -/
structure NipChecked (x : MapEntry) (reason : Option ScrapReason) (s t : State) : Prop where
  entry : ∃ y, t.entry x.target = some y ∧ y.nip = x.nip ∧ y.scrap = x.scrap.or reason
  views : t.nipViews = s.nipViews
  lam : reason ≠ some .lamLate ∨ s.lam.request ≠ .placed x.target → t.lam = s.lam
  frame : t = { s with map := t.map, lam := t.lam, cut := t.cut, links := t.links, notices := t.notices }

theorem scrapClaim_nipChecked {s : State} {x : MapEntry} (hx : s.entry x.target = some x) (r : ScrapReason) :
    NipChecked x (some r) s (scrapClaim x.target r s) where
  entry := ⟨_, scrapClaim_entry hx r, rfl, rfl⟩
  views := scrapClaim_nipViews _ _ _
  lam := fun _ => by simp
  frame := by
    have hblocks := scrapClaim_eq_blocks x.target r s
    have hlam : (scrapClaim x.target r s).lam = s.lam := by simp
    rwa [hlam]

theorem wantSplice_eq_blocks (s : State) : wantSplice s =
    { s with
      map := (wantSplice s).map, lam := (wantSplice s).lam, links := (wantSplice s).links
      notices := (wantSplice s).notices } := by
  obtain ⟨htracker, hplans, hreg, hcut, hline, hhold, hports, hbusy, htick, hpending⟩ := wantSplice_frame s
  generalize wantSplice s = u at *
  cases u
  simp_all

/-- A request PLACED on the entry comes back with its claim. -/
theorem wantSplice_nipChecked {s : State} {x : MapEntry} (hx : s.entry x.target = some x)
    (hplaced : s.lam.request = .placed x.target) :
    NipChecked x (some .lamLate) s (wantSplice (scrapClaim x.target .lamLate s)) where
  entry := by
    obtain ⟨y, hy, hnip, hscrap⟩ := spliceSearch_entry (s := (scrapClaim x.target .lamLate s).setLam
      { (scrapClaim x.target .lamLate s).lam with request := .wanted }) (scrapClaim_entry hx .lamLate)
    exact ⟨y, hy, hnip, hscrap⟩
  views := (wantSplice_nipViews _).trans (scrapClaim_nipViews _ _ _)
  lam := fun h => h.elim (fun h => absurd rfl h) (fun h => absurd hplaced h)
  frame := by
    have hclaim := (scrapClaim_nipChecked hx .lamLate).frame
    have hwant := wantSplice_eq_blocks (scrapClaim x.target .lamLate s)
    generalize scrapClaim x.target .lamLate s = u at *
    generalize wantSplice u = v at *
    rw [hwant, hclaim]

theorem nipCheck_nipChecked {s : State} {e x : MapEntry} (hx : s.entry x.target = some x) (htarget : x.target = e.target) :
    NipChecked x (s.nipReason e) s (nipCheck e s) := by
  rcases nipCheck_cases e s with ⟨hnone, h⟩ | ⟨r, hr, h⟩ | ⟨hlate, hplaced, h⟩
  · rw [hnone, h]
    exact ⟨⟨x, hx, rfl, (Option.or_none).symm⟩, rfl, fun _ => rfl, rfl⟩
  · rw [hr, h, ← htarget]
    exact scrapClaim_nipChecked hx r
  · rw [hlate, h, ← htarget]
    exact wantSplice_nipChecked hx (htarget ▸ hplaced)

theorem reportNip_atNip (s : State) : (reportNip s).line.atNip = s.nipEntry := by
  unfold reportNip
  dsimp only
  rw [nipEntry_eq]
  split_ifs with h
  · exact h
  · obtain ⟨-, -, -, hnip, -⟩ := retarget_line (s.setLine { s.line with atNip := s.nipEntry })
    exact hnip

theorem reportNip_eq_blocks (s : State) :
    reportNip s = { s with line := (reportNip s).line, notices := (reportNip s).notices } := by
  obtain ⟨htracker, hmap, hplans, hreg, hlam, hcut, hlinks, hhold, hports, hbusy, htick, hpending⟩ := reportNip_frame s
  generalize reportNip s = u at *
  cases u
  simp_all

theorem headAtNipChecksTheEntry : HeadAtNipChecksTheEntry := by
  intro s a e he h
  have hlam : a.lam = s.lam := h.blocks.2.2.2.1
  have hinside : (a.modifyEntry e.target (fun x => { x with nip := .inside })).entry e.target =
      some { e with nip := .inside } :=
    modifyEntry_entry_self (fun x : MapEntry => { x with nip := .inside }) (fun _ => rfl) ((h.entry _).trans he)
  let u := reportNip (a.modifyEntry e.target (fun x => { x with nip := .inside }))
  have hu : u.entry e.target = some { e with nip := .inside } :=
    (entry_of_entries_eq (by simp [u]) e.target).trans hinside
  have hulam : u.lam = s.lam := by simp [u, hlam]
  have hreason : u.nipReason e =
      (if e.cls = .film ∧ s.lam.remaining = 0 then some .filmOut
        else if (∃ o, s.lam.op = some o ∧ o.target = some e.target) ∨ s.lam.request = .placed e.target ∨
          s.lam.nip ≠ callsFor e.cls then some .lamLate
        else none) := by
    rw [State.nipReason, hulam]
  have hstep : exec .encoderForwardStep s = .next (nipCheck e u) := by
    rw [exec_forward_point h, takePoint, nipHeadCrossing, (h.entry _).trans he]
  obtain ⟨⟨y, hy, hnip, hscrap⟩, hviews, hkeep, hframe⟩ :=
    nipCheck_nipChecked (s := u) (e := e) (x := { e with nip := .inside }) hu rfl
  rw [hreason] at hscrap hkeep
  have hline : (nipCheck e u).line = u.line := by rw [hframe]
  refine ⟨nipCheck e u, y, hstep, hy, hnip, hscrap, ?_, fun hr => ?_, ?_⟩
  · have hat : u.line.atNip = u.nipEntry := by
      refine (reportNip_atNip _).trans (nipEntry_of_nipViews ?_).symm
      exact nipViews_of_map (by simp [u])
    rw [hline, hat, ← nipEntry_of_nipViews hviews, State.nipEntry]
    simp only [beq_eq_decide]
    rfl
  · rw [hkeep (by rwa [hulam]), hulam]
  · have hreport := reportNip_eq_blocks (a.modifyEntry e.target (fun x => { x with nip := .inside }))
    rw [hframe]
    show ({ u with map := _, lam := _, cut := _, links := _, notices := _ } : State) = _
    rw [show u = _ from hreport]
    rfl

/-- Settles O11: the head and the tail at the nip. -/
theorem nipHeadChecksTheEntry : Obligations.NipHeadChecksTheEntry :=
  ⟨headAtNipChecksTheEntry, headAtNipWithTheFilm, tailAtNipDecides⟩

end Sys2Proof.Machine
end

section
/-! The cut position (O12): a cut issued, or missed. -/

namespace Sys2Proof.Machine

theorem resolveCut_entry {s : State} {t : Target} {e : MapEntry} (he : s.entry t = some e) (hcleared : e.tailCleared = false)
    (made : Bool) : resolveCut t made s = s.modifyEntry t (MapEntry.cutDone made) ∧
      (resolveCut t made s).entry t = some (e.cutDone made) := by
  have hentry : (s.modifyEntry t (MapEntry.cutDone made)).entry t = some (e.cutDone made) :=
    modifyEntry_entry_self _ (fun _ => rfl) he
  have hcut : resolveCut t made s = s.modifyEntry t (MapEntry.cutDone made) := by
    rw [show resolveCut t made s = retireIfDone t (s.modifyEntry t (MapEntry.cutDone made)) from rfl, retireIfDone_eq, hentry]
    refine if_neg ?_
    rintro ⟨x, hx, hx', -⟩
    obtain rfl := Option.some.inj hx
    rw [show (e.cutDone made).tailCleared = e.tailCleared from rfl, hcleared] at hx'
    cases hx'
  exact ⟨hcut, by rw [hcut, hentry]⟩

/-- A missed cut as its panel is claimed, before the report that it is resolved (R108). -/
def missedClaim (c : CutEntry) (s : State) : State :=
  let u := raiseNotice .cutMissed s
  if c.kind = .cut then scrapClaim c.owner .cutMissed u else u

theorem cutMissed_eq (c : CutEntry) (s : State) : cutMissed c s = resolveCut c.owner false (missedClaim c s) := rfl

theorem missedClaim_entry {c : CutEntry} {s : State} {e : MapEntry} (he : s.entry c.owner = some e) :
    (missedClaim c s).entry c.owner =
      some { e with scrap := if c.kind = .cut then e.scrap.or (some .cutMissed) else e.scrap } := by
  have hu : (raiseNotice .cutMissed s).entry c.owner = some e := (raiseNotice_entry _ _ _).trans he
  unfold missedClaim
  dsimp only
  split_ifs
  · exact scrapClaim_entry hu .cutMissed
  · exact hu

theorem missedClaim_latched (c : CutEntry) (s : State) : s.Latched (missedClaim c s) 21 := by
  have hraised : s.Latched (raiseNotice .cutMissed s) 21 := (State.Carries.refl s).latched_raise .cutMissed (by decide) rfl
  unfold missedClaim
  dsimp only
  split_ifs
  · exact hraised.carries (by decide) (scrapClaim_moves _ _ _).carries
  · exact hraised

theorem missedClaim_cuts (c : CutEntry) (s : State) :
    (missedClaim c s).cut.xcut.map CutEntry.mark = s.cut.xcut.map CutEntry.mark ∧
      (missedClaim c s).cut.cutFlight = s.cut.cutFlight := by
  have hcut : (raiseNotice .cutMissed s).cut = s.cut := by simp
  unfold missedClaim
  dsimp only
  split_ifs
  · rw [(scrapClaim_spares _ _ _).cuts, (scrapClaim_moves _ _ _).keepsCourses.cutFlight, hcut]
    exact ⟨rfl, rfl⟩
  · rw [hcut]
    exact ⟨rfl, rfl⟩

theorem missedClaim_frame (c : CutEntry) (s : State) : missedClaim c s = { s with
    map := (missedClaim c s).map, cut := (missedClaim c s).cut, links := (missedClaim c s).links
    notices := (missedClaim c s).notices } := by
  have hraised : raiseNotice .cutMissed s = { s with notices := (raiseNotice .cutMissed s).notices } := by
    rw [raiseNotice_eq_noticed .cutMissed s rfl]
    rfl
  unfold missedClaim
  dsimp only
  split_ifs
  · have hclaim := scrapClaim_eq_blocks c.owner .cutMissed (raiseNotice .cutMissed s)
    rw [hclaim]
    generalize scrapClaim c.owner .cutMissed (raiseNotice .cutMissed s) = v at *
    rw [hraised]
  · rw [hraised]

/-- A missed cut of a panel whose tail has not cleared (R108, R29). -/
theorem cutMissed_facts {c : CutEntry} {s : State} {e : MapEntry} (he : s.entry c.owner = some e) (hcleared : e.tailCleared = false) :
    (cutMissed c s).entry c.owner = some { e with
      cutsPending := e.cutsPending - 1, scrap := if c.kind = .cut then e.scrap.or (some .cutMissed) else e.scrap } ∧
    (cutMissed c s).cut.xcut.map CutEntry.mark = s.cut.xcut.map CutEntry.mark ∧
    (cutMissed c s).cut.cutFlight = s.cut.cutFlight ∧ s.Latched (cutMissed c s) 21 ∧
    cutMissed c s = { s with
      map := (cutMissed c s).map, cut := (cutMissed c s).cut, links := (cutMissed c s).links
      notices := (cutMissed c s).notices } := by
  obtain ⟨hresolved, hentry⟩ := resolveCut_entry (missedClaim_entry he) hcleared false
  obtain ⟨hcuts, hflight⟩ := missedClaim_cuts c s
  have hlatched := missedClaim_latched c s
  have hframe := missedClaim_frame c s
  rw [cutMissed_eq]
  refine ⟨hentry, ?_, ?_, ?_, ?_⟩ <;> rw [hresolved]
  · exact hcuts
  · exact hflight
  · exact hlatched
  · generalize missedClaim c s = u at *
    rw [hframe]
    rfl

theorem cutCrossing_missed {s : State} {c : CutEntry} {rest : List CutEntry} (hqueue : s.cut.xcut = c :: rest)
    (hposition : c.position = s.tracker.odometer) (h : ¬((s.link .xcut).state = .active ∧ (s.link .xcut).op = none)) :
    cutCrossing s = cutMissed c (s.setCut { s.cut with xcut := rest }) := by
  unfold cutCrossing
  rw [hqueue]
  dsimp only
  rw [if_pos hposition, requestOp_refused _ _ _ _ _ (show ¬(((s.setCut { s.cut with xcut := rest }).link .xcut).state = .active ∧
    ((s.setCut { s.cut with xcut := rest }).link .xcut).op = none) from h)]

/-- Settles O12: the front cut entry's position is reached. -/
theorem cutPositionIssuesOrMisses : Obligations.CutPositionIssuesOrMisses := by
  intro s a c rest hqueue hposition h
  obtain ⟨-, -, -, -, hcut, hlinks, -, -, -, -, -, -, hodometer⟩ := h.blocks
  have hqueue' : a.cut.xcut = c :: rest := by rw [hcut]; exact hqueue
  have hat : c.position = a.tracker.odometer := by rw [hodometer]; exact hposition
  have hlink : a.link .xcut = s.link .xcut := link_of_links_eq hlinks _
  have hreached := (exec_forward_point h).trans (congrArg Host.Outcome.next (cutCrossing_eq_cutReached hqueue' hat))
  refine ⟨hreached, fun hactive hop => ?_, fun hnot e he hcleared => ?_⟩
  · rw [hreached, State.cutReached]
    dsimp only
    rw [hlink, if_pos ⟨hactive, hop⟩]
    rfl
  · have hmissed : ¬((a.link .xcut).state = .active ∧ (a.link .xcut).op = none) := by
      rw [hlink]
      rintro ⟨hactive, hop⟩
      rcases hnot with h | h
      · exact h hactive
      · rw [hop] at h
        cases h
    have hstep := (exec_forward_point h).trans (congrArg Host.Outcome.next (cutCrossing_missed hqueue' hat hmissed))
    obtain ⟨hentry, hcuts, hflight, hlatched, hframe⟩ := cutMissed_facts (s := a.setCut { a.cut with xcut := rest })
      (c := c) ((h.entry _).trans he) hcleared
    refine ⟨_, _, hstep, hentry, rfl, hcuts, ?_, ?_, hframe⟩
    · rw [hflight, ← hcut]
      rfl
    · exact hlatched.before (h.carries.trans (.of_eq rfl))

end Sys2Proof.Machine
end

section
/-! Marks (O14): which window is open, what a mark, an opening and a closing window leave of the windows, and a mark beside the
window crossings of its odometer value (R66, log 25). -/

namespace Sys2Proof.Machine

/-! ### Windows by name -/

/-- The window record of the entry named. -/
def State.windowOf (s : State) (t : Target) : Option Window := (s.entry t).bind MapEntry.window

theorem windowOf_of_entry {s : State} {t : Target} {e : MapEntry} (he : s.entry t = some e) : s.windowOf t = e.window := by
  rw [State.windowOf, he, Option.bind_some]

theorem windowOf_of_map {s t : State} (h : t.map = s.map) (x : Target) : t.windowOf x = s.windowOf x := by
  rw [State.windowOf, State.windowOf, entry_of_entries_eq (congrArg PanelMap.entries h)]

/-- The crossings of a window are read off its record (R65). -/
theorem windowOpen_due_iff (s : State) (t : Target) : s.pointDue t .windowOpen = true ↔
    ∃ w ∈ s.windowOf t, w.status = .notOpen ∧ w.expected - w.halfWidth = s.tracker.odometer := by
  unfold State.pointDue State.windowOf
  cases s.entry t with
  | none => simp
  | some e => simp [MapEntry.crossing, Option.bind_eq_some_iff]

theorem windowClose_due_iff (s : State) (t : Target) : s.pointDue t .windowClose = true ↔
    ∃ w ∈ s.windowOf t, w.status = .opened ∧ w.expected + w.halfWidth = s.tracker.odometer := by
  unfold State.pointDue State.windowOf
  cases s.entry t with
  | none => simp
  | some e => simp [MapEntry.crossing, Option.bind_eq_some_iff]

/-- No window is OPEN. -/
def State.NoneOpen (s : State) : Prop := ∀ t, ∀ w ∈ s.windowOf t, w.status ≠ .opened

/-- No window but that of the entry named is OPEN (R65). -/
def State.OnlyOpen (s : State) (t : Target) : Prop := ∀ x, ∀ w ∈ s.windowOf x, w.status = .opened → x = t

theorem windowIs_iff (st : WindowStatus) (e : MapEntry) : e.windowIs st = true ↔ ∃ w ∈ e.window, w.status = st := by
  unfold MapEntry.windowIs
  cases e.window <;> simp

theorem entry_of_names {s : State} (hnames : NamesApart s.map) {e : MapEntry} (he : e ∈ s.map.entries) :
    s.entry e.target = some e := entry_of_mem hnames he ((named_iff_target _ _).2 rfl)

theorem noneOpen_of_openWindow {s : State} (h : s.openWindow = none) : s.NoneOpen := by
  intro t w hw hopen
  obtain ⟨e, he, hwindow⟩ := Option.bind_eq_some_iff.1 hw
  exact List.find?_eq_none.1 h e (List.mem_of_find?_eq_some he) ((windowIs_iff _ _).2 ⟨w, hwindow, hopen⟩)

theorem openWindow_of_noneOpen {s : State} (hnames : NamesApart s.map) (h : s.NoneOpen) : s.openWindow = none := by
  refine List.find?_eq_none.2 fun e he hopen => ?_
  obtain ⟨w, hw, hstatus⟩ := (windowIs_iff _ _).1 hopen
  exact h e.target w ((windowOf_of_entry (entry_of_names hnames he)).trans hw) hstatus

theorem openWindow_of_onlyOpen {s : State} (hnames : NamesApart s.map) {t : Target} {e : MapEntry} {w : Window}
    (he : s.entry t = some e) (hw : e.window = some w) (hopen : w.status = .opened) (h : s.OnlyOpen t) :
    s.openWindow = some e := by
  have hsome : (s.map.entries.find? (MapEntry.windowIs .opened)).isSome := List.find?_isSome.2
    ⟨e, List.mem_of_find?_eq_some he, (windowIs_iff _ _).2 ⟨w, hw, hopen⟩⟩
  obtain ⟨z, hz⟩ := Option.isSome_iff_exists.1 hsome
  obtain ⟨v, hv, hvopen⟩ := (windowIs_iff _ _).1 (List.find?_some hz)
  have hentry := entry_of_names hnames (List.mem_of_find?_eq_some hz)
  have htarget : z.target = t := h _ v ((windowOf_of_entry hentry).trans hv) hvopen
  rw [State.openWindow, hz, ← he, ← htarget, hentry]

theorem onlyOpen_of_oneWindowOpen {s : State} (hnames : NamesApart s.map) (hone : OneWindowOpen s) {e : MapEntry} (h : s.openWindow = some e) :
    s.OnlyOpen e.target := by
  intro x w hw hopen
  obtain ⟨y, hy, hwindow⟩ := Option.bind_eq_some_iff.1 hw
  have hopened : e.course.stand.Opened := (windowIs_iff _ _).1 (List.find?_some h)
  have htarget := (oneWindowOpen_iff hnames).1 hone y.course.stand (mem_stands.2 ⟨y, List.mem_of_find?_eq_some hy, rfl⟩)
    e.course.stand (mem_stands.2 ⟨e, List.mem_of_find?_eq_some h, rfl⟩) ⟨w, hwindow, hopen⟩ hopened
  exact (entry_named hy).symm.trans htarget

/-! ### Orphan marks (R69) -/

theorem raiseNotice_orphanMark (s : State) : raiseNotice .orphanMark s = s.orphaned := by
  have hgroup : s.inGroup .orphanMark = true ↔
      (s.line.state = .run ∨ s.line.state = .halting ∨ s.line.state = .held) := by
    show s.line.state.running = true ↔ _
    cases s.line.state <;> simp [LineState.running]
  unfold State.orphaned
  by_cases h : s.inGroup .orphanMark = true
  · rw [if_pos (hgroup.1 h)]
    exact raiseNotice_eq_noticed .orphanMark s h
  · rw [if_neg (fun hc => h (hgroup.2 hc)), raiseNotice, if_neg h]

theorem orphaned_blocks (s : State) : s.orphaned.map = s.map ∧ s.orphaned.tracker = s.tracker := by
  unfold State.orphaned
  split_ifs <;> exact ⟨rfl, rfl⟩

theorem markEvent_orphaned {s : State} (hnames : NamesApart s.map) (h : s.NoneOpen) : markEvent s = s.orphaned := by
  unfold markEvent
  rw [openWindow_of_noneOpen hnames h, raiseNotice_orphanMark]
  exact ite_self _

theorem markEvent_compared {s : State} {e : MapEntry} {w : Window} (hdebt : s.tracker.debt = 0) (he : s.openWindow = some e)
    (hw : e.window = some w) : markEvent s = comparedMark e w s := by
  unfold markEvent
  rw [if_neg (by omega), he]
  dsimp only
  rw [hw]

/-! ### A compared mark (R67) -/

theorem compareMark_eq (tolerance : Nat) (delta : Int) : compareMark tolerance delta =
    (if delta < -(tolerance : Int) then .ahead delta else if (tolerance : Int) < delta then .behind delta else .on delta) ∧
    (compareMark tolerance delta).offset = if -(tolerance : Int) ≤ delta ∧ delta ≤ tolerance then 0 else delta := by
  refine ⟨rfl, ?_⟩
  unfold compareMark
  split_ifs with h1 h2 h3 <;> simp only [RegResult.offset] <;> omega

/-- The entry as a mark compared with its window leaves it (R31, R67). -/
def MapEntry.compared (e : MapEntry) (w : Window) (s : State) : MapEntry :=
  e.resolve (compareMark s.reg.tolerance ((s.tracker.odometer : Int) - (w.expected : Int)))
    (compareMark s.reg.tolerance ((s.tracker.odometer : Int) - (w.expected : Int))).offset

theorem comparedMark_map (e : MapEntry) (w : Window) (s : State) {t : Target} (he : s.entry e.target = some e) :
    (comparedMark e w s).entry e.target = some (e.compared w s) ∧
      (t ≠ e.target → (comparedMark e w s).entry t = s.entry t) ∧ (comparedMark e w s).tracker = s.tracker ∧
      (comparedMark e w s).places = s.places := by
  let r := compareMark s.reg.tolerance ((s.tracker.odometer : Int) - (w.expected : Int))
  have hmap : (comparedMark e w s).map = (s.modifyEntry e.target (MapEntry.resolve r r.offset)).map := by
    simp [comparedMark, r]
  have hentry (x : Target) := entry_of_entries_eq (congrArg PanelMap.entries hmap) x
  refine ⟨(hentry _).trans (modifyEntry_entry_self _ (fun _ => rfl) he),
    fun h => (hentry _).trans (modifyEntry_entry_other (fun _ => rfl) h), by simp [comparedMark], ?_⟩
  exact (seen_of_entries (congrArg PanelMap.entries hmap)).trans
    (seen_modifyEntry e.target (MapEntry.resolve r r.offset) (fun _ => rfl) s)

theorem namesApart_of_places {s t : State} (h : t.places = s.places) (hs : NamesApart s.map) : NamesApart t.map := by
  rw [namesApart_iff, h]
  exact (namesApart_iff s).1 hs

/-- Under distinct slots an entry changed by its name is the one changed by its slot. -/
theorem updateEntry_eq_slot {s : State} (hnames : NamesApart s.map) {e : MapEntry} (he : s.entry e.target = some e)
    (f : MapEntry → MapEntry) :
    updateEntry e.target f s.map.entries = s.map.entries.map (fun y => if y.slot = e.slot then f e else y) := by
  refine List.map_congr_left fun y hy => ?_
  have hentry := entry_of_names hnames hy
  by_cases hslot : y.slot = e.slot
  · obtain ⟨-, hslots, -⟩ := hnames
    obtain rfl := List.inj_on_of_nodup_map hslots hy (List.mem_of_find?_eq_some he) hslot
    rw [if_pos ((named_iff_target _ _).2 rfl), if_pos rfl]
  · rw [if_neg (fun h => hslot ?_), if_neg hslot]
    rw [named_iff_target] at h
    exact congrArg Target.slot h

theorem comparedMark_compared {s : State} (hnames : NamesApart s.map) {e : MapEntry} {w : Window}
    (he : s.entry e.target = some e) (hw : e.window = some w) : ComparedMark e w s (comparedMark e w s) := by
  obtain ⟨hresult, hoffset⟩ := compareMark_eq s.reg.tolerance ((s.tracker.odometer : Int) - (w.expected : Int))
  have hcompared : e.compared w s = { e with
      window := some { w with status := .resolved }
      regResult := some (
        if (s.tracker.odometer : Int) - w.expected < -(s.reg.tolerance : Int) then .ahead ((s.tracker.odometer : Int) - w.expected)
        else if (s.reg.tolerance : Int) < (s.tracker.odometer : Int) - w.expected then
          .behind ((s.tracker.odometer : Int) - w.expected)
        else .on ((s.tracker.odometer : Int) - w.expected))
      offset := if -(s.reg.tolerance : Int) ≤ (s.tracker.odometer : Int) - w.expected ∧
        (s.tracker.odometer : Int) - w.expected ≤ s.reg.tolerance then 0 else (s.tracker.odometer : Int) - w.expected } := by
    rw [MapEntry.compared, hoffset, hresult, MapEntry.resolve, MapEntry.setWindow, hw]
    rfl
  obtain ⟨hentry, -, -, -⟩ := comparedMark_map e w s (t := e.target) he
  unfold ComparedMark
  dsimp only
  rw [← hcompared]
  let u := s.modifyEntry e.target (MapEntry.resolve (compareMark s.reg.tolerance ((s.tracker.odometer : Int) - (w.expected : Int)))
    (compareMark s.reg.tolerance ((s.tracker.odometer : Int) - (w.expected : Int))).offset)
  have hmark : comparedMark e w s = settleReads e.target (lockGood u) := rfl
  have hlocked : (lockGood u).entry e.target = some (e.compared w s) := by
    rw [← hentry, hmark]
    exact (entry_of_entries_eq (by simp) _).symm
  obtain ⟨v, hmem, hv, hports⟩ := settleReads_settles hlocked
  rw [hmark]
  refine ⟨?_, ?_, ?_, ?_, v, ?_, hv, fun p => ?_⟩
  · have hall : ∀ t : State, t.tracker = s.tracker → t.plans = s.plans → t.lam = s.lam → t.cut = s.cut → t.links = s.links →
        t.line = s.line → t.hold = s.hold → t.busy = s.busy → t.freeTick = s.freeTick → t.pending = s.pending →
        t = { s with map := t.map, reg := t.reg, ports := t.ports, notices := t.notices } := by
      intro t h1 h2 h3 h4 h5 h6 h7 h8 h9 h10
      cases t
      simp_all
    exact hall _ (by simp [u]) (by simp [u]) (by simp [u]) (by simp [u]) (by simp [u]) (by simp [u]) (by simp [u]) (by simp [u])
      (by simp [u]) (by simp [u])
  · have hmap : (settleReads e.target (lockGood u)).map = u.map := by simp
    rw [hmap]
    exact congrArg (fun es => ({ s.map with entries := es } : PanelMap)) (updateEntry_eq_slot hnames he _)
  · have hreg : (settleReads e.target (lockGood u)).reg = (lockGood u).reg := by simp
    rw [hreg, lockGood, setLock_reg]
    rfl
  · have hnotices : (settleReads e.target (lockGood u)).notices = (lockGood u).notices := by simp
    rw [State.level, hnotices]
    exact passLevel_level .regLock _ _ (by decide)
  · have hgapped : (settleReads e.target (lockGood u)).gapped = (lockGood u).gapped := by simp [State.gapped]
    rwa [hgapped]
  · rw [hports p]
    simp [State.port, u]

end Sys2Proof.Machine
end

section
/-! Marks (O14): a mark beside the window crossings of its odometer value, taken in either order (R66, log 25). -/

namespace Sys2Proof.Machine

/-! ### What a step leaves of the windows -/

/-- Of the windows only that of entry t has changed, to w; the web and the entries' places are as they were. -/
structure WindowStep (t : Target) (w : Option Window) (s u : State) : Prop where
  tracker : u.tracker = s.tracker
  places : u.places = s.places
  self : u.windowOf t = w
  other : ∀ x, x ≠ t → u.windowOf x = s.windowOf x

theorem WindowStep.names {t : Target} {w : Option Window} {s u : State} (h : WindowStep t w s u) (hs : NamesApart s.map) :
    NamesApart u.map := namesApart_of_places h.places hs

theorem WindowStep.onlyOpen {t : Target} {w : Option Window} {s u : State} (h : WindowStep t w s u) (hs : s.OnlyOpen t) :
    u.OnlyOpen t := by
  intro x v hv hopen
  by_contra hx
  rw [h.other x hx] at hv
  exact hx (hs x v hv hopen)

theorem WindowStep.noneOpen {t : Target} {w : Option Window} {s u : State} (h : WindowStep t w s u) (hs : s.OnlyOpen t)
    (hw : ∀ v ∈ w, v.status ≠ .opened) : u.NoneOpen := by
  intro x v hv hopen
  obtain rfl := h.onlyOpen hs x v hv hopen
  rw [h.self] at hv
  exact hw v hv hopen

theorem State.NoneOpen.onlyOpen {s : State} (h : s.NoneOpen) (t : Target) : s.OnlyOpen t :=
  fun x w hw hopen => absurd hopen (h x w hw)

theorem comparedMark_windowStep {s : State} {e : MapEntry} {w : Window} (he : s.entry e.target = some e)
    (hw : e.window = some w) : WindowStep e.target (some { w with status := .resolved }) s (comparedMark e w s) := by
  obtain ⟨hentry, -, htracker, hplaces⟩ := comparedMark_map e w s (t := e.target) he
  refine ⟨htracker, hplaces, ?_, fun x hx => ?_⟩
  · rw [windowOf_of_entry hentry, MapEntry.compared, MapEntry.resolve, MapEntry.setWindow, hw]
    rfl
  · obtain ⟨-, hother, -, -⟩ := comparedMark_map e w s (t := x) he
    rw [State.windowOf, hother hx, State.windowOf]

theorem modifyEntry_windowStep {s : State} {t : Target} {e : MapEntry} {f : MapEntry → MapEntry} (he : s.entry t = some e)
    (hf : ∀ x, (f x).place = x.place) : WindowStep t (f e).window s (s.modifyEntry t f) where
  tracker := rfl
  places := seen_modifyEntry t f hf s
  self := windowOf_of_entry (modifyEntry_entry_self f (fun x => congrArg Place.target (hf x)) he)
  other x hx := by rw [State.windowOf, modifyEntry_entry_other (fun x => congrArg Place.target (hf x)) hx, State.windowOf]

theorem entry_of_courses {s t : State} (h : t.courses = s.courses) (x : Target) :
    (t.entry x).map MapEntry.course = (s.entry x).map MapEntry.course := by
  have hfind (u : State) : (u.entry x).map MapEntry.course = u.courses.find? (fun c => decide (c.target = x)) := by
    have hnamed : MapEntry.named x = (fun c : Course => decide (c.target = x)) ∘ MapEntry.course := by
      funext e
      rw [Function.comp_apply, Bool.eq_iff_iff, named_iff_target, decide_eq_true_iff]
      rfl
    rw [State.entry, hnamed, State.courses, List.find?_map]
  rw [hfind, hfind, h]

theorem windowOf_of_courses {s t : State} (h : t.courses = s.courses) (x : Target) : t.windowOf x = s.windowOf x := by
  have hwindow (u : State) : u.windowOf x = ((u.entry x).map MapEntry.course).bind Course.window := by
    rw [State.windowOf]
    cases u.entry x <;> rfl
  rw [hwindow, hwindow, entry_of_courses h]

theorem closeCrossing_courses {s : State} {e : MapEntry} (he : s.entry e.target = some e) :
    (closeCrossing e.target s).courses = (s.modifyEntry e.target (MapEntry.resolve .unread 0)).courses := by
  have hmap : (closeCrossing e.target s).map = (unreadMarked e s).map := by
    rw [closeCrossing_eq he]
    simp
  have hmarked : (unreadMarked e s).courses = (s.modifyEntry e.target (MapEntry.resolve .unread 0)).courses := by
    unfold unreadMarked
    dsimp only
    split_ifs
    · exact (scrapClaim_moves _ _ _).keepsCourses.courses
    · rfl
  rw [State.courses, hmap]
  exact hmarked

theorem closeCrossing_windowStep {s : State} {e : MapEntry} (he : s.entry e.target = some e) :
    WindowStep e.target (e.window.map (fun w => { w with status := .resolved })) s (closeCrossing e.target s) := by
  have hcourses := closeCrossing_courses he
  obtain ⟨htracker, hplaces, hself, hother⟩ := modifyEntry_windowStep (f := MapEntry.resolve .unread 0) he (fun _ => rfl)
  have hseen : (closeCrossing e.target s).places = (s.modifyEntry e.target (MapEntry.resolve .unread 0)).places := by
    have hcourse (u : State) : u.places = u.courses.map Course.place := by
      rw [State.courses, List.map_map]
      rfl
    rw [hcourse, hcourse, hcourses]
  refine ⟨by simp, hseen.trans hplaces, (windowOf_of_courses hcourses _).trans hself, fun x hx => ?_⟩
  rw [windowOf_of_courses hcourses, hother x hx]

/-! ### An opening window -/

/-- The state with entry t's window record v OPEN. -/
def State.opens (u : State) (t : Target) (v : Window) : State :=
  u.changed t (fun x => { x with window := some { v with status := .opened } })

/-- Two changes of an entry that do the same to it are the same under distinct names. -/
theorem modifyEntry_congr {s : State} (hnames : NamesApart s.map) {t : Target} {e : MapEntry} (he : s.entry t = some e)
    {f g : MapEntry → MapEntry} (h : f e = g e) : s.modifyEntry t f = s.modifyEntry t g := by
  have hentries : updateEntry t f s.map.entries = updateEntry t g s.map.entries := by
    refine List.map_congr_left fun y hy => ?_
    split_ifs with hnamed
    · have hy' := entry_of_mem hnames hy hnamed
      rw [he] at hy'
      obtain rfl := Option.some.inj hy'
      exact h
    · rfl
  rw [State.modifyEntry, State.modifyEntry, hentries]

theorem openCrossing_eq_opens {s : State} (hnames : NamesApart s.map) {t : Target} {y : MapEntry} {v : Window}
    (hy : s.entry t = some y) (hv : y.window = some v) : openCrossing t s = s.opens t v := by
  rw [openCrossing, State.opens, ← State.modifyEntry_eq_changed]
  refine modifyEntry_congr hnames hy ?_
  rw [MapEntry.setWindow, hv]
  rfl

theorem opens_entry {s : State} {t : Target} {y : MapEntry} (hy : s.entry t = some y) (v : Window) :
    (s.opens t v).entry t = some { y with window := some { v with status := .opened } } := by
  rw [State.opens, ← State.modifyEntry_eq_changed]
  exact modifyEntry_entry_self (fun x : MapEntry => { x with window := some { v with status := .opened } }) (fun _ => rfl) hy

theorem opens_windowStep {s : State} {t : Target} {y : MapEntry} (hy : s.entry t = some y) (v : Window) :
    WindowStep t (some { v with status := .opened }) s (s.opens t v) := by
  rw [State.opens, ← State.modifyEntry_eq_changed]
  exact modifyEntry_windowStep (f := fun x => { x with window := some { v with status := .opened } }) hy (fun _ => rfl)

/-! ### Window crossings taken -/

/-- A window that is to open at odometer value o. -/
def Window.OpensAt (v : Window) (o : Nat) : Prop := v.status = .notOpen ∧ v.expected - v.halfWidth = o

theorem takeDue_opens {s : State} (hnames : NamesApart s.map) {t : Target} {y : MapEntry} {v : Window} (hy : s.entry t = some y)
    (hv : y.window = some v) (hat : v.OpensAt s.tracker.odometer) : takeDue (.point t .windowOpen) s = s.opens t v := by
  have hdue : s.pointDue t .windowOpen = true :=
    (windowOpen_due_iff s t).2 ⟨v, (windowOf_of_entry hy).trans hv, hat⟩
  rw [takeDue, if_pos hdue]
  exact openCrossing_eq_opens hnames hy hv

/-- A window that has resolved does not close again. -/
theorem takeDue_resolved {s : State} {t : Target} {w : Window} (hw : s.windowOf t = some w) (h : w.status ≠ .opened) :
    takeDue (.point t .windowClose) s = s := by
  refine if_neg fun hdue => ?_
  obtain ⟨x, hx, hopen, -⟩ := (windowClose_due_iff s t).1 hdue
  rw [hw] at hx
  obtain rfl := Option.some.inj hx
  exact h hopen

/-- A mark with window crossings due at its odometer value is taken somewhere among them (log 25). -/
theorem markRow_between {s : State} (h : s.windowsDue ≠ []) : ∃ k ≤ s.windowsDue.length, markRow s =
    endAdvance (takeWindows (s.windowsDue.drop k)
      (markEvent (takeWindows (s.windowsDue.take k) (s.setFreeTick (s.freeTick + 1))))) := by
  refine ⟨Config.markChoice s.freeTick % (s.windowsDue.length + 1), Nat.lt_succ_iff.1 (Nat.mod_lt _ (Nat.succ_pos _)), ?_⟩
  unfold markRow
  split
  · next hnil => exact absurd hnil h
  · rfl

/-- A state after which the advance that the mark ends is over. -/
def MarkEnds (s t : State) : Prop := ∃ n, exec .mark s = .next n ∧ AdvanceOver t n

theorem markEnds_of_markRow {s t : State} (h : markRow s = endAdvance t) : MarkEnds s t :=
  ⟨endAdvance t, congrArg Host.Outcome.next h, endAdvance_over t⟩

theorem opensAt_of_due {s : State} {t : Target} {y : MapEntry} {v : Window} (hy : s.entry t = some y) (hv : y.window = some v)
    (h : Due.point t .windowOpen ∈ s.windowsDue) : v.OpensAt s.tracker.odometer := by
  obtain ⟨w, hw, hat⟩ := (windowOpen_due_iff s t).1 (pointDue_of_mem_due (List.mem_filter.1 h).1)
  rw [windowOf_of_entry hy, hv] at hw
  obtain rfl := Option.some.inj hw
  exact hat

/-! ### A mark in each place among the crossings -/

/-- Orphan marks change neither the map nor the web. -/
theorem orphaned_opens {s : State} (hnames : NamesApart s.map) {t : Target} {y : MapEntry} {v : Window}
    (hy : s.entry t = some y) (hv : y.window = some v) (hat : v.OpensAt s.tracker.odometer) :
    takeDue (.point t .windowOpen) s.orphaned = s.orphaned.opens t v := by
  obtain ⟨hmap, htracker⟩ := orphaned_blocks s
  exact takeDue_opens (by rwa [hmap]) ((entry_of_entries_eq (congrArg PanelMap.entries hmap) t).trans hy) hv (by rwa [htracker])

/-- A mark right after a window has opened is compared with it. -/
theorem mark_after_open {s : State} (hnames : NamesApart s.map) (hdebt : s.tracker.debt = 0) {t : Target} {y : MapEntry}
    (hy : s.entry t = some y) (v : Window) (hother : s.OnlyOpen t) :
    ComparedMark { y with window := some { v with status := .opened } } v (s.opens t v) (markEvent (s.opens t v)) := by
  obtain rfl := entry_named hy
  have hstep := opens_windowStep hy v
  have hentry := opens_entry hy v
  have hopen := openWindow_of_onlyOpen (hstep.names hnames) hentry rfl rfl (hstep.onlyOpen hother)
  rw [markEvent_compared (w := { v with status := .opened }) (by rw [hstep.tracker]; exact hdebt) hopen rfl]
  exact comparedMark_compared (w := { v with status := .opened }) (hstep.names hnames) hentry rfl

theorem mark_with_opening {s : State} {y : MapEntry} {v : Window} (hnames : NamesApart s.map) (hdebt : s.tracker.debt = 0)
    (hnone : s.openWindow = none) (hy : s.entry y.target = some y) (hv : y.window = some v)
    (hdue : s.windowsDue = [.point y.target .windowOpen]) :
    let u : State := { s with freeTick := s.freeTick + 1 }
    MarkEnds s (u.orphaned.opens y.target v) ∨ ∃ t, MarkEnds s t ∧
      ComparedMark { y with window := some { v with status := .opened } } v (u.opens y.target v) t := by
  dsimp only
  have hat := opensAt_of_due hy hv (by simp [hdue])
  have hclosed : s.NoneOpen := noneOpen_of_openWindow hnone
  rcases markRow_either s _ hdue with hrow | hrow
  · rw [takeDue_opens (s := s.setFreeTick (s.freeTick + 1)) hnames hy hv hat] at hrow
    exact .inr ⟨_, markEnds_of_markRow hrow, mark_after_open (s := s.setFreeTick (s.freeTick + 1)) hnames hdebt hy v
      (hclosed.onlyOpen _)⟩
  · rw [markEvent_orphaned (s := s.setFreeTick (s.freeTick + 1)) hnames hclosed,
      orphaned_opens (s := s.setFreeTick (s.freeTick + 1)) hnames hy hv hat] at hrow
    exact .inl (markEnds_of_markRow hrow)

theorem mem_windowsDue_pointDue {s : State} {t : Target} {p : Point} (h : Due.point t p ∈ s.windowsDue) : s.pointDue t p = true :=
  pointDue_of_mem_due (List.mem_filter.1 h).1

/-- The crossing of an OPEN window that closes, taken: UNREAD, and no window open. -/
theorem close_first {s : State} {e : MapEntry} (hnames : NamesApart s.map) (hone : OneWindowOpen s) (hopen : s.openWindow = some e)
    (hdue : Due.point e.target .windowClose ∈ s.windowsDue) :
    let u := s.setFreeTick (s.freeTick + 1)
    takeDue (.point e.target .windowClose) u = closeCrossing e.target u ∧ ClosedUnread e u (closeCrossing e.target u) ∧
      markEvent (closeCrossing e.target u) = (closeCrossing e.target u).orphaned ∧
      (closeCrossing e.target u).NoneOpen := by
  dsimp only
  have he := entry_of_names hnames (List.mem_of_find?_eq_some hopen)
  have honly : (s.setFreeTick (s.freeTick + 1)).OnlyOpen e.target := onlyOpen_of_oneWindowOpen hnames hone hopen
  have hstep := closeCrossing_windowStep (s := s.setFreeTick (s.freeTick + 1)) he
  have hnone := hstep.noneOpen honly (by simp)
  refine ⟨?_, closeCrossing_unread he, markEvent_orphaned (hstep.names hnames) hnone, hnone⟩
  rw [takeDue, if_pos (show (s.setFreeTick (s.freeTick + 1)).pointDue e.target .windowClose = true from
    mem_windowsDue_pointDue hdue)]
  rfl

/-- A mark compared with the OPEN window before that closes; the closing is then over. -/
theorem mark_first {s : State} {e : MapEntry} {w : Window} (hnames : NamesApart s.map) (hdebt : s.tracker.debt = 0)
    (hopen : s.openWindow = some e) (hw : e.window = some w) :
    let u := s.setFreeTick (s.freeTick + 1)
    markEvent u = comparedMark e w u ∧ ComparedMark e w u (comparedMark e w u) ∧
      takeDue (.point e.target .windowClose) (comparedMark e w u) = comparedMark e w u := by
  dsimp only
  have he := entry_of_names hnames (List.mem_of_find?_eq_some hopen)
  refine ⟨markEvent_compared hdebt hopen hw, comparedMark_compared (s := s.setFreeTick (s.freeTick + 1)) hnames he hw, ?_⟩
  have hstep := comparedMark_windowStep (s := s.setFreeTick (s.freeTick + 1)) he hw
  exact takeDue_resolved hstep.self (by simp)

theorem mark_with_closing {s : State} {e : MapEntry} {w : Window} (hnames : NamesApart s.map) (hone : OneWindowOpen s)
    (hdebt : s.tracker.debt = 0) (hopen : s.openWindow = some e) (hw : e.window = some w)
    (hdue : s.windowsDue = [.point e.target .windowClose]) :
    let u : State := { s with freeTick := s.freeTick + 1 }
    (∃ t, MarkEnds s t ∧ ComparedMark e w u t) ∨ ∃ t, MarkEnds s t.orphaned ∧ ClosedUnread e u t := by
  dsimp only
  obtain ⟨htake, hunread, horphan, -⟩ := close_first hnames hone hopen (by simp [hdue])
  obtain ⟨hmark, hcompared, hstays⟩ := mark_first hnames hdebt hopen hw
  rcases markRow_either s _ hdue with hrow | hrow
  · rw [htake, horphan] at hrow
    exact .inr ⟨_, markEnds_of_markRow hrow, hunread⟩
  · rw [hmark, hstays] at hrow
    exact .inl ⟨_, markEnds_of_markRow hrow, hcompared⟩

/-- Another entry's window that is to open, while the first one's is closed. -/
theorem other_window {s u : State} {t : Target} {w : Option Window} {y : MapEntry} {v : Window} (h : WindowStep t w s u)
    (hy : s.entry y.target = some y) (hv : y.window = some v) (hne : y.target ≠ t) (hat : v.OpensAt s.tracker.odometer) :
    ∃ z, u.entry y.target = some z ∧ z.window = some v ∧ v.OpensAt u.tracker.odometer := by
  have hwindow := h.other _ hne
  rw [windowOf_of_entry hy, hv] at hwindow
  obtain ⟨z, hz, hzv⟩ := Option.bind_eq_some_iff.1 hwindow
  exact ⟨z, hz, hzv, by rwa [h.tracker]⟩

theorem mark_with_both {s : State} {e y : MapEntry} {w v : Window} (hnames : NamesApart s.map) (hone : OneWindowOpen s)
    (hdebt : s.tracker.debt = 0) (hopen : s.openWindow = some e) (hw : e.window = some w) (hy : s.entry y.target = some y)
    (hv : y.window = some v) (hne : y.target ≠ e.target)
    (hdue : s.windowsDue = [.point e.target .windowClose, .point y.target .windowOpen]) :
    let u : State := { s with freeTick := s.freeTick + 1 }
    (∃ t, MarkEnds s (t.opens y.target v) ∧ ComparedMark e w u t) ∨
      (∃ t, MarkEnds s (t.orphaned.opens y.target v) ∧ ClosedUnread e u t) ∨
      ∃ t n z, MarkEnds s n ∧ ClosedUnread e u t ∧ t.entry y.target = some z ∧
        ComparedMark { z with window := some { v with status := .opened } } v (t.opens y.target v) n := by
  dsimp only
  have he := entry_of_names hnames (List.mem_of_find?_eq_some hopen)
  have hat : v.OpensAt s.tracker.odometer := opensAt_of_due hy hv (by simp [hdue])
  obtain ⟨htake, hunread, horphan, hnone⟩ := close_first hnames hone hopen (by simp [hdue])
  obtain ⟨hmark, hcompared, hstays⟩ := mark_first hnames hdebt hopen hw
  have hclosed := closeCrossing_windowStep (s := s.setFreeTick (s.freeTick + 1)) he
  have hcomparedStep := comparedMark_windowStep (s := s.setFreeTick (s.freeTick + 1)) he hw
  obtain ⟨z, hz, hzv, hzat⟩ := other_window hclosed hy hv hne hat
  obtain ⟨x, hx, hxv, hxat⟩ := other_window hcomparedStep hy hv hne hat
  obtain ⟨k, hk, hrow⟩ := markRow_between (s := s) (by simp [hdue])
  rw [hdue] at hk hrow
  have hthree : k = 0 ∨ k = 1 ∨ k = 2 := by
    simp only [List.length_cons, List.length_nil] at hk
    omega
  rcases hthree with rfl | rfl | rfl
  · simp only [List.take_zero, List.drop_zero, takeWindows, List.foldl_cons, List.foldl_nil] at hrow
    rw [hmark, hstays, takeDue_opens (hcomparedStep.names hnames) hx hxv hxat] at hrow
    exact .inl ⟨_, markEnds_of_markRow hrow, hcompared⟩
  · simp only [List.take_succ_cons, List.take_zero, List.drop_succ_cons, List.drop_zero, takeWindows, List.foldl_cons,
      List.foldl_nil] at hrow
    rw [htake, horphan, orphaned_opens (hclosed.names hnames) hz hzv hzat] at hrow
    exact .inr (.inl ⟨_, markEnds_of_markRow hrow, hunread⟩)
  · simp only [List.take_succ_cons, List.take_zero, List.drop_succ_cons, List.drop_zero, takeWindows, List.foldl_cons,
      List.foldl_nil] at hrow
    rw [htake, takeDue_opens (hclosed.names hnames) hz hzv hzat] at hrow
    refine .inr (.inr ⟨_, _, z, markEnds_of_markRow hrow, hunread, hz, ?_⟩)
    exact mark_after_open (hclosed.names hnames) (by rw [hclosed.tracker]; exact hdebt) hz v (hnone.onlyOpen _)

theorem marksAlone : MarksAlone := by
  intro s hnone
  have hrow : exec .mark s = .next (markEvent s) := congrArg Host.Outcome.next (markRow_alone s hnone)
  refine ⟨fun h => ?_, fun e w hnames hdebt hopen hw => ?_⟩
  · rw [hrow, ← raiseNotice_orphanMark]
    unfold markEvent
    by_cases hdebt : 0 < s.tracker.debt
    · rw [if_pos hdebt]
    · have hclosed : s.openWindow = none := List.find?_eq_none.2 fun e he hopen => by
        obtain ⟨w, hw, hstatus⟩ := (windowIs_iff _ _).1 hopen
        exact h.resolve_left hdebt e he w hw hstatus
      rw [if_neg hdebt, hclosed]
  · refine ⟨_, ?_, comparedMark_compared hnames (entry_of_names hnames (List.mem_of_find?_eq_some hopen)) hw⟩
    rw [hrow, markEvent_compared hdebt hopen hw]

theorem marksMeetWindowCrossings : MarksMeetWindowCrossings := fun _ _ _ _ _ hnames hone hdebt =>
  ⟨fun hnone hy hv hdue => mark_with_opening hnames hdebt hnone hy hv hdue,
    fun hopen hw hdue => mark_with_closing hnames hone hdebt hopen hw hdue,
    fun hopen hw hy hv hne hdue => mark_with_both hnames hone hdebt hopen hw hy hv hne hdue⟩

/-- Settles O14: marks, alone and beside window crossings. -/
theorem marksAreComparedOrOrphans : Obligations.MarksAreComparedOrOrphans := ⟨marksAlone, marksMeetWindowCrossings⟩

end Sys2Proof.Machine
end

section
/-! The emergency stop (O15) and the timers of the line (O16): how the line comes to rest. -/

namespace Sys2Proof.Machine

/-! ### Coming to rest (R140, R146, R149) -/

/-- Parking changes of the line only the orders owed. -/
theorem parkOrOwe_line (l : LinkId) (s : State) : ∃ owed, (parkOrOwe l s).line = { s.line with owed := owed } := by
  unfold parkOrOwe
  dsimp only
  split_ifs
  · exact ⟨s.line.owed, by simp⟩
  · exact ⟨_, rfl⟩
  · exact ⟨s.line.owed, by simp⟩
  · exact ⟨s.line.owed, rfl⟩

theorem foldParkOrOwe_line (ls : List LinkId) (s : State) :
    ∃ owed, (ls.foldl (fun s l => parkOrOwe l s) s).line = { s.line with owed := owed } := by
  induction ls generalizing s with
  | nil => exact ⟨s.line.owed, rfl⟩
  | cons l ls ih =>
    obtain ⟨owed, h⟩ := parkOrOwe_line l s
    obtain ⟨owed', h'⟩ := ih (parkOrOwe l s)
    exact ⟨owed', by rw [List.foldl_cons, h', h]⟩

/-- The line as it comes to rest (R140, R146). -/
structure AtRest (s t : State) : Prop where
  state : t.line.state = if s.line.state = .halting then .held else .stopped
  commanded : t.line.commanded = 0
  target : t.line.target = 0
  rampTimer : t.line.rampTimer = none
  kept : t.line.setSpeed = s.line.setSpeed ∧ t.line.estop = s.line.estop

theorem enterLine_atRest {s : State} {st : LineState} (hrest : st ≠ .run) (h : s.line.commanded = 0) :
    (enterLine st s).line.state = st ∧ (enterLine st s).line.commanded = 0 ∧ (enterLine st s).line.target = 0 ∧
      (enterLine st s).line.rampTimer = none ∧ (enterLine st s).line.setSpeed = s.line.setSpeed ∧
      (enterLine st s).line.estop = s.line.estop := by
  rw [enterLine_line_eq, lineIn_of_not_run hrest]
  exact ⟨rfl, h, rfl, if_pos h, rfl, rfl⟩

theorem settleAtRest_atRest {s : State} (h : s.line.commanded = 0) (hstate : s.line.state = .halting ∨ s.line.state = .stopping) :
    AtRest s (settleAtRest s) := by
  unfold settleAtRest
  rw [if_pos h]
  rcases hstate with hstate | hstate
  · obtain ⟨hst, hcommanded, htarget, htimer, hspeed, hestop⟩ := enterLine_atRest (st := .held) (by simp) h
    rw [hstate]
    exact ⟨by rw [hst, if_pos hstate], hcommanded, htarget, htimer, hspeed, hestop⟩
  · obtain ⟨hst, hcommanded, htarget, htimer, hspeed, hestop⟩ := enterLine_atRest (st := .stopped) (by simp) h
    obtain ⟨owed, hline⟩ := foldParkOrOwe_line allLinks (enterLine .stopped s)
    rw [hstate]
    have hstopped : (enterStopped s).line = { (enterLine .stopped s).line with owed := owed } := hline
    dsimp only
    refine ⟨?_, ?_, ?_, ?_, ?_, ?_⟩ <;> rw [hstopped]
    · rw [hst, if_neg (by simp [hstate])]
    · exact hcommanded
    · exact htarget
    · exact htimer
    · exact hspeed
    · exact hestop

theorem settleAtRest_of_moving {s : State}
    (h : s.line.commanded ≠ 0 ∨ (s.line.state ≠ .halting ∧ s.line.state ≠ .stopping)) : settleAtRest s = s := by
  unfold settleAtRest
  split_ifs with hzero
  · obtain ⟨hhalting, hstopping⟩ := h.resolve_left (fun hne => hne hzero)
    cases hstate : s.line.state <;> simp_all
  · rfl

theorem settleAtRest_links {s : State} (h : s.line.state ≠ .stopping) : (settleAtRest s).links = s.links := by
  unfold settleAtRest
  split_ifs
  · split
    · simp
    · next hstate => exact absurd hstate h
    · rfl
  · rfl

/-- What a fault hold request leaves of the line besides its state: a line in RUN goes to HALTING, or to HELD where it is at rest. -/
theorem faultHold_line_fields (reason : HoldReason) (detail : FaultDetail) (s : State) :
    let k := (faultHold reason detail s).line
    k.state = (if s.line.state = .run then (if s.line.commanded = 0 then .held else .halting) else s.line.state) ∧
      k.setSpeed = s.line.setSpeed ∧ k.estop = s.line.estop := by
  obtain ⟨-, -, hhalt, -, -⟩ := faultHold_reported reason detail s
  dsimp only
  rw [show (faultHold reason detail s).line = _ from hhalt]
  split_ifs <;> exact ⟨rfl, rfl, rfl⟩

/-! ### The emergency stop (R152) -/

/-- The emergency stop before the line settles: the hold requested, the commanded speed 0, no ramp. -/
def stopping (s : State) : State :=
  let u := faultHold .estop noDetail (s.setLine { s.line with estop := true })
  let v := setSpeeds 0 u.line.target u
  v.setLine { v.line with rampTimer := none }

theorem emergencyStop_eq (s : State) : emergencyStop s = settleAtRest (stopping s) := rfl

theorem stopping_line (s : State) : (stopping s).line.estop = true ∧ (stopping s).line.commanded = 0 ∧
    (stopping s).line.rampTimer = none ∧ (stopping s).line.setSpeed = s.line.setSpeed ∧ (stopping s).line.state =
      (if s.line.state = .run then (if s.line.commanded = 0 then .held else .halting) else s.line.state) := by
  obtain ⟨hstate, hspeed, hestop⟩ := faultHold_line_fields .estop noDetail (s.setLine { s.line with estop := true })
  unfold stopping
  dsimp only
  rw [setSpeeds_eq]
  exact ⟨hestop, rfl, rfl, hspeed, hstate⟩

theorem stopping_notices (s : State) : s.Carries (stopping s) ∧ s.Latched (stopping s) 17 ∧
    (stopping s).level .holdActive = true := by
  let u := faultHold .estop noDetail (s.setLine { s.line with estop := true })
  have hset : s.Carries (s.setLine { s.line with estop := true }) := .of_eq rfl
  have hspeeds : u.Carries (stopping s) := (setSpeeds_carries 0 u.line.target u).trans (.of_eq rfl)
  refine ⟨hset.trans ((faultHold_carries _ _ _).trans hspeeds), ?_, ?_⟩
  · exact ((faultHold_latched .estop noDetail _).before hset).carries (by decide) hspeeds
  · exact (setSpeeds_level 0 u.line.target u .holdActive).trans (faultHold_holdActive _ _ _)

theorem stopping_hold (s : State) : (stopping s).hold = (faultHold .estop noDetail (s.setLine { s.line with estop := true })).hold := by
  simp [stopping]

theorem stopping_links (s : State) : (stopping s).links = s.links := by
  have hfault := faultHold_links .estop noDetail (s.setLine { s.line with estop := true })
  simpa [stopping] using hfault

theorem fault_stack_ne (reason : HoldReason) (detail : FaultDetail) (s : State) : (faultHold reason detail s).hold.stack ≠ [] := by
  rw [faultHold_hold]
  exact takeFault_stack_ne reason detail s

theorem stopping_agrees (s : State) : (stopping s).Agrees .holdActive := by
  intro v hv
  obtain rfl : (stopping s).holdActive = v := Option.some.inj hv
  obtain ⟨-, -, hlevel⟩ := stopping_notices s
  rw [hlevel, State.holdActive, stopping_hold]
  simpa using fault_stack_ne .estop noDetail (s.setLine { s.line with estop := true })

/-- The line as the emergency stop leaves it (R152). -/
theorem emergencyStop_line (s : State) : (emergencyStop s).line.estop = true ∧ (emergencyStop s).line.commanded = 0 ∧
    (emergencyStop s).line.rampTimer = none ∧ (emergencyStop s).line.setSpeed = s.line.setSpeed ∧
    (emergencyStop s).line.state = (match s.line.state with
      | .run => .held
      | .halting => .held
      | .stopping => .stopped
      | st => st) := by
  obtain ⟨hestop, hcommanded, htimer, hspeed, hstate⟩ := stopping_line s
  rw [emergencyStop_eq]
  by_cases hmoves : (stopping s).line.state = .halting ∨ (stopping s).line.state = .stopping
  · obtain ⟨hst, hrest, -, hnone, hsp, hes⟩ := settleAtRest_atRest hcommanded hmoves
    refine ⟨hes.trans hestop, hrest, hnone, hsp.trans hspeed, ?_⟩
    rw [hst, hstate]
    rw [hstate] at hmoves
    by_cases hzero : s.line.commanded = 0 <;> cases hline : s.line.state <;> simp_all
  · rw [settleAtRest_of_moving (.inr (not_or.1 hmoves))]
    refine ⟨hestop, hcommanded, htimer, hspeed, ?_⟩
    rw [hstate] at hmoves ⊢
    by_cases hzero : s.line.commanded = 0 <;> cases hline : s.line.state <;> simp_all

/-- Settles O15: the emergency stop. -/
theorem emergencyStopBringsTheLineToRest : Obligations.EmergencyStopBringsTheLineToRest := by
  intro s
  obtain ⟨hestop, hcommanded, htimer, hspeed, hstate⟩ := emergencyStop_line s
  obtain ⟨-, hlatched, -⟩ := stopping_notices s
  have hmoves : LineMoves (stopping s) (emergencyStop s) := settleAtRest_moves _
  have hhold : (emergencyStop s).hold = (faultHold .estop noDetail (s.setLine { s.line with estop := true })).hold := by
    rw [emergencyStop_eq, ← stopping_hold]
    simp
  refine ⟨rfl, emergencyStop s, rfl, hestop, hcommanded, htimer, hstate, hspeed, ?_, ?_, hlatched.carries (by decide) hmoves.carries,
    fun hnot => ?_, ?_⟩
  · exact (faultHold_reported .estop noDetail (s.setLine { s.line with estop := true })).2.1.congr rfl rfl rfl rfl hhold
  · have hactive : (emergencyStop s).level .holdActive = (emergencyStop s).holdActive := hmoves.agrees (stopping_agrees s) _ rfl
    rw [hactive, State.holdActive, hhold]
    simpa using fault_stack_ne .estop noDetail (s.setLine { s.line with estop := true })
  · obtain ⟨-, -, -, -, hst⟩ := stopping_line s
    have hnot' : (stopping s).line.state ≠ .stopping := by
      rw [hst]
      split_ifs
      · simp
      · simp
      · exact hnot
    exact (settleAtRest_links hnot').trans (stopping_links s)
  · obtain ⟨htracker, hmap, hplans, hreg, hlam, hcut, hports, hbusy, htick, hpending⟩ := emergencyStop_frame s
    have hblocks := eq_of_blocks htracker hmap hplans hreg hlam hcut hports hbusy htick hpending
    exact hblocks

/-! ### The timers of the line (R14, R149, R150, R187) -/

/-- The commanded speed a step nearer the target (R149). -/
def LineControl.stepped (k : LineControl) : Nat := if k.commanded < k.target then k.commanded + 1 else k.commanded - 1

/-- The ramp timer's expiry before the line settles. -/
theorem rampExpiry_eq {s : State} (hruns : s.line.rampTimer.isSome) (hdiffer : s.line.commanded ≠ s.line.target) :
    rampExpiry s = settleAtRest { s with
      line := { s.line with
        commanded := s.line.stepped, rampTimer := if s.line.stepped = s.line.target then none else some 5 }
      notices := speedNotices s s.line.stepped s.line.target } := by
  unfold rampExpiry
  rw [if_pos hruns]
  dsimp only
  rw [setSpeeds_eq]
  have hsteered : ({ s.line with rampTimer := some Config.rampMs } : LineControl).steered s.line.stepped s.line.target =
      { s.line with commanded := s.line.stepped, rampTimer := if s.line.stepped = s.line.target then none else some 5 } := by
    unfold LineControl.steered
    dsimp only
    rw [if_neg hdiffer]
    rfl
  exact congrArg (fun k => settleAtRest { s with line := k, notices := speedNotices s s.line.stepped s.line.target }) hsteered

theorem settleAtRest_eq_blocks (s : State) : settleAtRest s =
    { s with line := (settleAtRest s).line, links := (settleAtRest s).links, notices := (settleAtRest s).notices } := by
  have hblocks := eq_of_blocks (s := s) (t := settleAtRest s) (by simp) (by simp) (by simp) (by simp) (by simp) (by simp) (by simp)
    (by simp) (by simp) (by simp)
  have hhold : (settleAtRest s).hold = s.hold := by simp
  rwa [hhold] at hblocks

theorem speedNotices_latched {s : State} {commanded target : Nat} (hdiffer : s.line.commanded ≠ s.line.target)
    (h : commanded = target) (k : LineControl) :
    s.Latched { s with line := k, notices := speedNotices s commanded target } 20 := by
  have hnoticed := noticed_latched .speedReached (s := s) (by decide) rfl
  rw [speedNotices, if_pos ⟨hdiffer, h⟩]
  exact hnoticed

theorem rampMovesTheCommandedSpeed : RampMovesTheCommandedSpeed := by
  intro s
  refine ⟨fun hnone => ?_, fun hruns hdiffer => ⟨fun hmoving => ?_, fun hzero hstate => ?_⟩⟩
  · exact congrArg Host.Outcome.next (if_neg (by simp [hnone]))
  · have hramp := rampExpiry_eq hruns hdiffer
    rw [settleAtRest_of_moving (by exact hmoving)] at hramp
    exact congrArg Host.Outcome.next hramp
  · have hramp := rampExpiry_eq hruns hdiffer
    let u : State := { s with
      line := { s.line with
        commanded := s.line.stepped, rampTimer := if s.line.stepped = s.line.target then none else some 5 }
      notices := speedNotices s s.line.stepped s.line.target }
    obtain ⟨hst, hcommanded, htarget, -, -⟩ := settleAtRest_atRest (s := u) hzero hstate
    have hblocks := settleAtRest_eq_blocks u
    refine ⟨settleAtRest u, congrArg Host.Outcome.next hramp, hst, hcommanded, htarget, fun htop => ?_, hblocks⟩
    have hreached : s.Latched u 20 := speedNotices_latched hdiffer (hzero.trans htop.symm) _
    exact hreached.carries (by decide) (settleAtRest_moves u).carries

theorem pulseAndBusyPeriodEnd : PulseAndBusyPeriodEnd := by
  intro s
  refine ⟨rfl, congrArg Host.Outcome.next ?_⟩
  unfold busyExpiry
  split_ifs
  · rw [raiseNotice_eq_took _ _ rfl]
    rfl
  · rfl

/-- Settles O16: the ramp timer, the SYNC pulse and the busy timer. -/
theorem timersOfTheLineExpire : Obligations.TimersOfTheLineExpire := ⟨rampMovesTheCommandedSpeed, pulseAndBusyPeriodEnd⟩

end Sys2Proof.Machine
end

section
/-! Frames to and from the stations (O17): the sixteen bytes sent and the six judged (R154, R155, R201). -/

namespace Sys2Proof.Machine

/-! ### Frames sent -/

theorem padTo_length (n : Nat) (xs : List Nat) : (padTo n xs).length = n := by
  simp [padTo]

theorem words_length (xs : List Nat) : (words xs).length = 2 * xs.length := by
  induction xs with
  | nil => rfl
  | cons x xs ih =>
    rw [words, List.flatMap_cons, List.length_append, ← words, ih]
    simp only [be16, List.length_cons, List.length_nil]
    omega

theorem sum_bytes_le (bs : Bytes) : (bs.map (fun b => b.toNat)).sum ≤ 255 * bs.length := by
  induction bs with
  | nil => simp
  | cons b bs ih =>
    have hb := b.isLt
    simp only [List.map_cons, List.sum_cons, List.length_cons]
    omega

theorem u16_be16 {n : Nat} (h : n < 65536) : u16 (byteOf (n / 256)) (byteOf n) = n := by
  simp only [u16, byteOf, BitVec.toNat_ofNat]
  omega

/-- A check makes the bytes before it and itself add up to 65535 (R201). -/
theorem frameCheck_adds {bs : Bytes} (h : bs.length ≤ 14) :
    (bs.map (fun b => b.toNat)).sum + frameCheck bs = 65535 ∧ frameCheck bs < 65536 := by
  have hsum := sum_bytes_le bs
  unfold frameCheck
  generalize (bs.map (fun b => b.toNat)).sum = n at *
  omega

/-- The bytes of a frame as R201 lays them out. -/
structure FrameBytes (b : Bytes) (code : Nat) (second : Byte) (ws : List Nat) : Prop where
  length : b.length = 16
  head : b.head? = some (BitVec.ofNat 8 code)
  second : b[1]? = some second
  words : (b.drop 2).take 12 = ws.flatMap (fun w => [BitVec.ofNat 8 (w / 256), BitVec.ofNat 8 w])
  check : ((b.take 14).map (fun x => x.toNat)).sum + u16 (b.getD 14 0) (b.getD 15 0) = 65535

theorem encodeFrame_bytes (c : StationCommand) (tag kind : Nat) (params : List Nat) :
    FrameBytes (encodeFrame c tag kind params) c.code (byteOf (tag * 16 + kind)) (padTo 6 params) := by
  let body : Bytes := [byteOf c.code, byteOf (tag * 16 + kind)] ++ words (padTo 6 params)
  have hwords : (words (padTo 6 params)).length = 12 := by rw [words_length, padTo_length]
  have hbody : body.length = 14 := by simp [body, hwords]
  have hframe : encodeFrame c tag kind params = body ++ [byteOf (frameCheck body / 256), byteOf (frameCheck body)] := rfl
  obtain ⟨hsum, hlt⟩ := frameCheck_adds (bs := body) (by omega)
  rw [hframe]
  refine ⟨by simp [hbody], rfl, rfl, ?_, ?_⟩
  · show ((words (padTo 6 params) ++ _).take 12) = _
    rw [List.take_left' hwords]
    rfl
  · have hlast : (body ++ [byteOf (frameCheck body / 256), byteOf (frameCheck body)]).getD 14 0 = byteOf (frameCheck body / 256) ∧
        (body ++ [byteOf (frameCheck body / 256), byteOf (frameCheck body)]).getD 15 0 = byteOf (frameCheck body) := by
      rw [List.getD_append_right _ _ _ _ (by omega), List.getD_append_right _ _ _ _ (by omega), hbody]
      exact ⟨rfl, rfl⟩
    rw [List.take_left' hbody, hlast.1, hlast.2, u16_be16 hlt]
    exact hsum

/-- The tag and kind byte of a link's frame (R154). -/
def frameTag (k : Link) : Byte :=
  match commandCode k, k.op with
  | 4, some o => BitVec.ofNat 8 (o.tag * 16 + o.kind.code)
  | _, _ => 0#8

theorem command_code (k : Link) : k.command.code = commandCode k := by
  unfold Link.command commandCode
  cases k.state
  case armed => dsimp only; split_ifs <;> rfl
  case active => dsimp only; split_ifs <;> rfl
  case slipped => dsimp only; split_ifs <;> rfl
  all_goals rfl

/-- A link's frame is the one that its state and its operation call for. -/
theorem frameOf_encodes (l : LinkId) (commanded : Nat) (k : Link) (hop : ∀ o ∈ k.op, o.params.length = 6) :
    ∃ c tag kind params, frameOf l commanded k = encodeFrame c tag kind params ∧ c.code = commandCode k ∧
      byteOf (tag * 16 + kind) = frameTag k ∧ padTo 6 params = frameWords l commanded k := by
  have hcode := command_code k
  unfold frameOf frameTag frameWords
  rw [← hcode]
  cases hc : k.command <;> cases hk : k.op
  case op.some o =>
    refine ⟨_, _, _, _, rfl, rfl, rfl, ?_⟩
    have hlength := hop o hk
    simp [padTo, StationCommand.code, hlength]
  case run.none =>
    refine ⟨_, _, _, _, rfl, rfl, rfl, ?_⟩
    by_cases hl : l = .feed <;> simp [hl, padTo, StationCommand.code]
  case run.some =>
    refine ⟨_, _, _, _, rfl, rfl, rfl, ?_⟩
    by_cases hl : l = .feed <;> simp [hl, padTo, StationCommand.code]
  all_goals exact ⟨_, _, _, _, rfl, rfl, rfl, rfl⟩

theorem framesSentFollowTheLinkState : FramesSentFollowTheLinkState := by
  intro l commanded k hop
  obtain ⟨c, tag, kind, params, hframe, hcode, htag, hwords⟩ := frameOf_encodes l commanded k hop
  obtain ⟨hlength, hhead, hsecond, hbytes, hcheck⟩ := encodeFrame_bytes c tag kind params
  rw [← hframe] at hlength hhead hsecond hbytes hcheck
  rw [hcode] at hhead
  rw [htag] at hsecond
  rw [hwords] at hbytes
  exact ⟨hlength, hhead, hsecond, hbytes, hcheck⟩

/-! ### Frames received -/

theorem indicationOf_eq_some {n : Nat} {code : Indication} (h : indicationOf n = some code) : code.code = n ∧ n ≤ 5 := by
  unfold indicationOf at h
  split at h <;> cases h <;> simp [Indication.code]

theorem indicationOf_isSome {n : Nat} (h : n ≤ 5) : ∃ code, indicationOf n = some code := by
  interval_cases n <;> exact ⟨_, rfl⟩

theorem frameCheck_eq_iff (c t r1 r0 k1 k0 : Byte) : u16 k1 k0 = frameCheck [c, t, r1, r0] ↔
    c.toNat + t.toNat + r1.toNat + r0.toNat + (k1.toNat * 256 + k0.toNat) = 65535 := by
  obtain ⟨hsum, -⟩ := frameCheck_adds (bs := [c, t, r1, r0]) (by simp)
  simp only [List.map_cons, List.map_nil, List.sum_cons, List.sum_nil] at hsum
  unfold u16
  omega

theorem framesReceivedAreJudged : FramesReceivedAreJudged := by
  refine ⟨fun bytes h => ?_, fun c t r1 r0 k1 k0 rest => ⟨fun ⟨hcode, htag, hcheck⟩ => ?_, fun hbad => ?_⟩⟩
  · unfold decodeFrame
    split
    · simp only [List.length_cons] at h
      omega
    · rfl
  · obtain ⟨code, hsome⟩ := indicationOf_isSome hcode
    obtain ⟨hvalue, -⟩ := indicationOf_eq_some hsome
    refine ⟨code, hvalue, ?_⟩
    unfold decodeFrame
    simp only [hsome]
    exact if_pos ⟨htag, (frameCheck_eq_iff _ _ _ _ _ _).2 hcheck⟩
  · unfold decodeFrame
    cases hsome : indicationOf c.toNat with
    | none => simp only [hsome]
    | some code =>
      obtain ⟨-, hle⟩ := indicationOf_eq_some hsome
      simp only [hsome]
      exact if_neg fun ⟨htag, hcheck⟩ => hbad ⟨hle, htag, (frameCheck_eq_iff _ _ _ _ _ _).1 hcheck⟩

/-- Settles O17: the frames to and from a station. -/
theorem framesAreCodedAndJudged : Obligations.FramesAreCodedAndJudged := ⟨framesSentFollowTheLinkState, framesReceivedAreJudged⟩

end Sys2Proof.Machine
end

section
/-! What a link's change of state tells Line Control, by the line's state (R142 to R144, R168). -/

namespace Sys2Proof.Machine

/-! ### A link as it enters a state -/

theorem linked_link_self (s : State) (l : LinkId) (k : Link) : (s.linked l k).link l = k := State.setLink_link_self s l k

theorem linked_link_of_ne (s : State) {l m : LinkId} (k : Link) (h : m ≠ l) : (s.linked l k).link m = s.link m :=
  State.setLink_link_of_ne s l m k h

/-- A link whose LINK_UP level is what its new state calls for changes nothing but the link (R168). -/
theorem linked_of_level {s : State} {l : LinkId} {k : Link} (h : s.level (.linkUp l) = decide (k.state = .active)) :
    s.linked l k = s.setLink l k := by
  have hpassed : s.notices.passed (5 + linkNumber l) (decide (k.state = .active)) = s.notices := if_pos h
  rw [State.linked, hpassed]
  rfl

theorem linked_level (s : State) (l : LinkId) (k : Link) (h : k.state ≠ .down) :
    (s.linked l k).level (.linkUp l) = decide (k.state = .active) := by
  have hnumber : (Notice.linkUp l).number < 10 := by cases l <;> decide
  rw [← enterLink_eq_linked l k.state k s h, enterLink, passLinkUp, passLevel_level _ _ _ hnumber, State.linkUp,
    State.setLink_link_self]
  exact beq_eq_decide _ _

theorem moveLink_eq (l : LinkId) {st : LinkState} (w : Bool) (k : Link) (s : State) (h : st ≠ .down) :
    moveLink l st w (s.setLink l k) = linkReport l k.state w (s.linked l { k with state := st }) := by
  rw [moveLink, enterLink_eq_linked l st k s h, State.setLink_link_self]

/-- A link that was not ACTIVE enters DOWN: its level stands, and no notice is raised (R168, R192). -/
theorem moveLink_down (l : LinkId) (w : Bool) (k : Link) (s : State) (h : s.level (.linkUp l) = false) :
    moveLink l .down w (s.setLink l k) = linkReport l k.state w (s.setLink l { k with state := .down }) := by
  have hpass : enterLink l .down (s.setLink l k) = s.setLink l { k with state := .down } := by
    have hup (u : State) (hu : (u.link l).state = .down) (hlevel : u.level (.linkUp l) = false) : passLinkUp l u = u := by
      unfold passLinkUp passLevel State.linkUp
      rw [hu, hlevel]
      rfl
    rw [enterLink, setLink_setLink, State.setLink_link_self]
    exact hup _ (by rw [State.setLink_link_self]) h
  rw [moveLink, hpass, State.setLink_link_self]

/-! ### The go -/

theorem giveGo_of_not_armed {l : LinkId} {s : State} (h : (s.link l).state ≠ .armed) : giveGo l s = s := if_neg h

theorem giveGo_armed {l : LinkId} {s : State} (h : (s.link l).state = .armed) :
    giveGo l s = s.setLink l { s.link l with goGiven := true, armTimer := some 250 } := if_pos h

theorem allLinksIn_iff (s : State) (p : LinkState → Bool) : s.allLinksIn p = true ↔ ∀ m, p (s.link m).state = true := by
  unfold State.allLinksIn allLinks
  simp only [List.all_cons, List.all_nil, Bool.and_true, Bool.and_eq_true]
  exact ⟨fun ⟨h1, h2, h3, h4⟩ m => by cases m <;> assumption, fun h => ⟨h _, h _, h _, h _⟩⟩

theorem wakeOwed_of_not_down {l : LinkId} {s : State} (h : (s.link l).state ≠ .down) : wakeOwed l s = s :=
  if_neg fun hdown => h hdown.1

theorem goReport_gone {l : LinkId} {s : State} (h : s.line.go = true) : goReport l s = giveGo l s := if_pos h

theorem goReport_waits {l : LinkId} {s : State} (h : s.line.go = false)
    (hm : ∃ m, (s.link m).state ≠ .armed ∧ (s.link m).state ≠ .active ∧ (s.link m).state ≠ .slipped) : goReport l s = s := by
  have hall : ¬ s.allLinksIn LinkState.armedUp = true := by
    obtain ⟨m, harmed, hactive, hslipped⟩ := hm
    intro hall
    rcases (armedUp_iff _).1 ((allLinksIn_iff _ _).1 hall m) with h | h | h
    · exact harmed h
    · exact hactive h
    · exact hslipped h
  rw [goReport, if_neg (by simp [h]), if_neg hall]

theorem armedReport_of_not_all {s : State} (h : ∃ m, (s.link m).state ≠ .active) : armedReport s = s := by
  obtain ⟨m, hm⟩ := h
  refine if_neg fun hall => hm ?_
  simpa using (allLinksIn_iff _ _).1 hall m

/-! ### Reports by the line's state -/

/-- The line is in RUN, HALTING or HELD. -/
abbrev State.Running (s : State) : Prop := s.line.state = .run ∨ s.line.state = .halting ∨ s.line.state = .held

theorem linkReport_running (l : LinkId) (old : LinkState) (w : Bool) {s : State} (h : s.Running) :
    linkReport l old w s = giveGo l s := by
  have hgo : (if (s.link l).state = .armed then giveGo l s else s) = giveGo l s := by
    split_ifs with harmed
    · rfl
    · exact (giveGo_of_not_armed harmed).symm
  unfold linkReport
  rcases h with h | h | h <;> rw [h] <;> exact hgo

theorem linkReport_stopping (l : LinkId) (old : LinkState) (w : Bool) {s : State} (h : s.line.state = .stopping) :
    linkReport l old w s = s := by
  unfold linkReport
  rw [h]

theorem linkReport_stopped (l : LinkId) (old : LinkState) (w : Bool) {s : State} (h : s.line.state = .stopped) :
    linkReport l old w s =
      if ((s.link l).state = .armed ∨ (s.link l).state = .active) ∧ (s.link l).op = none then parkLink l s else s := by
  unfold linkReport
  rw [h]

theorem linkReport_arming (l : LinkId) (old : LinkState) (w : Bool) {s : State} (h : s.line.state = .arming) :
    linkReport l old w s =
      if failsStart old (s.link l).state w then startFailure s else armedReport (goReport l (wakeOwed l s)) := by
  unfold linkReport
  rw [h]

/-- Outside ARMING a link that is neither ARMED nor ACTIVE moves nothing. -/
theorem linkReport_outside (l : LinkId) (old : LinkState) (w : Bool) {s : State} (h : s.line.state ≠ .arming)
    (harmed : (s.link l).state ≠ .armed) (hactive : (s.link l).state ≠ .active) : linkReport l old w s = s := by
  cases hline : s.line.state with
  | arming => exact absurd hline h
  | stopping => exact linkReport_stopping l old w hline
  | stopped => rw [linkReport_stopped l old w hline, if_neg fun hc => hc.1.elim harmed hactive]
  | run => rw [linkReport_running l old w (.inl hline), giveGo_of_not_armed harmed]
  | halting => rw [linkReport_running l old w (.inr (.inl hline)), giveGo_of_not_armed harmed]
  | held => rw [linkReport_running l old w (.inr (.inr hline)), giveGo_of_not_armed harmed]

/-- A report in ARMING that fails the start. -/
theorem linkReport_fails (l : LinkId) (old : LinkState) (w : Bool) {s : State} (h : s.line.state = .arming)
    (hfails : failsStart old (s.link l).state w = true) : linkReport l old w s = s.startFailed := by
  rw [linkReport_arming l old w h, if_pos hfails, startFailure_eq_startFailed]

/-- A report in ARMING of a link that is up, while the arming waits for another. -/
theorem linkReport_waits {l : LinkId} {old : LinkState} {s : State} (hst : (s.link l).state = .slipped) (hw : s.Waits l) :
    linkReport l old false s = s := by
  by_cases harming : s.line.state = .arming
  · have hnot : ∃ m, (s.link m).state ≠ .active := ⟨l, by simp [hst]⟩
    rw [linkReport_arming l old false harming, if_neg (by simp [failsStart, hst]), wakeOwed_of_not_down (by simp [hst])]
    cases hgo : s.line.go with
    | true => rw [goReport_gone hgo, giveGo_of_not_armed (by simp [hst]), armedReport_of_not_all hnot]
    | false =>
      rcases hw harming with hgone | ⟨m, -, hm⟩
      · rw [hgo] at hgone
        cases hgone
      · rw [goReport_waits hgo ⟨m, hm⟩, armedReport_of_not_all hnot]
  · exact linkReport_outside l old false harming (by simp [hst]) (by simp [hst])

theorem Waits.linked {s : State} {l : LinkId} (h : s.Waits l) (k : Link) : (s.linked l k).Waits l := by
  intro harming
  rcases h harming with hgo | ⟨m, hm, hstate⟩
  · exact .inl hgo
  · exact .inr ⟨m, hm, by rwa [linked_link_of_ne s k hm]⟩

/-- A link that slips (R162). -/
theorem slipLink_eq (l : LinkId) (s : State) : slipLink l s =
    linkReport l (s.link l).state false (s.linked l { s.link l with state := .slipped, flywheel := some 20 }) :=
  moveLink_eq l false { s.link l with flywheel := some 20 } s (by simp)

theorem slipLink_waits {l : LinkId} {s : State} (h : s.Waits l) :
    slipLink l s = s.linked l { s.link l with state := .slipped, flywheel := some 20 } := by
  rw [slipLink_eq]
  exact linkReport_waits (by rw [linked_link_self]) (Waits.linked h _)

end Sys2Proof.Machine
end

section
/-! Frame periods (O18) and frames that are no recognition (O19). -/

namespace Sys2Proof.Machine

/-! ### An invalid frame counted (R157, log 26) -/

theorem countInvalid_eq_miscounted (l : LinkId) (s : State) : countInvalid l s = s.miscounted l := by
  have hany : (allPorts.any (fun p => (s.port p).clears l) = true) ↔
      (s.ports.print.clears l = true ∨ s.ports.plan.clears l = true ∨ s.ports.console.clears l = true) := by
    simp [allPorts, State.port, PerPort.get]
  have hwords : s.miscounted l =
      if s.ports.print.clears l = true ∨ s.ports.plan.clears l = true ∨ s.ports.console.clears l = true then
        s.setPorts (s.ports.map (Port.countLate l))
      else if (s.link l).errorCount < 127 then s.setLink l { s.link l with errorCount := (s.link l).errorCount + 1 }
      else s.setLink l { s.link l with overflow := true } := rfl
  rw [countInvalid, hwords]
  simp only [hany, Link.countError, Config.errorTop]
  refine if_congr Iff.rfl rfl ?_
  exact apply_ite (s.setLink l) _ _ _

theorem miscounted_blocks (l : LinkId) (s : State) : (s.miscounted l).line = s.line ∧
    ((s.miscounted l).link l).state = (s.link l).state ∧ ((s.miscounted l).link l).faults = (s.link l).faults ∧
    ∀ m, m ≠ l → (s.miscounted l).link m = s.link m := by
  rw [← countInvalid_eq_miscounted]
  unfold countInvalid
  split_ifs
  · exact ⟨rfl, rfl, rfl, fun _ _ => rfl⟩
  · refine ⟨rfl, ?_, ?_, fun m hm => State.setLink_link_of_ne _ _ _ _ hm⟩
    · rw [State.setLink_link_self]
      unfold Link.countError
      split_ifs <;> rfl
    · rw [State.setLink_link_self]
      unfold Link.countError
      split_ifs <;> rfl

/-! ### Frame faults (R155, R162) -/

theorem setLink_linked (s : State) (l : LinkId) (k k' : Link) : (s.setLink l k).linked l k' = s.linked l k' := by
  cases l <;> rfl

theorem frameFault_quiet {l : LinkId} {s : State} (h : (s.link l).state ≠ .active) :
    frameFault l s = s.setLink l { s.link l with previous := none } := if_neg h

theorem frameFault_first {l : LinkId} {s : State} (h : (s.link l).state = .active) (hfaults : (s.link l).faults = 0) :
    frameFault l s = s.setLink l { s.link l with previous := none, faults := 1 } := by
  unfold frameFault
  dsimp only
  rw [if_pos h, hfaults]
  rfl

/-- The second frame fault in a row slips an ACTIVE link (R162). -/
theorem frameFault_second {l : LinkId} {s : State} (h : (s.link l).state = .active) (hfaults : 1 ≤ (s.link l).faults) :
    frameFault l s = slipLink l (s.setLink l { s.link l with previous := none, faults := 2 }) := by
  have htwo : min 2 ((s.link l).faults + 1) = 2 := by omega
  unfold frameFault
  dsimp only
  rw [if_pos h, htwo]
  rfl

theorem Waits.of_others {s u : State} {l : LinkId} (h : s.Waits l) (hline : u.line = s.line)
    (hlinks : ∀ m, m ≠ l → u.link m = s.link m) : u.Waits l := by
  intro harming
  rw [hline] at harming ⊢
  rcases h harming with hgo | ⟨m, hm, hstate⟩
  · exact .inl hgo
  · exact .inr ⟨m, hm, by rwa [hlinks m hm]⟩

/-- Settles O19: frames that are no recognition. -/
theorem framesWithoutRecognition : Obligations.FramesWithoutRecognition := by
  intro l bytes s
  obtain ⟨hline, hstate, hfaults, hothers⟩ := miscounted_blocks l s
  have hinvalid (h : decodeFrame bytes = .invalid) : exec (.stationFrame l bytes) s = .next
      (frameFault l ((s.miscounted l).setLink l { (s.miscounted l).link l with heard := true })) := by
    refine congrArg Host.Outcome.next ?_
    unfold stationFrame
    rw [h, ← countInvalid_eq_miscounted]
  have hlink (k : Link) : ((s.miscounted l).setLink l k).link l = k := State.setLink_link_self _ _ _
  refine ⟨fun h => ?_, fun h hnot => ?_, fun h hactive hnone => ?_, fun h hactive hsome hwaits => ?_, fun code tag report h hnew => ?_⟩
  · refine congrArg Host.Outcome.next ?_
    unfold stationFrame
    rw [h]
  · rw [hinvalid h, frameFault_quiet (by rw [hlink]; exact hstate ▸ hnot), hlink, setLink_setLink]
    rfl
  · rw [hinvalid h, frameFault_first (by rw [hlink]; exact hstate.trans hactive) (by rw [hlink]; exact hfaults.trans hnone), hlink,
      setLink_setLink]
    rfl
  · rw [hinvalid h, frameFault_second (by rw [hlink]; exact hstate.trans hactive)
      (by rw [hlink]; exact hfaults.symm ▸ hsome), hlink, setLink_setLink, slipLink_waits, hlink, setLink_linked]
    exact Waits.of_others hwaits hline fun m hm => (State.setLink_link_of_ne _ _ _ _ hm).trans (hothers m hm)
  · refine congrArg Host.Outcome.next ?_
    unfold stationFrame
    rw [h]
    dsimp only
    rw [if_neg hnew]
    rfl

/-! ### Frame periods (R154, R155, R162) -/

/-- Where each link is served by itself, all are served at once. -/
theorem foldLinks_eq {op : LinkId → State → State} {f : LinkId → Link → Link} {s : State}
    (h : ∀ l u, u = s.setLinks u.links → u.link l = s.link l → op l u = u.setLink l (f l (s.link l))) :
    allLinks.foldl (fun s l => op l s) s = s.setLinks
      { feed := f .feed s.links.feed, lam := f .lam s.links.lam, slit := f .slit s.links.slit, xcut := f .xcut s.links.xcut } := by
  show op .xcut (op .slit (op .lam (op .feed s))) = _
  rw [h .feed s rfl rfl, h .lam (s.setLink .feed (f .feed (s.link .feed))) rfl rfl]
  rw [h .slit ((s.setLink .feed (f .feed (s.link .feed))).setLink .lam (f .lam (s.link .lam))) rfl rfl]
  rw [h .xcut (((s.setLink .feed (f .feed (s.link .feed))).setLink .lam (f .lam (s.link .lam))).setLink .slit
    (f .slit (s.link .slit))) rfl rfl]
  rfl

/-- A link whose frame period ends without a second fault in a row (R155). -/
def Link.closed (k : Link) : Link :=
  { k with
    previous := if k.heard then k.previous else none
    faults := if k.heard = false ∧ k.state = .active then 1 else k.faults
    heard := false }

theorem closePeriod_closed {l : LinkId} {s : State}
    (h : (s.link l).heard = true ∨ (s.link l).state ≠ .active ∨ (s.link l).faults = 0) :
    closePeriod l s = s.setLink l (s.link l).closed := by
  unfold closePeriod
  dsimp only
  by_cases hheard : (s.link l).heard = true
  · rw [if_pos hheard]
    simp [Link.closed, hheard]
  · rw [Bool.not_eq_true] at hheard
    rw [if_neg (by simp [hheard])]
    by_cases hactive : (s.link l).state = .active
    · have hnone : (s.link l).faults = 0 := by simpa [hheard, hactive] using h
      rw [frameFault_first hactive hnone, State.setLink_link_self, setLink_setLink]
      simp [Link.closed, hheard, hactive]
    · rw [frameFault_quiet hactive, State.setLink_link_self, setLink_setLink]
      simp [Link.closed, hheard, hactive]

/-- A link's frame is read off its state, the go given and its operation, but for the time it has left (R154). -/
theorem frameOf_congr (l : LinkId) (commanded : Nat) {k k' : Link} (hstate : k'.state = k.state) (hgo : k'.goGiven = k.goGiven)
    (n : LinkOp → Nat) (hop : k'.op = k.op.map (fun o => { o with remaining := n o })) :
    frameOf l commanded k' = frameOf l commanded k := by
  have hcommand : k'.command = k.command := by
    unfold Link.command
    rw [hstate, hgo, hop, Option.isSome_map]
  unfold frameOf
  rw [hcommand, hop]
  cases k.command <;> cases k.op <;> rfl

theorem framePeriod_quiet {s : State}
    (h : ∀ l, (s.link l).heard = true ∨ (s.link l).state ≠ .active ∨ (s.link l).faults = 0) :
    framePeriod s = { s with
      links := { feed := s.nextPeriod .feed, lam := s.nextPeriod .lam, slit := s.nextPeriod .slit, xcut := s.nextPeriod .xcut }
      line := { s.line with rampTimer := s.line.rampTimer.map (fun n => n - 1) }
      tracker := { s.tracker with syncPulse := s.tracker.syncPulse.map (fun n => n - 1) }
      busy := s.busy.map (fun n => n - 1) } := by
  have hticked (l : LinkId) : (tickTimers s).link l = (s.link l).tick := by cases l <;> rfl
  have hclose := foldLinks_eq (op := closePeriod) (f := fun _ k => k.closed) (s := tickTimers s) fun l u _ hu => by
    have hl := h l
    rw [← hu]
    refine closePeriod_closed ?_
    rw [hu, hticked]
    exact hl
  let v := (tickTimers s).setLinks
    { feed := (tickTimers s).links.feed.closed, lam := (tickTimers s).links.lam.closed, slit := (tickTimers s).links.slit.closed
      xcut := (tickTimers s).links.xcut.closed }
  have hsend := foldLinks_eq (op := sendFrame) (f := fun l k => { k with sent := frameOf l s.line.commanded k }) (s := v)
    fun l u hline hu => by
      have hcommanded : u.line.commanded = s.line.commanded := by
        rw [hline]
        rfl
      rw [sendFrame, hu, hcommanded]
  have hframe (l : LinkId) : { (s.link l).tick.closed with sent := frameOf l s.line.commanded (s.link l).tick.closed } =
      s.nextPeriod l := by
    have hsent := frameOf_congr (k := s.link l) (k' := (s.link l).tick.closed) l s.line.commanded rfl rfl
      (fun o => o.remaining - 1) rfl
    rw [hsent]
    rfl
  unfold framePeriod
  dsimp only
  rw [hclose, hsend]
  rw [← hframe .feed, ← hframe .lam, ← hframe .slit, ← hframe .xcut]
  rfl

/-! ### A link that slips in a frame period (R162) -/

theorem giveGo_link_of_not_armed (l : LinkId) {x : LinkId} {s : State} (hx : (s.link x).state ≠ .armed) :
    (giveGo l s).link x = s.link x := by
  unfold giveGo
  split_ifs with harmed
  · exact State.setLink_link_of_ne _ _ _ _ (fun heq => hx (heq ▸ harmed))
  · rfl

theorem foldGiveGo_link_of_not_armed (ls : List LinkId) {x : LinkId} {s : State} (hx : (s.link x).state ≠ .armed) :
    (ls.foldl (fun s l => giveGo l s) s).link x = s.link x := by
  induction ls generalizing s with
  | nil => rfl
  | cons l ls ih =>
    have hl := giveGo_link_of_not_armed l hx
    rw [List.foldl_cons, ih (by rw [hl]; exact hx), hl]

/-- The go leaves the notices and every link that is not ARMED. -/
theorem goReport_leaves (m : LinkId) (s : State) : (goReport m s).notices = s.notices ∧
    ∀ l, (s.link l).state ≠ .armed → (goReport m s).link l = s.link l := by
  unfold goReport
  split_ifs
  · exact ⟨by simp, fun l hl => giveGo_link_of_not_armed m hl⟩
  · exact ⟨by simp [allLinks], fun l hl =>
      foldGiveGo_link_of_not_armed allLinks (s := s.setLine { s.line with go := true }) hl⟩
  · exact ⟨rfl, fun _ _ => rfl⟩

/-- The report of a link that has slipped raises no level and moves no link that is not ARMED. -/
theorem linkReport_slipped {m : LinkId} {old : LinkState} {s : State} (h : (s.link m).state = .slipped) :
    (linkReport m old false s).notices = s.notices ∧
      ∀ l, (s.link l).state ≠ .armed → (linkReport m old false s).link l = s.link l := by
  by_cases harming : s.line.state = .arming
  · obtain ⟨hnotices, hlinks⟩ := goReport_leaves m s
    have hm : (goReport m s).link m = s.link m := hlinks m (by simp [h])
    rw [linkReport_arming m old false harming, if_neg (by simp [failsStart, h]), wakeOwed_of_not_down (by simp [h]),
      armedReport_of_not_all ⟨m, by simp [hm, h]⟩]
    exact ⟨hnotices, hlinks⟩
  · rw [linkReport_outside m old false harming (by simp [h]) (by simp [h])]
    exact ⟨rfl, fun _ _ => rfl⟩

theorem linked_level_of_ne (s : State) {l m : LinkId} (h : m ≠ l) (k : Link) (hk : k.state ≠ .down) :
    (s.linked m k).level (.linkUp l) = s.level (.linkUp l) := by
  rw [← enterLink_eq_linked m k.state k s hk, enterLink, passLinkUp, passLevel_other _ _ _ _ (by cases l <;> decide)
    (by cases l <;> cases m <;> simp_all [Notice.number, linkNumber])]
  rfl

/-- A link that slips: its own state, timer and level, and the other links but those ARMED. -/
theorem slipLink_slips (m : LinkId) (s : State) :
    (slipLink m s).link m = { s.link m with state := .slipped, flywheel := some 20 } ∧
    (slipLink m s).level (.linkUp m) = false ∧ ∀ l, l ≠ m →
      (slipLink m s).level (.linkUp l) = s.level (.linkUp l) ∧
      ((s.link l).state ≠ .armed → (slipLink m s).link l = s.link l) := by
  have hself : ((s.linked m { s.link m with state := .slipped, flywheel := some 20 }).link m) =
      { s.link m with state := .slipped, flywheel := some 20 } := linked_link_self _ _ _
  obtain ⟨hnotices, hlinks⟩ := linkReport_slipped (old := (s.link m).state) (congrArg Link.state hself)
  have hlevel (n : Notice) : (slipLink m s).level n =
      (s.linked m { s.link m with state := .slipped, flywheel := some 20 }).level n := by
    rw [slipLink_eq, State.level, hnotices, State.level]
  refine ⟨?_, ?_, fun l hl => ⟨?_, fun harmed => ?_⟩⟩
  · rw [slipLink_eq, hlinks m (by simp [hself]), hself]
  · rw [hlevel, linked_level _ _ _ (by simp)]
    rfl
  · rw [hlevel, linked_level_of_ne _ hl.symm _ (by simp)]
  · have hother := linked_link_of_ne s { s.link m with state := .slipped, flywheel := some 20 } hl
    rw [slipLink_eq, hlinks l (by rwa [hother]), hother]

/-- Closing another link's frame period leaves the level of a link, and the link where it is not ARMED. -/
theorem closePeriod_other {l m : LinkId} (h : l ≠ m) (s : State) :
    (closePeriod m s).level (.linkUp l) = s.level (.linkUp l) ∧
      ((s.link l).state ≠ .armed → (closePeriod m s).link l = s.link l) := by
  have hfault : (frameFault m s).level (.linkUp l) = s.level (.linkUp l) ∧
      ((s.link l).state ≠ .armed → (frameFault m s).link l = s.link l) := by
    have hset (k : Link) : (s.setLink m k).link l = s.link l := State.setLink_link_of_ne _ _ _ _ h
    unfold frameFault
    dsimp only
    split_ifs
    · obtain ⟨-, -, hothers⟩ := slipLink_slips m (s.setLink m { s.link m with previous := none, faults := min 2 ((s.link m).faults + 1) })
      obtain ⟨hlevel, hlink⟩ := hothers l h
      exact ⟨hlevel, fun harmed => (hlink (by rwa [hset])).trans (hset _)⟩
    · exact ⟨rfl, fun _ => hset _⟩
    · exact ⟨rfl, fun _ => hset _⟩
  unfold closePeriod
  dsimp only
  split_ifs
  · exact ⟨rfl, fun _ => State.setLink_link_of_ne _ _ _ _ h⟩
  · exact ⟨hfault.1, fun harmed => (State.setLink_link_of_ne _ _ _ _ h).trans (hfault.2 harmed)⟩

/-- A link that is to slip as its frame period ends. -/
def Link.Failing (k : Link) : Prop := k.heard = false ∧ k.state = .active ∧ 1 ≤ k.faults

/-- A link that has slipped, with its level. -/
def State.SlippedAt (s : State) (l : LinkId) : Prop :=
  (s.link l).state = .slipped ∧ (s.link l).flywheel = some 20 ∧ s.level (.linkUp l) = false

theorem closePeriod_slips {l : LinkId} {s : State} (h : (s.link l).Failing) : (closePeriod l s).SlippedAt l := by
  obtain ⟨hheard, hactive, hfaults⟩ := h
  have hslip := slipLink_slips l (s.setLink l { s.link l with previous := none, faults := 2 })
  obtain ⟨hlink, hlevel, -⟩ := hslip
  unfold closePeriod
  dsimp only
  rw [if_neg (by simp [hheard]), frameFault_second hactive hfaults]
  refine ⟨?_, ?_, hlevel⟩
  · rw [State.setLink_link_self, hlink]
  · rw [State.setLink_link_self, hlink]

theorem foldClosePeriod_others {l : LinkId} (ms : List LinkId) (h : l ∉ ms) (s : State) (harmed : (s.link l).state ≠ .armed) :
    (ms.foldl (fun s m => closePeriod m s) s).link l = s.link l ∧
      (ms.foldl (fun s m => closePeriod m s) s).level (.linkUp l) = s.level (.linkUp l) := by
  induction ms generalizing s with
  | nil => exact ⟨rfl, rfl⟩
  | cons m ms ih =>
    obtain ⟨hne, hrest⟩ : l ≠ m ∧ l ∉ ms := by simpa using h
    obtain ⟨hlevel, hlink⟩ := closePeriod_other hne s
    obtain ⟨hlink', hlevel'⟩ := ih hrest (closePeriod m s) (by rwa [hlink harmed])
    exact ⟨hlink'.trans (hlink harmed), hlevel'.trans hlevel⟩

theorem foldClosePeriod_slips {l : LinkId} {s : State} (h : (s.link l).Failing) :
    (allLinks.foldl (fun s m => closePeriod m s) s).SlippedAt l := by
  obtain ⟨pre, post, hsplit, hpre, hpost⟩ : ∃ pre post, allLinks = pre ++ l :: post ∧ l ∉ pre ∧ l ∉ post := by
    cases l
    · exact ⟨[], [.lam, .slit, .xcut], rfl, by decide, by decide⟩
    · exact ⟨[.feed], [.slit, .xcut], rfl, by decide, by decide⟩
    · exact ⟨[.feed, .lam], [.xcut], rfl, by decide, by decide⟩
    · exact ⟨[.feed, .lam, .slit], [], rfl, by decide, by decide⟩
  obtain ⟨hheard, hactive, hfaults⟩ := id h
  obtain ⟨hbefore, -⟩ := foldClosePeriod_others pre hpre s (by simp [hactive])
  have hslips := closePeriod_slips (l := l) (s := pre.foldl (fun s m => closePeriod m s) s) (by rwa [hbefore])
  obtain ⟨hlink, hlevel⟩ := foldClosePeriod_others post hpost
    (closePeriod l (pre.foldl (fun s m => closePeriod m s) s)) (by simp [hslips.1])
  rw [hsplit, List.foldl_append, List.foldl_cons]
  unfold State.SlippedAt
  rw [hlink, hlevel]
  exact hslips

theorem sendFrame_slippedAt {l m : LinkId} {s : State} (h : s.SlippedAt l) : (sendFrame m s).SlippedAt l := by
  obtain ⟨hstate, hflywheel, hlevel⟩ := h
  by_cases hm : l = m
  · subst hm
    refine ⟨?_, ?_, hlevel⟩ <;> rw [sendFrame, State.setLink_link_self] <;> assumption
  · refine ⟨?_, ?_, hlevel⟩ <;> rw [sendFrame, State.setLink_link_of_ne _ _ _ _ hm] <;> assumption

/-- Settles O18: FRAME_PERIOD serves every link. -/
theorem framePeriodServesEveryLink : Obligations.FramePeriodServesEveryLink := by
  intro s
  refine ⟨fun h => congrArg Host.Outcome.next (framePeriod_quiet h), fun l hheard hactive hfaults => ?_⟩
  have hticked : (tickTimers s).link l = (s.link l).tick := by cases l <;> rfl
  have hslipped := foldClosePeriod_slips (l := l) (s := tickTimers s) (by rw [hticked]; exact ⟨hheard, hactive, hfaults⟩)
  exact ⟨framePeriod s, rfl, sendFrame_slippedAt (m := .xcut) (sendFrame_slippedAt (m := .slit)
    (sendFrame_slippedAt (m := .lam) (sendFrame_slippedAt (m := .feed) hslipped)))⟩

end Sys2Proof.Machine
end

section
/-! Recognitions (O20, O21): the reports of a link that arms, engages, parks or is down, and the end of the arming (R142 to R144). -/

namespace Sys2Proof.Machine

/-! ### The end of the arming (R142, R152) -/

theorem enterLine_eq_blocks (st : LineState) (s : State) :
    enterLine st s = { s with line := s.lineIn st, notices := (enterLine st s).notices } := by
  rw [← enterLine_line_eq, enterLine_eq]
  rfl

/-- The line out of ARMING into a state, its target read anew. -/
theorem enterLine_arming {u : State} {st : LineState} :
    let t := enterLine st (u.setLine { u.line with go := false })
    t.line.go = false ∧ t.line.state = st ∧ t.line.commanded = u.line.commanded ∧ t.line.setSpeed = u.line.setSpeed ∧
      t.line.target = speedGoal st u.line.setSpeed u.ratioAtNip u.line.minSpeed ∧ t.hold = u.hold ∧
      t = { u with line := t.line, hold := t.hold, notices := t.notices } := by
  dsimp only
  have hblocks := enterLine_eq_blocks st (u.setLine { u.line with go := false })
  have hline := enterLine_line_eq st (u.setLine { u.line with go := false })
  have hhold : (enterLine st (u.setLine { u.line with go := false })).hold = u.hold := by simp
  rw [hhold, hline]
  exact ⟨rfl, rfl, rfl, rfl, rfl, rfl, hblocks⟩

/-- The same under the emergency stop, whose hold is requested first (R152). -/
theorem estop_arming {u : State} (h : u.line.state = .arming) :
    let t := enterLine .held (faultHold .estop noDetail (u.setLine { u.line with go := false }))
    t.line.go = false ∧ t.line.state = .held ∧ t.line.commanded = u.line.commanded ∧ t.line.setSpeed = u.line.setSpeed ∧
      t.line.target = speedGoal .held u.line.setSpeed u.ratioAtNip u.line.minSpeed ∧
      FaultTaken .estop noDetail u t ∧ u.Latched t 17 ∧
      t = { u with line := t.line, hold := t.hold, notices := t.notices } := by
  dsimp only
  obtain ⟨hframe, hfault, hhalt, -, hlatched⟩ := faultHold_reported .estop noDetail (u.setLine { u.line with go := false })
  have hstill : (faultHold .estop noDetail (u.setLine { u.line with go := false })).line = { u.line with go := false } := by
    refine Eq.trans hhalt (if_neg ?_)
    show ¬ u.line.state = .run
    simp [h]
  have hcarries := enterLine_carries .held (faultHold .estop noDetail (u.setLine { u.line with go := false }))
  generalize faultHold .estop noDetail (u.setLine { u.line with go := false }) = v at *
  have hline := enterLine_line_eq .held v
  have hblocks := enterLine_eq_blocks .held v
  have hhold : (enterLine .held v).hold = v.hold := by simp
  have hratio : v.ratioAtNip = u.ratioAtNip :=
    ratioAtNip_congr (by rw [hstill]) (by rw [hframe]; rfl) (by rw [hframe]; rfl)
  have hin : v.lineIn .held = ({ u.line with go := false, state := .held, ratio := u.ratioAtNip } : LineControl).steered
      u.line.commanded 0 := by
    rw [lineIn_of_not_run (by simp), hstill, hratio]
  refine ⟨?_, ?_, ?_, ?_, ?_, hfault.congr rfl rfl rfl rfl hhold, hlatched.carries (by decide) hcarries, ?_⟩
  · rw [hline, hin]
    rfl
  · rw [hline, hin]
    rfl
  · rw [hline, hin]
    rfl
  · rw [hline, hin]
    rfl
  · rw [hline, hin]
    rfl
  · rw [hblocks, hframe]
    rfl

/-- The state in which the arming ends. -/
def armingEnd (u : State) : State :=
  let v := u.setLine { u.line with go := false }
  if v.hold.stack = [] then runEntry v else enterLine .held v

theorem armingEnd_ended {u : State} (h : u.line.state = .arming) : ArmingEnded u (armingEnd u) := by
  unfold ArmingEnded armingEnd
  dsimp only
  by_cases hstack : u.hold.stack = []
  · rw [if_pos (by exact hstack)]
    by_cases hestop : u.line.estop = false
    · have hrun : runEntry (u.setLine { u.line with go := false }) = enterLine .run (u.setLine { u.line with go := false }) :=
        if_neg (by simp [hestop])
      obtain ⟨hgo, hstate, hcommanded, hspeed, htarget, hhold, hframe⟩ := enterLine_arming (u := u) (st := .run)
      rw [hrun, if_pos ⟨hstack, hestop⟩, if_neg (by simp [hestop])]
      exact ⟨hgo, hstate, hcommanded, hspeed, by rw [hstate]; exact htarget, hhold, hframe⟩
    · have hactive : u.line.estop = true := by simpa using hestop
      have hrun : runEntry (u.setLine { u.line with go := false }) =
          enterLine .held (faultHold .estop noDetail (u.setLine { u.line with go := false })) := by
        obtain ⟨-, -, hhalt, -, -⟩ := faultHold_reported .estop noDetail (u.setLine { u.line with go := false })
        have hstill : (faultHold .estop noDetail (u.setLine { u.line with go := false })).line.state = .arming := by
          rw [show (faultHold .estop noDetail (u.setLine { u.line with go := false })).line = _ from hhalt, if_neg]
          · exact h
          · show ¬ u.line.state = .run
            simp [h]
        unfold runEntry
        dsimp only
        rw [if_pos (by exact hactive), if_pos hstill]
      obtain ⟨hgo, hstate, hcommanded, hspeed, htarget, hfault, hlatched, hframe⟩ := estop_arming h
      rw [hrun, if_neg (by simp [hactive]), if_pos ⟨hstack, hactive⟩]
      exact ⟨hgo, hstate, hcommanded, hspeed, by rw [hstate]; exact htarget, ⟨hfault, hlatched⟩, hframe⟩
  · obtain ⟨hgo, hstate, hcommanded, hspeed, htarget, hhold, hframe⟩ := enterLine_arming (u := u) (st := .held)
    rw [if_neg (by exact hstack), if_neg (by simp [hstack]), if_neg (by simp [hstack])]
    exact ⟨hgo, hstate, hcommanded, hspeed, by rw [hstate]; exact htarget, hhold, hframe⟩

/-- A report in ARMING with all four links ACTIVE ends the arming (R142). -/
theorem linkReport_armingEnds {l : LinkId} {old : LinkState} {u : State} (h : u.line.state = .arming)
    (hactive : ∀ m, (u.link m).state = .active) : linkReport l old false u = armingEnd u := by
  have hnot (m : LinkId) : (u.link m).state ≠ .armed := by simp [hactive m]
  have hgo : ∃ go, goReport l u = u.setLine { u.line with go := go } := by
    cases hg : u.line.go with
    | true =>
      refine ⟨true, ?_⟩
      rw [goReport_gone hg, giveGo_of_not_armed (hnot l), ← hg]
      rfl
    | false =>
      have hup : u.allLinksIn LinkState.armedUp = true := (allLinksIn_iff _ _).2 fun m => by rw [hactive m]; rfl
      refine ⟨true, ?_⟩
      rw [goReport, if_neg (by simp [hg]), if_pos hup]
      exact foldLinks_eq (op := giveGo) (f := fun _ k => k) (s := u.setLine { u.line with go := true }) fun m v _ hv => by
        rw [giveGo_of_not_armed (by rw [hv]; exact hnot m), ← hv, State.setLink_self]
  obtain ⟨go, hgo⟩ := hgo
  rw [linkReport_arming l old false h, if_neg (by simp [failsStart, hactive l]), wakeOwed_of_not_down (by simp [hactive l]), hgo]
  refine if_pos ((allLinksIn_iff _ _).2 fun m => ?_)
  rw [show (u.setLine { u.line with go := go }).link m = u.link m from rfl, hactive m]
  rfl

/-! ### The report of a link that has become ACTIVE -/

theorem linkReport_active_armsOn {l : LinkId} {old : LinkState} {u : State} (hst : (u.link l).state = .active)
    (h : u.ArmsOn l) : linkReport l old false u = u := by
  obtain ⟨harming, hwait⟩ := h
  rw [linkReport_arming l old false harming, if_neg (by simp [failsStart, hst]), wakeOwed_of_not_down (by simp [hst])]
  cases hgo : u.line.go with
  | true =>
    rw [if_pos hgo] at hwait
    obtain ⟨m, -, hm⟩ := hwait
    rw [goReport_gone hgo, giveGo_of_not_armed (by simp [hst]), armedReport_of_not_all ⟨m, hm⟩]
  | false =>
    rw [if_neg (by simp [hgo])] at hwait
    obtain ⟨m, -, hm⟩ := hwait
    rw [goReport_waits hgo ⟨m, hm⟩, armedReport_of_not_all ⟨m, hm.2.1⟩]

theorem linkReport_active_running {l : LinkId} {old : LinkState} {u : State} (hst : (u.link l).state = .active)
    (h : u.Running ∨ u.line.state = .stopping) : linkReport l old false u = u := by
  rcases h with h | h
  · rw [linkReport_running l old false h, giveGo_of_not_armed (by simp [hst])]
  · exact linkReport_stopping l old false h

theorem linkReport_active_stopped {l : LinkId} {old : LinkState} {u : State} (hst : (u.link l).state = .active)
    (h : u.line.state = .stopped) (hop : (u.link l).op = none) : linkReport l old false u = u.linked l (u.link l).parked := by
  rw [linkReport_stopped l old false h, if_pos ⟨.inr hst, hop⟩, parkLink_eq_linked]

theorem ArmsOn.linked {s : State} {l : LinkId} (h : s.ArmsOn l) (k : Link) : (s.linked l k).ArmsOn l := by
  obtain ⟨harming, hwait⟩ := h
  refine ⟨harming, ?_⟩
  show if s.line.go = true then _ else _
  cases hgo : s.line.go with
  | true =>
    rw [if_pos hgo] at hwait
    obtain ⟨m, hne, hm⟩ := hwait
    rw [if_pos rfl]
    exact ⟨m, hne, by rwa [linked_link_of_ne s k hne]⟩
  | false =>
    rw [if_neg (by simp [hgo])] at hwait
    obtain ⟨m, hne, hm⟩ := hwait
    rw [if_neg (by simp)]
    exact ⟨m, hne, by rwa [linked_link_of_ne s k hne]⟩

/-! ### A link that enters ACTIVE (R160, R161, log 11) -/

/-- The link as it enters ACTIVE. -/
def Link.engaged (k : Link) : Link := { k with state := .active, armTimer := none, flywheel := none, faults := 0 }

theorem enterActive_eq (l : LinkId) (k : Link) (s : State) : enterActive l (s.setLink l k) =
    if l = .slit then (linkReport l k.state false (s.linked l k.engaged)).slitIssued
    else linkReport l k.state false (s.linked l k.engaged) := by
  unfold enterActive
  dsimp only
  rw [State.setLink_link_self, setLink_setLink, moveLink_eq l false _ s (by simp), slitAttempt_eq_slitIssued]
  rfl

/-- No attempt is made on a SLIT link that is not ACTIVE or carries an operation (R113). -/
theorem slitIssued_of_link {s : State} (h : (s.link .slit).state ≠ .active ∨ (s.link .slit).op ≠ none) : s.slitIssued = s := by
  unfold State.slitIssued
  split
  · rfl
  · refine if_neg ?_
    rintro ⟨-, -, -, -, hactive, hop⟩
    exact h.elim (fun h => h hactive) (fun h => h hop)

/-- A report that leaves the state alone. -/
theorem enterActive_alone {l : LinkId} {k : Link} {s : State} (h : linkReport l k.state false (s.linked l k.engaged) = s.linked l k.engaged) :
    enterActive l (s.setLink l k) = if l = .slit then (s.linked l k.engaged).slitIssued else s.linked l k.engaged := by
  rw [enterActive_eq, h]

theorem enterActive_running {l : LinkId} {k : Link} {s : State} (h : s.Running ∨ s.line.state = .stopping ∨ s.ArmsOn l) :
    enterActive l (s.setLink l k) = if l = .slit then (s.linked l k.engaged).slitIssued else s.linked l k.engaged := by
  have hself : ((s.linked l k.engaged).link l).state = .active := by rw [linked_link_self]; rfl
  refine enterActive_alone ?_
  rcases h with h | h | h
  · exact linkReport_active_running hself (.inl h)
  · exact linkReport_active_running hself (.inr h)
  · exact linkReport_active_armsOn hself (ArmsOn.linked h _)

theorem enterActive_stopped {l : LinkId} {k : Link} {s : State} (h : s.line.state = .stopped) (hop : k.op = none) :
    enterActive l (s.setLink l k) = (s.linked l k.engaged).linked l k.engaged.parked := by
  have hself := linked_link_self s l k.engaged
  rw [enterActive_eq, linkReport_active_stopped (u := s.linked l k.engaged) (by rw [hself]; rfl) h (by rw [hself]; exact hop), hself]
  split_ifs with hl
  · subst hl
    exact slitIssued_of_link (.inl (by rw [linked_link_self]; simp [Link.parked]))
  · rfl

/-- A link that carries an operation stays ACTIVE in STOPPED, and no attempt is made on it. -/
theorem enterActive_carrying {l : LinkId} {k : Link} {s : State}
    (h : linkReport l k.state false (s.linked l k.engaged) = s.linked l k.engaged) (hop : k.op ≠ none) :
    enterActive l (s.setLink l k) = s.linked l k.engaged := by
  rw [enterActive_alone h]
  split_ifs with hl
  · subst hl
    exact slitIssued_of_link (.inr (by rw [linked_link_self]; exact hop))
  · rfl

theorem linkReport_active_carrying {l : LinkId} {old : LinkState} {u : State} (hop : (u.link l).op ≠ none)
    (h : u.line.state = .stopped) : linkReport l old false u = u := by
  rw [linkReport_stopped l old false h, if_neg fun hc => hop hc.2]

theorem enterActive_arming {l : LinkId} {k : Link} {s : State} (h : s.line.state = .arming)
    (hactive : ∀ m, m ≠ l → (s.link m).state = .active) : enterActive l (s.setLink l k) =
      if l = .slit then (armingEnd (s.linked l k.engaged)).slitIssued else armingEnd (s.linked l k.engaged) := by
  have hall : ∀ m, ((s.linked l k.engaged).link m).state = .active := by
    intro m
    by_cases hm : m = l
    · subst hm
      rw [linked_link_self]
      rfl
    · rw [linked_link_of_ne s _ hm]
      exact hactive m hm
  rw [enterActive_eq, linkReport_armingEnds (u := s.linked l k.engaged) h hall]

end Sys2Proof.Machine
end

section
/-! Recognitions (O20, O21) by the link's state, and the expiries of the link timers (O22 to O24). -/

namespace Sys2Proof.Machine

/-! ### A link that arms (R142, R144, R159) -/

/-- The link as it arms, and with the go. -/
def Link.readied (k : Link) : Link := { k with state := .armed, wakeTimer := none, goGiven := false }
def Link.gone (k : Link) : Link := { k with goGiven := true, armTimer := some 250 }

theorem armLink_eq {l : LinkId} {k : Link} {s : State} (h : s.level (.linkUp l) = false) :
    armLink l (s.setLink l k) = linkReport l k.state false (s.setLink l k.readied) := by
  have hlinked : s.linked l k.readied = s.setLink l k.readied := linked_of_level h
  rw [← hlinked]
  unfold armLink
  rw [State.setLink_link_self, setLink_setLink, moveLink_eq l false _ s (by simp)]
  rfl

theorem giveGo_readied (s : State) (l : LinkId) (k : Link) : giveGo l (s.setLink l k.readied) = s.setLink l k.readied.gone := by
  rw [giveGo_armed (by rw [State.setLink_link_self]; rfl), State.setLink_link_self, setLink_setLink]
  rfl

theorem linkReport_readied_stopped {l : LinkId} {old : LinkState} {k : Link} {s : State} (h : s.line.state = .stopped)
    (hop : k.op = none) (hlevel : s.level (.linkUp l) = false) :
    linkReport l old false (s.setLink l k.readied) = s.setLink l k.readied.parked := by
  have hself := State.setLink_link_self s l k.readied
  rw [linkReport_stopped (s := s.setLink l k.readied) l old false h, if_pos ⟨.inl (by rw [hself]; rfl), by rw [hself]; exact hop⟩,
    parkLink_eq_linked, hself, setLink_linked]
  exact linked_of_level hlevel

/-- A report in ARMING of a link that has armed: the go where it is due. -/
theorem linkReport_readied_arming {l : LinkId} {k : Link} {s : State} (h : s.line.state = .arming) :
    linkReport l .waking false (s.setLink l k.readied) = armedReport (goReport l (s.setLink l k.readied)) := by
  rw [linkReport_arming (s := s.setLink l k.readied) l .waking false h, if_neg (by simp [failsStart, Link.readied]),
    wakeOwed_of_not_down (by simp [Link.readied])]

theorem linkReport_readied_gone {l : LinkId} {k : Link} {s : State} (h : s.line.state = .arming) (hgo : s.line.go = true) :
    linkReport l .waking false (s.setLink l k.readied) = s.setLink l k.readied.gone := by
  rw [linkReport_readied_arming h, goReport_gone (s := s.setLink l k.readied) hgo, giveGo_readied]
  exact armedReport_of_not_all ⟨l, by rw [State.setLink_link_self]; simp [Link.gone, Link.readied]⟩

theorem linkReport_readied_waits {l : LinkId} {k : Link} {s : State} (h : s.line.state = .arming) (hgo : s.line.go = false)
    (hm : ∃ m, m ≠ l ∧ (s.link m).state ≠ .armed ∧ (s.link m).state ≠ .active ∧ (s.link m).state ≠ .slipped) :
    linkReport l .waking false (s.setLink l k.readied) = s.setLink l k.readied := by
  obtain ⟨m, hne, hup⟩ := hm
  have hother : (s.setLink l k.readied).link m = s.link m := State.setLink_link_of_ne _ _ _ _ hne
  rw [linkReport_readied_arming h, goReport_waits (s := s.setLink l k.readied) hgo ⟨m, by rwa [hother]⟩]
  exact armedReport_of_not_all ⟨m, by rw [hother]; exact hup.2.1⟩

/-- The last link to arm brings the go to every ARMED link (R142). -/
theorem linkReport_readied_all {l : LinkId} {k : Link} {s : State} (h : s.line.state = .arming) (hgo : s.line.go = false)
    (hup : ∀ m, m = l ∨ (s.link m).state = .armed ∨ (s.link m).state = .active ∨ (s.link m).state = .slipped) :
    let t := linkReport l .waking false (s.setLink l k.readied)
    (∀ m, t.link m = (let x := if m = l then k.readied else s.link m; if x.state = .armed then x.gone else x)) ∧
      t = { s with links := t.links, line := { s.line with go := true } } := by
  have hlink (m : LinkId) : (s.setLink l k.readied).link m = if m = l then k.readied else s.link m := by
    split_ifs with hm
    · subst hm
      exact State.setLink_link_self _ _ _
    · exact State.setLink_link_of_ne _ _ _ _ hm
  have hall : (s.setLink l k.readied).allLinksIn LinkState.armedUp = true := by
    refine (allLinksIn_iff _ _).2 fun m => (armedUp_iff _).2 ?_
    rw [hlink]
    split_ifs with hm
    · exact .inl rfl
    · exact (hup m).resolve_left hm
  have hfold := foldLinks_eq (op := giveGo) (f := fun _ x => if x.state = .armed then x.gone else x)
    (s := (s.setLink l k.readied).setLine { s.line with go := true }) fun m v _ hv => by
      rw [← hv]
      split_ifs with harmed
      · exact giveGo_armed harmed
      · rw [giveGo_of_not_armed harmed, State.setLink_self]
  have hgone (m : LinkId) : (goReport l (s.setLink l k.readied)).link m =
      (let x := if m = l then k.readied else s.link m; if x.state = .armed then x.gone else x) := by
    rw [goReport, if_neg (by simp [hgo]), if_pos hall]
    show State.link (allLinks.foldl (fun s l => giveGo l s) ((s.setLink l k.readied).setLine { s.line with go := true })) m = _
    rw [hfold, ← hlink]
    cases m <;> rfl
  have hframe : goReport l (s.setLink l k.readied) =
      { s with links := (goReport l (s.setLink l k.readied)).links, line := { s.line with go := true } } := by
    have hfolded : goReport l (s.setLink l k.readied) =
        allLinks.foldl (fun s l => giveGo l s) ((s.setLink l k.readied).setLine { s.line with go := true }) := by
      rw [goReport, if_neg (by simp [hgo]), if_pos hall]
      rfl
    rw [hfolded, hfold]
    rfl
  have hended : linkReport l .waking false (s.setLink l k.readied) = goReport l (s.setLink l k.readied) := by
    rw [linkReport_readied_arming h]
    refine armedReport_of_not_all ⟨l, ?_⟩
    rw [hgone l]
    simp [Link.readied, Link.gone]
  dsimp only
  rw [hended]
  exact ⟨hgone, hframe⟩

/-! ### Wake failures (R159, R160) -/

theorem raise_wakeFailed {l : LinkId} {k : Link} {s : State} (h : k.state ≠ .down) :
    raiseNotice (.linkWakeFailed l) (s.setLink l k) = (s.noticed 18).setLink l k := by
  rw [raiseNotice_eq_noticed _ _ (by simpa [State.inGroup] using h)]
  cases l <;> rfl

theorem wakeFailWaking_eq {l : LinkId} {k : Link} {s : State} (h : k.state = .waking) (hlevel : s.level (.linkUp l) = false) :
    wakeFailWaking l (s.setLink l k) =
      linkReport l .waking true ((s.noticed 18).setLink l { k with state := .down, wakeTimer := none }) := by
  unfold wakeFailWaking
  rw [State.setLink_link_self, setLink_setLink, raise_wakeFailed (by simp [h]), moveLink_down l true _ (s.noticed 18) hlevel]
  rw [h]

theorem wakeFailWaking_outside {l : LinkId} {k : Link} {s : State} (h : k.state = .waking) (hlevel : s.level (.linkUp l) = false)
    (hline : s.line.state ≠ .arming) :
    wakeFailWaking l (s.setLink l k) = (s.noticed 18).setLink l { k with state := .down, wakeTimer := none } := by
  rw [wakeFailWaking_eq h hlevel]
  refine linkReport_outside l _ true hline ?_ ?_ <;> rw [State.setLink_link_self] <;> simp

theorem wakeFailWaking_arming {l : LinkId} {k : Link} {s : State} (h : k.state = .waking) (hlevel : s.level (.linkUp l) = false)
    (hline : s.line.state = .arming) :
    wakeFailWaking l (s.setLink l k) = ((s.noticed 18).setLink l { k with state := .down, wakeTimer := none }).startFailed := by
  rw [wakeFailWaking_eq h hlevel]
  exact linkReport_fails l _ true hline rfl

theorem wakeFailArmed_eq {l : LinkId} {k : Link} {s : State} (h : k.state = .armed) : wakeFailArmed l (s.setLink l k) =
    linkReport l .armed true ((s.noticed 18).linked l k.parked) := by
  unfold wakeFailArmed parkAndReport
  rw [State.setLink_link_self, setLink_setLink, raise_wakeFailed (by simp [h]), State.setLink_link_self, parkLink_eq_linked,
    State.setLink_link_self, setLink_linked, h]
  rfl

theorem wakeFailArmed_outside {l : LinkId} {k : Link} {s : State} (h : k.state = .armed) (hline : s.line.state ≠ .arming) :
    wakeFailArmed l (s.setLink l k) = (s.noticed 18).linked l k.parked := by
  rw [wakeFailArmed_eq h]
  refine linkReport_outside l _ true hline ?_ ?_ <;> rw [linked_link_self] <;> simp [Link.parked]

theorem wakeFailArmed_arming {l : LinkId} {k : Link} {s : State} (h : k.state = .armed) (hline : s.line.state = .arming) :
    wakeFailArmed l (s.setLink l k) = ((s.noticed 18).linked l k.parked).startFailed := by
  rw [wakeFailArmed_eq h]
  exact linkReport_fails l _ true hline rfl

/-! ### A link that has parked (R142, R165) -/

/-- The link as it enters DOWN from PARKING. -/
def Link.idle (k : Link) : Link := { k with state := .down, parkTimer := none }

theorem parkDone_eq {l : LinkId} {k : Link} {s : State} (h : k.state = .parking) (hlevel : s.level (.linkUp l) = false) :
    parkDone l (s.setLink l k) = linkReport l .parking false (s.setLink l k.idle) := by
  unfold parkDone
  rw [State.setLink_link_self, setLink_setLink, moveLink_down l false _ s hlevel]
  rw [h]
  rfl

/-- The report of a link that is DOWN, in ARMING: the wake it is owed, and no more. -/
theorem linkReport_down_arming {l : LinkId} {old : LinkState} {u : State} (hline : u.line.state = .arming)
    (hdown : (u.link l).state = .down) : linkReport l old false u = wakeOwed l u := by
  have hnot : ((wakeOwed l u).link l).state = .down ∨ ((wakeOwed l u).link l).state = .waking := by
    unfold wakeOwed
    split_ifs
    · rw [wakeLink_eq_linked, linked_link_self]
      exact .inr rfl
    · exact .inl hdown
  have hrest (v : State) (hv : (v.link l).state = .down ∨ (v.link l).state = .waking) : armedReport (goReport l v) = v := by
    have hactive : (v.link l).state ≠ .active := by rcases hv with hv | hv <;> simp [hv]
    have harmed : (v.link l).state ≠ .armed := by rcases hv with hv | hv <;> simp [hv]
    have hslipped : (v.link l).state ≠ .slipped := by rcases hv with hv | hv <;> simp [hv]
    cases hgo : v.line.go with
    | true => rw [goReport_gone hgo, giveGo_of_not_armed harmed, armedReport_of_not_all ⟨l, hactive⟩]
    | false => rw [goReport_waits hgo ⟨l, harmed, hactive, hslipped⟩, armedReport_of_not_all ⟨l, hactive⟩]
  rw [linkReport_arming l old false hline, if_neg (by simp [failsStart, hdown])]
  exact hrest _ hnot

theorem parkDone_arming {l : LinkId} {k : Link} {s : State} (h : k.state = .parking) (hlevel : s.level (.linkUp l) = false)
    (hline : s.line.state = .arming) : parkDone l (s.setLink l k) = wakeOwed l (s.setLink l k.idle) := by
  rw [parkDone_eq h hlevel]
  exact linkReport_down_arming (u := s.setLink l k.idle) hline (by rw [State.setLink_link_self]; rfl)

theorem parkDone_idle {l : LinkId} {k : Link} {s : State} (h : k.state = .parking) (hlevel : s.level (.linkUp l) = false)
    (hline : s.line.state ≠ .arming ∨ s.line.owed.get l ≠ .wake) : parkDone l (s.setLink l k) = s.setLink l k.idle := by
  by_cases harming : s.line.state = .arming
  · rw [parkDone_arming h hlevel harming]
    exact if_neg fun hc => hline.elim (fun hne => hne harming) (fun hne => hne hc.2)
  · rw [parkDone_eq h hlevel]
    refine linkReport_outside l _ false harming ?_ ?_ <;> rw [State.setLink_link_self] <;> simp [Link.idle]

/-- A link that parks with a wake owed is woken (R142). -/
theorem parkDone_wakes {l : LinkId} {k : Link} {s : State} (h : k.state = .parking) (hlevel : s.level (.linkUp l) = false)
    (hline : s.line.state = .arming) (howed : s.line.owed.get l = .wake) : parkDone l (s.setLink l k) =
      { s with
        links := s.links.set l
          { k with state := .waking, parkTimer := none, goGiven := false, faults := 0, wakeTimer := some 250 }
        line := { s.line with owed := s.line.owed.set l .nothing } } := by
  have hself : ((s.setLink l k.idle).link l).state = .down := by
    rw [State.setLink_link_self]
    rfl
  let v : State := { s with line := { s.line with owed := s.line.owed.set l .nothing } }
  have hwake : wakeOwed l (s.setLink l k.idle) = wakeLink l (v.setLink l k.idle) := if_pos ⟨hself, howed⟩
  rw [parkDone_arming h hlevel hline, hwake, wakeLink_eq_linked, State.setLink_link_self, setLink_linked]
  exact linked_of_level (s := v) hlevel

/-! ### Station faults and link losses (R164) -/

theorem failLink_reported {l : LinkId} {reason : HoldReason} {k : Link} {s : State}
    (hup : k.state = .active ∨ k.state = .slipped) : ∃ h,
      FaultReported reason { panel := k.op.bind (fun o => o.target), link := some l }
        (if s.line.state = .arming then (s.linked l { k.parked with op := none }).startFailed
          else s.linked l { k.parked with op := none }) h ∧
      failLink l reason (s.setLink l k) = h.failing l k.op := by
  have hreport : parkAndReport l false (dropOp l (s.setLink l k)) =
      if s.line.state = .arming then (s.linked l { k.parked with op := none }).startFailed
        else s.linked l { k.parked with op := none } := by
    have hparked : parkLink l (dropOp l (s.setLink l k)) = s.linked l { k.parked with op := none } := by
      rw [dropOp, State.setLink_link_self, setLink_setLink, parkLink_eq_linked, State.setLink_link_self, setLink_linked]
      rfl
    have hold : ((dropOp l (s.setLink l k)).link l).state = k.state := by
      rw [dropOp, State.setLink_link_self, State.setLink_link_self]
    have hself := linked_link_self s l { k.parked with op := none }
    rw [parkAndReport, hparked, hold]
    split_ifs with hline
    · exact linkReport_fails (s := s.linked l _) l k.state false hline
        (by rw [hself]; rcases hup with hup | hup <;> rw [hup] <;> rfl)
    · refine linkReport_outside (s := s.linked l _) l k.state false hline ?_ ?_ <;> rw [hself] <;> simp [Link.parked]
  refine ⟨_, faultHold_reported reason _ _, ?_⟩
  unfold failLink
  rw [hreport, State.setLink_link_self]
  exact failing_eq l k.op _

end Sys2Proof.Machine
end

section
/-! Recognitions (O20, O21), the expiries of the link timers and the losses (O22 to O24), settled. -/

namespace Sys2Proof.Machine

/-! ### A recognition taken (R156) -/

/-- A recognition under the rule of the link's state. -/
def recogniseIn (st : LinkState) (l : LinkId) (code : Indication) (tag : Nat) (s : State) : State :=
  match st with
  | .down | .unacked | .test => s
  | .waking => recogniseWaking l code s
  | .armed => recogniseArmed l code s
  | .active => recogniseActive l code tag s
  | .slipped => recogniseSlipped l code tag s
  | .parking => recogniseParking l code s

/-- The link's second frame in a row with the same code and tag. -/
structure Recognised (l : LinkId) (bytes : Bytes) (s : State) (code : Indication) (tag report : Nat) : Prop where
  decoded : decodeFrame bytes = .valid code tag report
  previous : (s.link l).previous = some (code, tag)

theorem Recognised.exec {l : LinkId} {bytes : Bytes} {s : State} {code : Indication} {tag report : Nat}
    (h : Recognised l bytes s code tag report) : exec (.stationFrame l bytes) s =
      .next (recogniseIn (s.link l).state l code tag (s.setLink l ((s.link l).saw code tag report))) := by
  have hlink : (s.setLink l ((s.link l).takeValid code tag)).link l = (s.link l).takeValid code tag := State.setLink_link_self _ _ _
  have hframe : stationFrame l bytes s = recognise l code tag report (s.setLink l ((s.link l).takeValid code tag)) := by
    unfold stationFrame
    rw [h.decoded]
    exact if_pos h.previous
  refine (congrArg Host.Outcome.next hframe).trans (congrArg Host.Outcome.next ?_)
  unfold recognise recogniseIn
  dsimp only
  rw [hlink, setLink_setLink]
  rfl

theorem Recognised.exec_in {l : LinkId} {bytes : Bytes} {s : State} {code : Indication} {tag report : Nat}
    (h : Recognised l bytes s code tag report) {st : LinkState} (hst : (s.link l).state = st) :
    Sys2Proof.Machine.exec (.stationFrame l bytes) s =
      .next (recogniseIn st l code tag (s.setLink l ((s.link l).saw code tag report))) := by
  rw [h.exec, hst]

/-! ### Recognitions of a link that is not up -/

theorem recognitionsOfALinkNotUp : RecognitionsOfALinkNotUp := by
  intro l bytes s code tag report hdecoded hprevious hlevel
  have h : Recognised l bytes s code tag report := ⟨hdecoded, hprevious⟩
  have hdown {st : LinkState} (hst : (s.link l).state = st) (hne : st ≠ .active) : s.level (.linkUp l) = false := by
    rw [hlevel, hst]
    simpa using hne
  dsimp only
  refine ⟨fun hst => ?_, fun hst hcode => ?_, fun hst hcode => ?_, fun hst hcode => ?_, fun hst hcode => ?_, fun hst hcode => ?_,
    fun hst hgo hcode => ?_, fun hst hcode => ?_, fun hst hcode => ?_⟩
  · rcases hst with hst | hst | hst <;> exact h.exec_in hst
  · rw [h.exec_in hst]
    rcases hcode with rfl | rfl | rfl | rfl <;> rfl
  · subst hcode
    have hrun := h.exec_in hst
    have harm := armLink_eq (k := (s.link l).saw .ready tag report) (hdown hst (by simp))
    rw [recogniseIn, recogniseWaking, harm] at hrun
    simp only [hrun]
    refine ⟨fun hline => ?_, fun hline => ?_, fun hline hop => ?_, fun hline hgo => ?_, fun hline hgo hup => ?_, fun hline hgo hup => ?_⟩
    · exact congrArg Host.Outcome.next (linkReport_stopping l _ false hline)
    · exact congrArg Host.Outcome.next ((linkReport_running
        (s := s.setLink l ((s.link l).saw .ready tag report).readied) l _ false hline).trans (giveGo_readied s l _))
    · exact congrArg Host.Outcome.next (linkReport_readied_stopped hline hop (hdown hst (by simp)))
    · rw [show ((s.link l).saw .ready tag report).state = .waking from hst]
      exact congrArg Host.Outcome.next (linkReport_readied_gone hline hgo)
    · rw [show ((s.link l).saw .ready tag report).state = .waking from hst]
      obtain ⟨hlinks, hframe⟩ := linkReport_readied_all hline hgo hup
      exact ⟨_, rfl, hlinks, hframe⟩
    · rw [show ((s.link l).saw .ready tag report).state = .waking from hst]
      refine congrArg Host.Outcome.next (linkReport_readied_waits hline hgo ?_)
      simpa only [not_forall, not_or] using hup
  · subst hcode
    have hrun := h.exec_in hst
    refine ⟨fun hline => ?_, fun hline => ?_⟩
    · exact hrun.trans (congrArg Host.Outcome.next (wakeFailWaking_outside hst (hdown hst (by simp)) hline))
    · exact hrun.trans (congrArg Host.Outcome.next (wakeFailWaking_arming hst (hdown hst (by simp)) hline))
  · rw [h.exec_in hst]
    rcases hcode with rfl | rfl | ⟨rfl, hgo⟩
    · rfl
    · rfl
    · refine congrArg Host.Outcome.next (if_neg ?_)
      rw [State.setLink_link_self, hgo]
      simp
  · have hrun : exec (.stationFrame l bytes) s = .next (wakeFailArmed l (s.setLink l ((s.link l).saw code tag report))) := by
      rw [h.exec_in hst]
      rcases hcode with rfl | rfl | rfl <;> rfl
    have hfailed : (s.noticed 18).linked l ((s.link l).saw code tag report).parked =
        (s.noticed 18).setLink l ((s.link l).saw code tag report).parked :=
      linked_of_level (s := s.noticed 18) (hdown hst (by simp))
    refine ⟨fun hline => ?_, fun hline => ?_⟩
    · rw [hrun, wakeFailArmed_outside hst hline, hfailed]
      rfl
    · rw [hrun, wakeFailArmed_arming hst hline, hfailed]
      rfl
  · subst hcode
    have hrun : exec (.stationFrame l bytes) s = .next (enterActive l (s.setLink l ((s.link l).saw .engaged tag report))) := by
      rw [h.exec_in hst]
      refine congrArg Host.Outcome.next (if_pos ?_)
      rw [State.setLink_link_self]
      exact hgo
    rw [hrun]
    refine ⟨fun hline => ?_, fun hline hop => ?_, fun hline => ?_, fun hline hactive => ?_⟩
    · exact congrArg Host.Outcome.next (enterActive_running (hline.imp_right .inl))
    · exact congrArg Host.Outcome.next (enterActive_stopped hline hop)
    · exact congrArg Host.Outcome.next (enterActive_running (.inr (.inr hline)))
    · exact ⟨_, armingEnd_ended hline, congrArg Host.Outcome.next (enterActive_arming hline hactive)⟩
  · rw [h.exec_in hst]
    cases code
    case parked => exact absurd rfl hcode
    all_goals rfl
  · subst hcode
    have hrun : exec (.stationFrame l bytes) s = .next (parkDone l (s.setLink l ((s.link l).saw .parked tag report))) := h.exec_in hst
    rw [hrun]
    refine ⟨fun hline => ?_, fun hline howed => ?_⟩
    · exact congrArg Host.Outcome.next (parkDone_idle hst (hdown hst (by simp)) hline)
    · exact congrArg Host.Outcome.next (parkDone_wakes hst (hdown hst (by simp)) hline howed)

end Sys2Proof.Machine
end

section
/-! Recognitions of a link that is up (O20), and the completion of an operation (O21). -/

namespace Sys2Proof.Machine

/-! ### Recognitions of a link that is up (R162 to R164) -/

theorem completes_iff (k : Link) (code : Indication) (tag : Nat) :
    k.completes code tag = true ↔ code = .engaged ∧ ∃ o ∈ k.op, o.tag = tag := by
  unfold Link.completes
  cases k.op <;> simp

theorem recogniseSlipped_engaged {l : LinkId} {code : Indication} {tag : Nat} {s : State} (h : code = .engaged ∨ code = .busy) :
    recogniseSlipped l code tag s =
      if (s.link l).completes code tag then completeOp l (enterActive l s) else enterActive l s := by
  rcases h with rfl | rfl <;> rfl

/-- ENGAGED with another tag, or BUSY, completes nothing. -/
theorem not_completes {k : Link} {code : Indication} {tag : Nat}
    (h : (code = .engaged ∧ ¬ (code = .engaged ∧ ∃ o ∈ k.op, o.tag = tag)) ∨ code = .busy) : ¬ k.completes code tag = true := by
  rw [completes_iff]
  rcases h with h | rfl
  · exact h.2
  · simp

theorem recognitionsOfALinkUp : RecognitionsOfALinkUp := by
  intro l bytes s code tag report hdecoded hprevious
  have h : Recognised l bytes s code tag report := ⟨hdecoded, hprevious⟩
  have hself := State.setLink_link_self s l ((s.link l).saw code tag report)
  dsimp only
  refine ⟨fun hst hcode => ?_, fun hst hcode hw => ?_, fun hst hcode => ?_, fun hst hcode => ?_, fun hst hcode => ?_⟩
  · rw [h.exec_in hst]
    refine congrArg Host.Outcome.next ?_
    have hnot := not_completes hcode
    rcases hcode with ⟨rfl, -⟩ | rfl
    · exact if_neg (by rwa [hself])
    · rfl
  · have hrun : exec (.stationFrame l bytes) s = .next (slipLink l (s.setLink l ((s.link l).saw code tag report))) := by
      rw [h.exec_in hst]
      rcases hcode with rfl | rfl | rfl <;> rfl
    have hwaits : (s.setLink l ((s.link l).saw code tag report)).Waits l :=
      Waits.of_others hw rfl fun m hm => State.setLink_link_of_ne _ _ _ _ hm
    rw [hrun, slipLink_waits hwaits, hself, setLink_linked]
  · rw [h.exec_in hst]
    rcases hcode with rfl | rfl | rfl <;> rfl
  · have hrun : exec (.stationFrame l bytes) s = .next (enterActive l (s.setLink l ((s.link l).saw code tag report))) := by
      rw [h.exec_in hst, recogniseIn, recogniseSlipped_engaged (hcode.imp_left And.left), hself, if_neg (not_completes hcode)]
    rw [hrun]
    refine ⟨fun hline => ?_, fun hline hactive => ?_, fun hline hop => ?_, fun hline hop => ?_⟩
    · refine congrArg Host.Outcome.next (enterActive_running ?_)
      rcases hline with hline | hline | hline | hline
      · exact .inl (.inl hline)
      · exact .inl (.inr (.inl hline))
      · exact .inl (.inr (.inr hline))
      · exact .inr hline
    · exact ⟨_, armingEnd_ended hline, congrArg Host.Outcome.next (enterActive_arming hline hactive)⟩
    · exact congrArg Host.Outcome.next (enterActive_stopped hline hop)
    · refine congrArg Host.Outcome.next (enterActive_carrying ?_ hop)
      exact linkReport_active_carrying (by rw [linked_link_self]; exact hop) hline
  · subst hcode
    obtain ⟨v, hfault, hfail⟩ := failLink_reported (l := l) (reason := .linkFault) (s := s) hst
    refine ⟨v, hfault, ?_⟩
    rw [← hfail]
    rcases hst with hst | hst <;> exact h.exec_in hst

/-- Settles O20: recognitions by the link's state. -/
theorem recognitionsMoveTheLink : Obligations.RecognitionsMoveTheLink := ⟨recognitionsOfALinkNotUp, recognitionsOfALinkUp⟩

/-! ### The completion of an operation (R162, R163, R170) -/

theorem dropOp_setLink (l : LinkId) (k : Link) (s : State) : dropOp l (s.setLink l k) = s.setLink l { k with op := none } := by
  rw [dropOp, State.setLink_link_self, setLink_setLink]

theorem dropOp_linked (l : LinkId) (k : Link) (s : State) : dropOp l (s.linked l k) = s.linked l { k with op := none } :=
  dropOp_setLink l k (s.passed (5 + linkNumber l) (decide (k.state = .active)))

/-- The end of the arming reads no operation. -/
theorem ArmingEnded.setLink {s t : State} (h : ArmingEnded s t) (l : LinkId) (k : Link) :
    ArmingEnded (s.setLink l k) (t.setLink l k) := by
  obtain ⟨hgo, hstate, hcommanded, hspeed, htarget, hhold, hframe⟩ := h
  have hratio : (s.setLink l k).ratioAtNip = s.ratioAtNip := ratioAtNip_congr rfl rfl rfl
  refine ⟨hgo, hstate, hcommanded, hspeed, by rw [hratio]; exact htarget, ?_, ?_⟩
  · show if s.hold.stack = [] ∧ s.line.estop = true then _ else _
    split_ifs at hhold ⊢ with hc
    · exact ⟨hhold.1.congr rfl rfl rfl rfl rfl, hhold.2⟩
    · exact hhold
  · rw [hframe]
    rfl

/-- Outside the end of an arming, a link that carries an operation enters ACTIVE and no more. -/
theorem enterActive_working {l : LinkId} {k : Link} {s : State} (hop : k.op ≠ none) (hline : s.line.state = .arming → s.ArmsOn l) :
    enterActive l (s.setLink l k) = s.linked l k.engaged := by
  have hself := linked_link_self s l k.engaged
  have hactive : ((s.linked l k.engaged).link l).state = .active := by rw [hself]; rfl
  have hcarries : ((s.linked l k.engaged).link l).op ≠ none := by rw [hself]; exact hop
  refine enterActive_carrying ?_ hop
  cases hst : s.line.state with
  | stopped => exact linkReport_active_carrying hcarries hst
  | arming => exact linkReport_active_armsOn hactive (ArmsOn.linked (hline hst) _)
  | run => exact linkReport_active_running hactive (.inl (.inl hst))
  | halting => exact linkReport_active_running hactive (.inl (.inr (.inl hst)))
  | held => exact linkReport_active_running hactive (.inl (.inr (.inr hst)))
  | stopping => exact linkReport_active_running hactive (.inr hst)

/-- The end of an arming with the operation of the last link still in flight. -/
theorem enterActive_arming_working {l : LinkId} {k : Link} {s : State} (hop : k.op ≠ none) (hline : s.line.state = .arming)
    (hactive : ∀ m, m ≠ l → (s.link m).state = .active) :
    ArmingEnded (s.linked l { k.engaged with op := none }) (dropOp l (enterActive l (s.setLink l k))) := by
  have hended : ArmingEnded (s.linked l k.engaged) (armingEnd (s.linked l k.engaged)) := armingEnd_ended hline
  have hlinks : (armingEnd (s.linked l k.engaged)).link l = k.engaged := by
    obtain ⟨-, -, -, -, -, -, hframe⟩ := hended
    rw [hframe]
    exact linked_link_self s l k.engaged
  have hslit : enterActive l (s.setLink l k) = armingEnd (s.linked l k.engaged) := by
    rw [enterActive_arming hline hactive]
    split_ifs with hl
    · subst hl
      exact slitIssued_of_link (.inr (by rw [hlinks]; exact hop))
    · rfl
  rw [hslit, dropOp, hlinks, ← dropOp_linked, dropOp, linked_link_self]
  exact hended.setLink l { k.engaged with op := none }

/-- Settles O21: ENGAGED with the tag of the operation in flight completes it. -/
theorem engagedWithTheTagCompletesTheOperation : Obligations.EngagedWithTheTagCompletesTheOperation := by
  intro l bytes s o report hdecoded hprevious hop
  have h : Recognised l bytes s .engaged o.tag report := ⟨hdecoded, hprevious⟩
  have hself := State.setLink_link_self s l ((s.link l).saw .engaged o.tag report)
  have hcompletes : ((s.link l).saw .engaged o.tag report).completes .engaged o.tag = true :=
    (completes_iff _ _ _).2 ⟨rfl, o, hop, rfl⟩
  have hcarried : ((s.link l).saw .engaged o.tag report).op ≠ none := by
    rw [show ((s.link l).saw .engaged o.tag report).op = some o from hop]
    simp
  refine ⟨fun hst => ?_, fun hst => ?_⟩
  · rw [h.exec_in hst]
    refine congrArg Host.Outcome.next ((if_pos (by rwa [hself])).trans ?_)
    rw [completeOp_eq, dropOp_setLink]
    rfl
  · have hrun : exec (.stationFrame l bytes) s = .next (((dropOp l (enterActive l
        (s.setLink l ((s.link l).saw .engaged o.tag report)))).parkServed l).completedAt l) := by
      rw [h.exec_in hst, recogniseIn, recogniseSlipped_engaged (.inl rfl), hself, if_pos hcompletes, completeOp_eq]
    refine ⟨fun hline => ?_, fun hline hactive => ?_⟩
    · rw [hrun, enterActive_working hcarried hline, dropOp_linked]
      rfl
    · exact ⟨_, enterActive_arming_working hcarried hline hactive, hrun⟩

end Sys2Proof.Machine
end

section
/-! The expiries of the link timers (O22), what fails a start (O23), and lost links and operations (O24). -/

namespace Sys2Proof.Machine

/-! ### Expiries taken (R158) -/

theorem exec_wakeTimerExpiry_waking {l : LinkId} {s : State} (h : (s.link l).state = .waking) (hruns : (s.link l).wakeTimer.isSome) :
    exec (.wakeTimerExpiry l) s = .next (wakeFailWaking l (s.setLink l (s.link l))) := by
  rw [State.setLink_self]
  exact congrArg Host.Outcome.next (if_pos ⟨hruns, h⟩)

theorem exec_armTimerExpiry_armed {l : LinkId} {s : State} (h : (s.link l).state = .armed) (hruns : (s.link l).armTimer.isSome) :
    exec (.armTimerExpiry l) s = .next (wakeFailArmed l (s.setLink l (s.link l))) := by
  rw [State.setLink_self]
  exact congrArg Host.Outcome.next (if_pos ⟨hruns, h⟩)

theorem exec_flywheelTimerExpiry_slipped {l : LinkId} {s : State} (h : (s.link l).state = .slipped)
    (hruns : (s.link l).flywheel.isSome) :
    exec (.flywheelTimerExpiry l) s = .next (failLink l .linkLost (s.setLink l (s.link l))) := by
  rw [State.setLink_self]
  exact congrArg Host.Outcome.next (if_pos ⟨hruns, h⟩)

theorem exec_parkTimerExpiry_parking {l : LinkId} {s : State} (h : (s.link l).state = .parking)
    (hruns : (s.link l).parkTimer.isSome) : exec (.parkTimerExpiry l) s =
      .next (linkReport l .parking false (s.linked l { s.link l with state := .unacked, parkTimer := none })) := by
  have hmove := moveLink_eq l (st := .unacked) false { s.link l with parkTimer := none } s (by simp)
  rw [show ({ s.link l with parkTimer := none } : Link).state = .parking from h] at hmove
  exact congrArg Host.Outcome.next ((if_pos ⟨hruns, h⟩).trans hmove)

/-- Settles O22: the wake, arm and park timers outside ARMING, and the timers that do not run. -/
theorem wakeArmAndParkTimersExpire : Obligations.WakeArmAndParkTimersExpire := by
  intro l s
  refine ⟨fun hline hlevel => ⟨fun hst hruns => ?_, fun hst hruns => ?_, fun hst hruns => ?_⟩, fun h => ?_, fun h => ?_, fun h => ?_,
    fun h => ?_, fun h => ?_⟩
  · rw [exec_wakeTimerExpiry_waking hst hruns, wakeFailWaking_outside hst hlevel hline]
    rfl
  · rw [exec_armTimerExpiry_armed hst hruns, wakeFailArmed_outside hst hline]
    exact congrArg Host.Outcome.next (linked_of_level (s := s.noticed 18) hlevel)
  · rw [exec_parkTimerExpiry_parking hst hruns, linkReport_outside (s := s.linked l _) l .parking false hline
      (by rw [linked_link_self]; simp) (by rw [linked_link_self]; simp)]
    exact congrArg Host.Outcome.next (linked_of_level hlevel)
  · exact congrArg Host.Outcome.next (if_neg (by simp [h]))
  · exact congrArg Host.Outcome.next (if_neg (by simp [h]))
  · exact congrArg Host.Outcome.next (if_neg (by simp [h]))
  · exact congrArg Host.Outcome.next (if_neg (by simp [h]))
  · refine congrArg Host.Outcome.next ?_
    unfold operationTimeout
    rw [h]

/-! ### A start that fails (R143) -/

/-- A link as the line comes to rest: it parks unless an operation is in flight, whose end it then awaits. -/
def Link.rested (k : Link) : Link :=
  if k.state = .armed ∨ ((k.state = .active ∨ k.state = .slipped) ∧ k.op = none) then k.parked else k

/-- The order it is then owed. -/
def Link.restOwed (k : Link) (o : Owed) : Owed :=
  if (k.state = .active ∨ k.state = .slipped) ∧ k.op ≠ none then .park else o

theorem restOrdered_link (s : State) (l m : LinkId) :
    (s.restOrdered l).link m = if m = l then (s.link m).rested else s.link m := by
  unfold State.restOrdered Link.rested
  dsimp only
  by_cases hm : m = l
  · subst hm
    rw [if_pos rfl]
    split_ifs
    · exact linked_link_self _ _ _
    · rfl
    · rfl
  · rw [if_neg hm]
    split_ifs
    · exact linked_link_of_ne _ _ hm
    · rfl
    · rfl

theorem restOrdered_owed (s : State) (l m : LinkId) : (s.restOrdered l).line.owed.get m =
    if m = l then (s.link m).restOwed (s.line.owed.get m) else s.line.owed.get m := by
  unfold State.restOrdered Link.restOwed
  dsimp only
  by_cases hparks : (s.link l).state = .armed ∨ (((s.link l).state = .active ∨ (s.link l).state = .slipped) ∧ (s.link l).op = none)
  · rw [if_pos hparks]
    show s.line.owed.get m = _
    split_ifs with hm hup
    · subst hm
      rcases hparks with harmed | ⟨-, hop⟩
      · simp [harmed] at hup
      · exact absurd hop hup.2
    · rfl
    · rfl
  · rw [if_neg hparks]
    have hop (hup : (s.link l).state = .active ∨ (s.link l).state = .slipped) : (s.link l).op ≠ none :=
      fun hnone => hparks (.inr ⟨hup, hnone⟩)
    by_cases hup : (s.link l).state = .active ∨ (s.link l).state = .slipped
    · rw [if_pos hup]
      split_ifs with hm hc
      · subst hm
        exact PerLink.get_set_self _ _ _
      · subst hm
        exact absurd ⟨hup, hop hup⟩ hc
      · exact PerLink.get_set_of_ne _ _ _ _ hm
    · rw [if_neg hup]
      split_ifs with hm hc
      · subst hm
        exact absurd hc.1 hup
      · rfl
      · rfl

theorem foldRestOrdered_link (s : State) (m : LinkId) :
    (allLinks.foldl State.restOrdered s).link m = (s.link m).rested := by
  simp only [allLinks, List.foldl_cons, List.foldl_nil, restOrdered_link]
  cases m <;> simp

theorem foldRestOrdered_owed (s : State) (m : LinkId) :
    (allLinks.foldl State.restOrdered s).line.owed.get m = (s.link m).restOwed (s.line.owed.get m) := by
  simp only [allLinks, List.foldl_cons, List.foldl_nil, restOrdered_link, restOrdered_owed]
  cases m <;> simp

/-- The line as a start fails, before the links are ordered to rest. -/
def State.startEnded (s : State) : State :=
  { s with line := { s.line with
      state := .stopped, go := false, owed := s.line.owed.map (fun o => if o = .wake then .nothing else o) } }

/-- The last steps of a start that fails. -/
def State.startReported (s : State) : State := ((s.noticed 19).passed 0 false).steered

theorem startFailed_eq (s : State) : s.startFailed = (allLinks.foldl State.restOrdered s.startEnded).startReported := rfl

theorem startReported_link (s : State) (m : LinkId) : s.startReported.link m = s.link m := rfl

theorem startReported_owed (s : State) : s.startReported.line.owed = s.line.owed := rfl

theorem startReported_line {s : State} (h : s.line.state = .stopped) :
    s.startReported.line.state = .stopped ∧ s.startReported.line.go = s.line.go ∧ s.startReported.line.target = 0 :=
  ⟨h, rfl, if_neg (by show ¬ s.line.state = .run; simp [h])⟩

theorem startReported_eq {s : State} (h : s.line.state = .stopped) :
    s.startReported = retarget (passLevel .lineState false (raiseNotice .lineStartFailed s)) := by
  have hends := startFailure_ends h
  have hdown : (raiseNotice .lineStartFailed s).lineUp = false := by
    rw [State.lineUp, raiseNotice_eq_noticed _ _ rfl, State.noticed, h]
    rfl
  rwa [hdown, eq_comm] at hends

theorem startFailed_link (s : State) (m : LinkId) : s.startFailed.link m = (s.link m).rested := by
  rw [startFailed_eq, startReported_link, foldRestOrdered_link]
  rfl

theorem startFailed_owed (s : State) (m : LinkId) : s.startFailed.line.owed.get m =
    (s.link m).restOwed (if s.line.owed.get m = .wake then .nothing else s.line.owed.get m) := by
  have howed : s.startEnded.line.owed.get m = if s.line.owed.get m = .wake then .nothing else s.line.owed.get m :=
    PerLink.get_map _ _ _
  rw [startFailed_eq, startReported_owed, foldRestOrdered_owed, howed]
  rfl

/-- Ordering the links to rest changes of the line only the orders owed. -/
theorem foldRestOrdered_line (s : State) :
    ∃ owed, (allLinks.foldl State.restOrdered s).line = { s.line with owed := owed } := by
  have hfold := parkAll_eq s
  rw [show [LinkId.feed, .lam, .slit, .xcut] = allLinks from rfl] at hfold
  rw [← hfold]
  exact foldParkOrOwe_line allLinks s

/-- Line Control as a start fails. -/
theorem startFailed_line (s : State) :
    s.startFailed.line.state = .stopped ∧ s.startFailed.line.go = false ∧ s.startFailed.line.target = 0 := by
  obtain ⟨owed, hline⟩ := foldRestOrdered_line s.startEnded
  obtain ⟨hstate, hgo, htarget⟩ := startReported_line (s := allLinks.foldl State.restOrdered s.startEnded) (by rw [hline]; rfl)
  rw [startFailed_eq]
  exact ⟨hstate, hgo.trans (by rw [hline]; rfl), htarget⟩

/-- A start that fails raises LINE_START_FAILED, and LINE_STATE is false. -/
theorem startFailed_notices (s : State) : s.startFailed.level .lineState = false ∧ s.Latched s.startFailed 19 ∧
    s.Carries s.startFailed := by
  obtain ⟨owed, hline⟩ := foldRestOrdered_line s.startEnded
  have hstopped : (allLinks.foldl State.restOrdered s.startEnded).line.state = .stopped := by rw [hline]; rfl
  have hcarries : s.Carries (allLinks.foldl State.restOrdered s.startEnded) := by
    have hparks := (parkAll_moves s.startEnded).carries
    rw [parkAll_eq] at hparks
    exact (State.Carries.of_eq (s := s) (t := s.startEnded) rfl).trans hparks
  rw [startFailed_eq, startReported_eq hstopped]
  generalize allLinks.foldl State.restOrdered s.startEnded = v at hcarries
  have hends := (passLevel_carries .lineState false (raiseNotice .lineStartFailed v)).trans (retarget_carries _)
  refine ⟨?_, (hcarries.latched_raise .lineStartFailed (by decide) rfl).carries (by decide) hends,
    (hcarries.trans (raiseNotice_carries _ _)).trans hends⟩
  rw [retarget, setSpeeds_level]
  exact passLevel_level _ _ _ (by decide)

theorem startFailed_eq_blocks (s : State) : s.startFailed =
    { s with links := s.startFailed.links, line := s.startFailed.line, notices := s.startFailed.notices } := by
  rw [← startFailure_eq_startFailed]
  have hblocks := eq_of_blocks (s := s) (t := startFailure s) (by simp) (by simp) (by simp) (by simp) (by simp) (by simp) (by simp)
    (by simp) (by simp) (by simp)
  have hhold : (startFailure s).hold = s.hold := by simp
  rwa [hhold] at hblocks

/-! ### What fails a start (O23) -/

/-- A link that was waking enters DOWN; its level may fall. -/
theorem enterDown_eq {l : LinkId} {k : Link} {s : State} :
    ∃ n, enterLink l .down (s.setLink l k) = { s.setLink l { k with state := .down } with notices := n } ∧
      s.Carries (enterLink l .down (s.setLink l k)) := by
  have hlink : (s.setLink l k).link l = k := State.setLink_link_self _ _ _
  have hdown : enterLink l .down (s.setLink l k) = passLinkUp l (s.setLink l { k with state := .down }) := by
    rw [enterLink, hlink, setLink_setLink]
  rw [hdown]
  refine ⟨(passLinkUp l (s.setLink l { k with state := .down })).notices, ?_, ?_⟩
  · exact passLevel_eq_withNotices (.linkUp l) _ _
  · exact (State.Carries.of_eq (s := s) (t := s.setLink l { k with state := .down }) rfl).trans (passLevel_carries (.linkUp l) _ _)

theorem Link.rested_parks {k : Link} (h : k.state = .armed ∨ ((k.state = .active ∨ k.state = .slipped) ∧ k.op = none)) :
    k.rested = k.parked := if_pos h

theorem Link.rested_of_not {k : Link} (h : ¬ (k.state = .armed ∨ ((k.state = .active ∨ k.state = .slipped) ∧ k.op = none))) :
    k.rested = k := if_neg h

theorem wakingLinkFailsTheStart : WakingLinkFailsTheStart := by
  intro l s hline hst hruns
  have hraised : raiseNotice (.linkWakeFailed l) (s.setLink l { s.link l with wakeTimer := none }) =
      (s.noticed 18).setLink l { s.link l with wakeTimer := none } := raise_wakeFailed (by simp [hst])
  obtain ⟨n, hdown, hcarries⟩ := enterDown_eq (l := l) (k := { s.link l with wakeTimer := none }) (s := s.noticed 18)
  generalize hw : enterLink l .down ((s.noticed 18).setLink l { s.link l with wakeTimer := none }) = w at hdown hcarries
  have hself : w.link l = { s.link l with wakeTimer := none, state := .down } := by
    rw [hdown]
    exact State.setLink_link_self (s.noticed 18) l _
  have hother (m : LinkId) (hm : m ≠ l) : w.link m = s.link m := by
    rw [hdown]
    exact State.setLink_link_of_ne (s.noticed 18) _ _ _ hm
  have hwline : w.line = s.line := by
    rw [hdown]
    rfl
  have hrun : exec (.wakeTimerExpiry l) s = .next w.startFailed := by
    rw [exec_wakeTimerExpiry_waking hst hruns, wakeFailWaking, State.setLink_self, hraised, moveLink, hw]
    refine congrArg Host.Outcome.next (linkReport_fails l _ true (by rw [hwline]; exact hline) rfl)
  obtain ⟨hstate, hgo, htarget⟩ := startFailed_line w
  obtain ⟨hlevel, hlatched, hkept⟩ := startFailed_notices w
  have hwaking : s.Latched (s.noticed 18) 18 := noticed_latched (.linkWakeFailed l) (s := s)
    (by show 18 < 25; decide) (by simp [State.inGroup, hst])
  have hbefore : s.Carries (s.noticed 18) := noticed_carries (.linkWakeFailed l) (by simp [State.inGroup, hst])
  refine ⟨w.startFailed, hrun, hstate, hgo, htarget, ?_, hlevel, hwaking.carries (by decide) (hcarries.trans hkept),
    hlatched.before (hbefore.trans hcarries), fun m hm => ⟨fun hc => ?_, fun hc => ?_, fun hc => ?_⟩, ?_⟩
  · rw [startFailed_link, hself]
    rfl
  · rw [startFailed_link, hother m hm, Link.rested_parks hc]
    rfl
  · obtain ⟨hup, hop⟩ := hc
    have hcarried : (s.link m).op ≠ none := Option.isSome_iff_ne_none.1 hop
    rw [startFailed_link, startFailed_owed, hother m hm]
    refine ⟨Link.rested_of_not ?_, if_pos ⟨hup, hcarried⟩⟩
    rintro (harmed | ⟨-, hnone⟩)
    · rcases hup with hup | hup <;> simp [hup] at harmed
    · exact hcarried hnone
  · obtain ⟨harmed, hup⟩ := hc
    rw [startFailed_link, startFailed_owed, hother m hm, hwline]
    exact ⟨Link.rested_of_not fun hc => hc.elim harmed fun hc => hup hc.1, if_neg fun hc => hup hc.1⟩
  · have hblocks := startFailed_eq_blocks w
    rw [hdown] at hblocks ⊢
    exact hblocks

theorem expiriesFailTheStart : ExpiriesFailTheStart := by
  intro l s hline
  refine ⟨fun hst hruns hlevel => ?_, fun hst hruns => ?_, fun hst hruns => ?_, fun hst hruns => ?_⟩
  · rw [exec_wakeTimerExpiry_waking hst (Option.isSome_iff_ne_none.2 hruns), wakeFailWaking_arming hst hlevel hline]
    rfl
  · rw [exec_armTimerExpiry_armed hst (Option.isSome_iff_ne_none.2 hruns), wakeFailArmed_arming hst hline]
  · obtain ⟨h, hfault, hfail⟩ := failLink_reported (l := l) (reason := .linkLost) (s := s) (.inr hst)
    rw [if_pos hline] at hfault
    exact ⟨h, hfault, by rw [exec_flywheelTimerExpiry_slipped hst (Option.isSome_iff_ne_none.2 hruns), hfail]⟩
  · rw [exec_parkTimerExpiry_parking hst (Option.isSome_iff_ne_none.2 hruns)]
    refine congrArg Host.Outcome.next (linkReport_fails (s := s.linked l _) l .parking false hline ?_)
    rw [linked_link_self]
    rfl

/-- Settles O23: what fails a start. -/
theorem wakeFailureFailsTheStart : Obligations.WakeFailureFailsTheStart := ⟨wakingLinkFailsTheStart, expiriesFailTheStart⟩

/-! ### Lost links and operations (O24) -/

/-- Settles O24: a lost link, and an operation whose timeout expires. -/
theorem linkLossAndOperationTimeoutFail : Obligations.LinkLossAndOperationTimeoutFail := by
  intro l s
  refine ⟨fun hst hruns hline => ?_, fun o hop hup => ?_⟩
  · obtain ⟨h, hfault, hfail⟩ := failLink_reported (l := l) (reason := .linkLost) (s := s) (.inr hst)
    rw [if_neg hline] at hfault
    exact ⟨h, hfault, by rw [exec_flywheelTimerExpiry_slipped hst (Option.isSome_iff_ne_none.2 hruns), hfail]⟩
  · refine ⟨_, faultHold_reported .stationTimeout { panel := o.target, link := some l } (dropOp l s), ?_⟩
    have hfails : operationTimeout l s =
        reportFailure l (faultHold .stationTimeout { panel := o.target, link := some l } (dropOp l s)) := by
      unfold operationTimeout
      rw [hop]
      exact if_pos ((carries_iff _).2 hup)
    refine congrArg Host.Outcome.next (hfails.trans ?_)
    rw [hop, ← failing_eq]
    rfl

end Sys2Proof.Machine
end

section
/-! The bodies of the write commands leave the ports alone, but for LINE RESET's. -/

namespace Sys2Proof.Machine

/-- What the body does and answers does not depend on the ports, and it leaves them as they are. -/
def Portless (body : WriteBody) : Prop := ∀ s x, body (s.setPorts x) = ((body s).1.setPorts x, (body s).2)

theorem Portless.ports {body : WriteBody} (h : Portless body) (s : State) : (body s).1.ports = s.ports := by
  have hself : body s = ((body s).1.setPorts s.ports, (body s).2) := h s s.ports
  rw [hself]
  rfl

/-! ### PRINT -/

@[simp] theorem announceRange_setPorts (a : Announcement) (s : State) (x : PerPort Port) :
    announceRange a (s.setPorts x) = announceRange a s := rfl

@[simp] theorem announceNames_setPorts (a : Announcement) (s : State) (x : PerPort Port) :
    announceNames a (s.setPorts x) = announceNames a s := rfl

@[simp] theorem announceGaps_setPorts (a : Announcement) (cls : LamClass) (s : State) (x : PerPort Port) :
    announceGaps a cls (s.setPorts x) = announceGaps a cls s := rfl

@[simp] theorem newEntry_setPorts (a : Announcement) (cls : LamClass) (policy : MarkPolicy) (s : State) (x : PerPort Port) :
    newEntry a cls policy (s.setPorts x) = newEntry a cls policy s := rfl

@[simp] theorem takeReservation_setPorts (t : Target) (s : State) (x : PerPort Port) :
    takeReservation t (s.setPorts x) = (takeReservation t s).setPorts x := by
  by_cases h : s.lam.reservation.isSome <;> simp [takeReservation, h]

@[simp] theorem startTracking_setPorts (e : MapEntry) (s : State) (x : PerPort Port) :
    startTracking e (s.setPorts x) = (startTracking e s).setPorts x := by
  by_cases h : e.head = s.tracker.odometer <;> simp [startTracking, h]

theorem announcePanel_portless (a : Announcement) : Portless (announcePanel a) := by
  intro s x
  by_cases hfull : Config.mapSize ≤ s.map.entries.length
  · simp [announcePanel, hfull]
  · cases hrange : announceRange a s with
    | some item => simp [announcePanel, hfull, hrange]
    | none =>
      cases hnames : announceNames a s with
      | some no => simp [announcePanel, hfull, hrange, hnames]
      | none =>
        cases hcls : lamClassOf a.cls with
        | none => cases hpolicy : markPolicyOf a.policy <;> simp [announcePanel, hfull, hrange, hnames, hcls, hpolicy]
        | some cls =>
          cases hpolicy : markPolicyOf a.policy with
          | none => simp [announcePanel, hfull, hrange, hnames, hcls, hpolicy]
          | some policy =>
            cases hgaps : announceGaps a cls s with
            | some no => simp [announcePanel, hfull, hrange, hnames, hcls, hpolicy, hgaps]
            | none => simp [announcePanel, hfull, hrange, hnames, hcls, hpolicy, hgaps, acceptPanel]

theorem withdrawPanel_portless (n : Nat) : Portless (withdrawPanel n) := by
  intro s x
  cases he : s.byPanel n with
  | none => simp [withdrawPanel, he]
  | some e => by_cases hphase : e.phase = .queued <;> simp [withdrawPanel, withdrawEntry, he, hphase]

/-! ### PLAN -/

theorem planOpen_portless (n ratio count : Nat) (slits : List Nat) : Portless (planOpen n ratio count slits) := by
  intro s x
  cases hrange : planOpenRange ratio count slits with
  | some item => simp [planOpen, hrange]
  | none =>
    cases hq : s.plan n with
    | some q => by_cases hrefs : 0 < q.refs <;> simp [planOpen, storePlans, hrange, hq, hrefs]
    | none => by_cases hfull : Config.planSize ≤ s.plans.plans.length <;> simp [planOpen, storePlans, hrange, hq, hfull]

theorem planAppend_portless (n count : Nat) (offsets : List Nat) : Portless (planAppend n count offsets) := by
  intro s x
  cases hq : s.plan n with
  | none => simp [planAppend, hq]
  | some q =>
    simp only [planAppend, State.setPorts_plan, hq]
    split_ifs <;> rfl

theorem planClose_portless (n : Nat) : Portless (planClose n) := by
  intro s x
  cases hq : s.plan n with
  | none => simp [planClose, hq]
  | some q =>
    by_cases hclosed : q.state = .closed
    · simp [planClose, hq, hclosed]
    · cases hfails : closeFailure s.plans.spacing q <;> simp [planClose, hq, hclosed, hfails]

theorem planDiscard_portless (n : Nat) : Portless (planDiscard n) := by
  intro s x
  cases hq : s.plan n with
  | none => simp [planDiscard, hq]
  | some q => by_cases hrefs : 0 < q.refs <;> simp [planDiscard, storePlans, hq, hrefs]

/-! ### CONSOLE -/

theorem lineStart_portless : Portless lineStart := by
  intro s x
  cases h : s.startBlocker <;> simp [lineStart, h, allLinks]

theorem lineStop_portless : Portless lineStop := by
  intro s x
  simp [lineStop, emptyStack]

theorem speedSet_portless (v : Nat) : Portless (speedSet v) := by
  intro s x
  by_cases hrange : 1000 < v
  · simp [speedSet, hrange]
  · by_cases habove : v < s.line.commanded <;> simp [speedSet, hrange, habove]

theorem minSpeedSet_portless (v : Nat) : Portless (minSpeedSet v) := by
  intro s x
  by_cases hrange : v < 50 ∨ 600 < v <;> simp [minSpeedSet, hrange]

theorem filmStandby_portless (n : Nat) : Portless (filmStandby n) := by
  intro s x
  cases hrange : reelOutOfRange n
  · cases hbusy : s.splicing <;> simp [filmStandby, hrange, hbusy]
  · simp [filmStandby, hrange]

theorem filmThread_portless (n : Nat) : Portless (filmThread n) := by
  intro s x
  cases hrange : reelOutOfRange n
  · cases hop : s.lam.op <;> simp [filmThread, hrange, hop]
  · simp [filmThread, hrange]

theorem spliceRequest_portless : Portless spliceRequest := by
  intro s x
  by_cases hstandby : s.lam.standby = none
  · simp [spliceRequest, hstandby]
  · by_cases hidle : s.lam.request = .idle <;> simp [spliceRequest, hstandby, hidle]

theorem linkAcknowledge_portless (n : Nat) : Portless (linkAcknowledge n) := by
  intro s x
  cases hl : linkOfNumber n with
  | none => simp [linkAcknowledge, hl]
  | some l =>
    by_cases hunacked : (s.link l).state = .unacked
    · by_cases hstopped : (moveLink l .down false s).line.state = .stopped <;>
        simp [linkAcknowledge, acknowledgeLink, hl, hunacked, hstopped]
    · simp [linkAcknowledge, hl, hunacked]

theorem linkTest_portless (n : Nat) : Portless (linkTest n) := by
  intro s x
  cases hl : linkOfNumber n with
  | none => simp [linkTest, hl]
  | some l => cases hop : (s.link l).op <;> simp [linkTest, testLink, hl, hop]

theorem linkTestEnd_portless (n : Nat) : Portless (linkTestEnd n) := by
  intro s x
  cases hl : linkOfNumber n with
  | none => simp [linkTestEnd, hl]
  | some l => by_cases htest : (s.link l).state = .test <;> simp [linkTestEnd, hl, htest]

theorem zoneDefine_portless (z : Zones) : Portless (zoneDefine z) := by
  intro s x
  by_cases hentries : s.map.entries = []
  · cases hfails : zoneFailure z <;> simp [zoneDefine, hentries, hfails]
  · simp [zoneDefine, hentries]

theorem syncSet_portless (mode lead : Nat) : Portless (syncSet mode lead) := by
  intro s x
  cases hmode : syncModeOf mode with
  | none => simp [syncSet, hmode]
  | some m =>
    by_cases hrange : 2000 < lead
    · simp [syncSet, hmode, hrange]
    · by_cases htop : s.tracker.odometer < Config.odometerTop <;> simp [syncSet, recomputeSync, hmode, hrange, htop]

theorem thresholdSet_portless (high low : Nat) : Portless (thresholdSet high low) := by
  intro s x
  unfold thresholdSet
  split_ifs <;> simp

theorem registrationSet_portless (halfWidth tolerance : Nat) : Portless (registrationSet halfWidth tolerance) := by
  intro s x
  unfold registrationSet
  split_ifs <;> rfl

theorem gapSet_portless (transition splice spacing : Nat) : Portless (gapSet transition splice spacing) := by
  intro s x
  unfold gapSet
  split_ifs <;> rfl

theorem scrapPanel_portless (n : Nat) : Portless (scrapPanel n) := by
  intro s x
  cases he : s.byPanel n <;> simp [scrapPanel, he]

/-! ### Every port -/

theorem holdCommand_portless (p : PortId) : Portless (holdCommand p) := by
  intro s x
  by_cases hfull : Config.holdSize ≤ s.hold.stack.length <;> simp [holdCommand, hfull]

@[simp] theorem acceptRelease_setPorts (depth : Nat) (r : HoldRecord) (s : State) (x : PerPort Port) :
    acceptRelease depth r (s.setPorts x) = ((acceptRelease depth r s).1.setPorts x, (acceptRelease depth r s).2) := by
  by_cases hlost : r.reason = .regLost <;>
    simp only [acceptRelease, hlost, if_true, if_false, State.setPorts_hold, State.setPorts_setHold, seekLock_setPorts,
      stackReport_setPorts] <;> rfl

theorem releaseCommand_portless (p : PortId) (number : Nat) : Portless (releaseCommand p number) := by
  intro s x
  by_cases hempty : s.hold.stack = []
  · simp [releaseCommand, hempty]
  · cases hr : s.hold.stack[s.hold.stack.findIdx (fun r => r.number == number)]? with
    | none => simp [releaseCommand, hempty, hr]
    | some r =>
      simp only [releaseCommand, State.setPorts_hold, hempty, if_false, hr, State.setPorts_releasable, acceptRelease_setPorts]
      split_ifs <;> rfl

theorem clearNotices_portless (p : PortId) (set : Nat) : Portless (clearNotices p set) := fun _ _ => rfl

theorem setNoticeMask_portless (p : PortId) (mask : Nat) : Portless (setNoticeMask p mask) := fun _ _ => rfl

theorem setLatchMasked_portless (p : PortId) (option : Nat) : Portless (setLatchMasked p option) := by
  intro s x
  unfold setLatchMasked
  split_ifs <;> rfl

/-! ### A write command's row -/

/-- The state after a body that leaves the ports alone, with the port's answer. -/
theorem writeRow_portless {p : PortId} {r : CommandRow} {body : WriteBody} {s : State} (hbody : Portless body)
    (ht : Listening p s) (hc : portCheck p r s = none) (hok : (body s).2.outcome = .ok) :
    writeRow p r body s = { (body s).1 with
      ports := s.ports.set p ((s.port p).answered r.code .ok (body s).2.value (body s).2.slot) } := by
  have hnothing : body (sendNothing p s) = ((body s).1.setPorts (sendNothing p s).ports, (body s).2) :=
    hbody s (sendNothing p s).ports
  rw [writeRow_taken p r body s ht hc, hnothing, answer_accepted _ _ _ _ hok]
  have hclosed := closeTransaction_replaceResult p r.code (body s).2 s ((body s).1.setPorts (sendNothing p s).ports) rfl
  rw [hok] at hclosed
  exact hclosed

end Sys2Proof.Machine
end

section
/-! A port's transaction, assembly and reply, which no command's body reads or changes; the checks of R179; a command's row. -/

namespace Sys2Proof.Machine

/-! ### The shell of a port: its transaction, its assembly and its reply -/

def Port.shelled (k : Port) (t : Transaction) (a y : Bytes) : Port := { k with transaction := t, assembly := a, reply := y }

def State.shelled (s : State) (p : PortId) (t : Transaction) (a y : Bytes) : State := s.setPort p ((s.port p).shelled t a y)

theorem shelled_eq_setPorts (s : State) (p : PortId) (t : Transaction) (a y : Bytes) :
    s.shelled p t a y = s.setPorts (s.ports.set p ((s.port p).shelled t a y)) := rfl

theorem setPort_setPort (s : State) (p : PortId) (k k' : Port) : (s.setPort p k).setPort p k' = s.setPort p k' := by
  cases p <;> rfl

theorem shelled_port (s : State) (p : PortId) (t : Transaction) (a y : Bytes) :
    (s.shelled p t a y).port p = (s.port p).shelled t a y := State.setPort_port_self _ _ _

/-- A change of the port that leaves its shell, and is the same under any shell. -/
theorem setPort_shelled {g : Port → Port} {p : PortId} (hg : ∀ k t a y, g (Port.shelled k t a y) = (g k).shelled t a y)
    (s : State) (t : Transaction) (a y : Bytes) :
    (s.shelled p t a y).setPort p (g ((s.shelled p t a y).port p)) = (s.setPort p (g (s.port p))).shelled p t a y := by
  rw [shelled_port, hg, State.shelled, State.shelled, setPort_setPort, setPort_setPort, State.setPort_port_self]

theorem shelled_shelled (s : State) (p : PortId) (t t' : Transaction) (a a' y y' : Bytes) :
    (s.shelled p t a y).shelled p t' a' y' = s.shelled p t' a' y' := by
  rw [State.shelled, shelled_port, State.shelled, setPort_setPort]
  rfl

theorem sendNothing_eq_shelled (p : PortId) (s : State) :
    sendNothing p s = s.shelled p (s.port p).transaction (s.port p).assembly [] := rfl

theorem setTransaction_eq_shelled (p : PortId) (t : Transaction) (a : Bytes) (s : State) :
    setTransaction p t a s = s.shelled p t a (s.port p).reply := rfl

theorem closeTransaction_shelled (p : PortId) (s : State) (t : Transaction) (a y : Bytes) :
    closeTransaction p (s.shelled p t a y) = s.shelled p .inactive [] y := by
  rw [closeTransaction, setTransaction_eq_shelled, shelled_port, shelled_shelled]
  rfl

theorem sendReply_shelled (p : PortId) (record : Bytes) (s : State) (t : Transaction) (a y : Bytes) :
    sendReply p record (s.shelled p t a y) = (sendReply p record s).shelled p t a (0#8 :: record) := by
  have hreply (u : State) : sendReply p record u = u.shelled p (u.port p).transaction (u.port p).assembly (0#8 :: record) := rfl
  rw [hreply, hreply, shelled_shelled, shelled_shelled, shelled_port]
  rfl

/-! ### Answers, errors and ends under a shell -/

theorem raiseNotice_shelled (n : Notice) (p : PortId) (s : State) (t : Transaction) (a y : Bytes) :
    raiseNotice n (s.shelled p t a y) = (raiseNotice n s).shelled p t a y := by
  have hports : (raiseNotice n s).port p = s.port p := by simp [State.port]
  rw [State.shelled, State.shelled, hports]
  simp [State.setPort]

theorem replaceResult_shelled (p : PortId) (code : Byte) (no : Answer) (s : State) (t : Transaction) (a y : Bytes) :
    replaceResult p code no (s.shelled p t a y) = (replaceResult p code no s).shelled p t a y :=
  setPort_shelled (g := fun k => { k with
    result := { code := code, outcome := no.outcome, value := BitVec.ofNat 32 no.value, slot := no.slot } })
    (fun _ _ _ _ => rfl) s t a y

theorem answer_shelled (p : PortId) (code : Byte) (no : Answer) (s : State) (t : Transaction) (a y : Bytes) :
    answer p code no (s.shelled p t a y) = (answer p code no s).shelled p t a y := by
  by_cases hok : no.outcome = .ok
  · rw [answer_accepted _ _ _ _ hok, answer_accepted _ _ _ _ hok, replaceResult_shelled]
  · rw [answer_refused _ _ _ _ hok, answer_refused _ _ _ _ hok, replaceResult_shelled, raiseNotice_shelled]

theorem portError_shelled (p : PortId) (s : State) (t : Transaction) (a y : Bytes) :
    portError p (s.shelled p t a y) = (portError p s).shelled p t a y := by
  have hcount (k : Port) (t : Transaction) (a y : Bytes) : (Port.shelled k t a y).countError = k.countError.shelled t a y := by
    have hsame : (Port.shelled k t a y).errorCount = k.errorCount := rfl
    unfold Port.countError
    rw [hsame]
    split_ifs <;> rfl
  rw [portError, setPort_shelled hcount, raiseNotice_shelled]
  rfl

theorem endRead_shelled (p : PortId) (e : ReadEnd) (s : State) (t : Transaction) (a y : Bytes) :
    endRead p e (s.shelled p t a y) = (endRead p e s).shelled p t a y := by
  cases e with
  | keep => rfl
  | clearPort => exact setPort_shelled (g := fun k => { k with errorCount := 0, overflow := false }) (fun _ _ _ _ => rfl) s t a y
  | clearLink l late => rfl

theorem endReadWith_shelled (p : PortId) (e : ReadEnd) (incomplete : Bool) (s : State) (t : Transaction) (a y : Bytes) :
    endReadWith p e incomplete (s.shelled p t a y) = (endReadWith p e incomplete s).shelled p t a y := by
  unfold endReadWith
  split_ifs
  · rw [endRead_shelled, portError_shelled]
  · exact endRead_shelled p e s t a y

theorem incompleteByte_shelled (p : PortId) (incomplete : Bool) (s : State) (t : Transaction) (a y : Bytes) :
    incompleteByte p incomplete (s.shelled p t a y) = (incompleteByte p incomplete s).shelled p t a y := by
  cases incomplete
  · rfl
  · exact portError_shelled p s t a y

theorem portCheck_shelled (p q : PortId) (r : CommandRow) (s : State) (t : Transaction) (a y : Bytes) :
    portCheck q r (s.shelled p t a y) = portCheck q r s := rfl

/-! ### The bodies under a shell -/

def ShellfreeWrite (p : PortId) (body : WriteBody) : Prop :=
  ∀ s t a y, body (s.shelled p t a y) = ((body s).1.shelled p t a y, (body s).2)

def ShellfreeRead (p : PortId) (body : ReadBody) : Prop :=
  ∀ s t a y, body (s.shelled p t a y) = { body s with state := (body s).state.shelled p t a y }

/-- A body of the command table, whose port's shell it does not touch. -/
def Body.Shellfree (p : PortId) : Body → Prop
  | .write body => ShellfreeWrite p body
  | .read body => ShellfreeRead p body

theorem Portless.shellfree {body : WriteBody} (h : Portless body) (p : PortId) : ShellfreeWrite p body := by
  intro s t a y
  rw [shelled_eq_setPorts, h, shelled_eq_setPorts, State.port, State.port, h.ports]

theorem shellfree_showRecord (p : PortId) {record : State → Bytes} (h : ∀ s t a y, record (State.shelled s p t a y) = record s) :
    ShellfreeRead p (showRecord record) := by
  intro s t a y
  rw [showRecord, h]
  rfl

theorem takeReprint_shellfree (p : PortId) : ShellfreeRead p (takeReprint p) := by
  intro s t a y
  have hmap : (s.shelled p t a y).map = s.map := rfl
  unfold takeReprint
  rw [hmap]
  cases hr : s.map.reprints with
  | nil => simp only [answer_shelled]
  | cons r rest =>
    have hrest : (s.shelled p t a y).setMap { s.map with reprints := rest } =
        (s.setMap { s.map with reprints := rest }).shelled p t a y := rfl
    simp only [hrest, answer_shelled]

theorem takeOutcome_shellfree (p : PortId) : ShellfreeRead p (takeOutcome p) := by
  intro s t a y
  have hmap : (s.shelled p t a y).map = s.map := rfl
  unfold takeOutcome
  rw [hmap]
  cases hr : s.map.outcomes with
  | nil =>
    simp only [answer_shelled]
    rfl
  | cons r rest =>
    have hrest : (s.shelled p t a y).setMap { s.map with outcomes := rest } =
        (s.setMap { s.map with outcomes := rest }).shelled p t a y := rfl
    simp only [hrest, answer_shelled]
    rfl

theorem setSettled_shelled (p : PortId) (x : SettledRead) (s : State) (t : Transaction) (a y : Bytes) :
    setSettled p x (s.shelled p t a y) = (setSettled p x s).shelled p t a y :=
  setPort_shelled (g := fun k => { k with settled := x }) (fun _ _ _ _ => rfl) s t a y

theorem pendingRead_shelled (p : PortId) (slot : Nat) (s : State) (t : Transaction) (a y : Bytes) :
    pendingRead p slot (s.shelled p t a y) = { pendingRead p slot s with state := (pendingRead p slot s).state.shelled p t a y } := by
  unfold pendingRead
  rw [replaceResult_shelled]

theorem readSettled_shellfree (p : PortId) (selector key : Nat) : ShellfreeRead p (readSettled p selector key) := by
  intro s t a y
  have hsettled : ((s.shelled p t a y).port p).settled = (s.port p).settled := by
    rw [shelled_port]
    rfl
  have hselect : selectEntry selector key (s.shelled p t a y) = selectEntry selector key s := rfl
  unfold readSettled
  rw [hsettled, hselect]
  cases hs : (s.port p).settled with
  | ready copy =>
    simp only [setSettled_shelled]
    rfl
  | waiting w => exact pendingRead_shelled p w.slot s t a y
  | empty =>
    cases hv : selectEntry selector key s with
    | none => rfl
    | some v =>
      dsimp only
      split_ifs
      · rw [setSettled_shelled, pendingRead_shelled]
      · rfl

theorem readErrorCount_shellfree (p : PortId) (source : Nat) : ShellfreeRead p (readErrorCount p source) := by
  intro s t a y
  unfold readErrorCount
  split_ifs
  · rw [shelled_port]
    rfl
  · cases linkOfNumber source <;> rfl

theorem readResult_shellfree (p : PortId) : ShellfreeRead p (readResult p) :=
  shellfree_showRecord p fun s t a y => by
    rw [shelled_port]
    rfl

theorem readStatus_shellfree (p : PortId) : ShellfreeRead p readStatus :=
  shellfree_showRecord p fun s t a y => by
    have hcounts (q : PortId) : ((s.shelled p t a y).port q).errorCount = (s.port q).errorCount ∧
        ((s.shelled p t a y).port q).overflow = (s.port q).overflow := by
      cases p <;> cases q <;> exact ⟨rfl, rfl⟩
    have hports : statusPorts (s.shelled p t a y) = statusPorts s := by
      unfold statusPorts
      simp only [hcounts]
      rfl
    have hmap : statusMap (s.shelled p t a y) = statusMap s := rfl
    have hreg : statusReg (s.shelled p t a y) = statusReg s := rfl
    have hlam : statusLam (s.shelled p t a y) = statusLam s := rfl
    have hcut : statusCut (s.shelled p t a y) = statusCut s := rfl
    have hhold : statusHold (s.shelled p t a y) = statusHold s := rfl
    have hlinks (l : LinkId) : (s.shelled p t a y).link l = s.link l := rfl
    have htracker : (s.shelled p t a y).tracker = s.tracker := rfl
    have hplans : (s.shelled p t a y).plans = s.plans := rfl
    have hline : (s.shelled p t a y).line = s.line := rfl
    unfold statusRecord
    rw [hports, hmap, hreg, hlam, hcut, hhold, htracker, hplans, hline]
    simp only [hlinks]

theorem resetBlocks_shelled (p : PortId) (s : State) (t : Transaction) (a y : Bytes) :
    resetBlocks (s.shelled p t a y) = (resetBlocks s).shelled p t a y := by
  have hreset (k : Port) : (k.shelled t a y).lineReset = k.lineReset.shelled t a y := by
    unfold Port.lineReset Port.shelled
    cases k.settled <;> rfl
  cases p
  · exact congrArg (fun k => { resetBlocks s with ports := { (resetBlocks s).ports with print := k } }) (hreset s.ports.print)
  · exact congrArg (fun k => { resetBlocks s with ports := { (resetBlocks s).ports with plan := k } }) (hreset s.ports.plan)
  · exact congrArg (fun k => { resetBlocks s with ports := { (resetBlocks s).ports with console := k } }) (hreset s.ports.console)

theorem lineReset_shellfree (p : PortId) : ShellfreeWrite p lineReset := by
  have hafter (u : State) (x : PerPort Port) : clearLatched (evalFilm (passLevels (u.setPorts x))) =
      (clearLatched (evalFilm (passLevels u))).setPorts x := by
    simp [passLevels, allLinks]
  have hports (u : State) : (clearLatched (evalFilm (passLevels u))).ports = u.ports := by
    rw [show u = u.setPorts u.ports from rfl, hafter]
    rfl
  intro s t a y
  unfold lineReset
  rw [resetBlocks_shelled, shelled_eq_setPorts, hafter, shelled_eq_setPorts, State.port, State.port, hports]

/-- Every body of the command table leaves its port's shell alone. -/
theorem bodyOf_shellfree {p : PortId} {r : CommandRow} {ps : Bytes} {b : Body} (hr : r ∈ commandTable)
    (h : bodyOf p r.code.toNat ps = some b) : b.Shellfree p := by
  simp only [commandTable, List.cons_append, List.nil_append, List.mem_cons, List.not_mem_nil, or_false] at hr
  rcases hr with rfl | rfl | rfl | rfl | rfl | rfl | rfl | rfl | rfl | rfl | rfl | rfl | rfl | rfl | rfl | rfl | rfl | rfl |
    rfl | rfl | rfl | rfl | rfl | rfl | rfl | rfl | rfl | rfl | rfl | rfl | rfl | rfl | rfl | rfl | rfl | rfl | rfl | rfl | rfl <;>
    cases h
  · exact (announcePanel_portless _).shellfree p
  · exact (withdrawPanel_portless _).shellfree p
  · exact takeReprint_shellfree p
  · exact (planOpen_portless _ _ _ _).shellfree p
  · exact (planAppend_portless _ _ _).shellfree p
  · exact (planClose_portless _).shellfree p
  · exact (planDiscard_portless _).shellfree p
  · exact takeOutcome_shellfree p
  · exact lineStart_portless.shellfree p
  · exact lineStop_portless.shellfree p
  · exact (speedSet_portless _).shellfree p
  · exact (minSpeedSet_portless _).shellfree p
  · exact (filmStandby_portless _).shellfree p
  · exact (filmThread_portless _).shellfree p
  · exact spliceRequest_portless.shellfree p
  · exact (linkAcknowledge_portless _).shellfree p
  · exact (linkTest_portless _).shellfree p
  · exact (linkTestEnd_portless _).shellfree p
  · exact (zoneDefine_portless _).shellfree p
  · exact (syncSet_portless _ _).shellfree p
  · exact (thresholdSet_portless _ _).shellfree p
  · exact (registrationSet_portless _ _).shellfree p
  · exact (gapSet_portless _ _ _).shellfree p
  · exact (scrapPanel_portless _).shellfree p
  · exact lineReset_shellfree p
  · exact (holdCommand_portless p).shellfree p
  · exact (releaseCommand_portless p _).shellfree p
  · exact readStatus_shellfree p
  · exact shellfree_showRecord p fun _ _ _ _ => rfl
  · exact readSettled_shellfree p _ _
  · exact shellfree_showRecord p fun _ _ _ _ => rfl
  · exact shellfree_showRecord p fun _ _ _ _ => rfl
  · exact readResult_shellfree p
  · exact shellfree_showRecord p fun _ _ _ _ => rfl
  · exact (clearNotices_portless p _).shellfree p
  · exact (setNoticeMask_portless p _).shellfree p
  · exact (setLatchMasked_portless p _).shellfree p
  · exact readErrorCount_shellfree p _
  · exact shellfree_showRecord p fun _ _ _ _ => rfl

/-! ### Commands taken under a shell -/

theorem takeWrite_shelled {p : PortId} {body : WriteBody} (h : ShellfreeWrite p body) (r : CommandRow) (s : State)
    (t : Transaction) (a y : Bytes) : takeWrite p r body (s.shelled p t a y) = (takeWrite p r body s).shelled p t a y := by
  unfold takeWrite
  rw [portCheck_shelled]
  cases portCheck p r s with
  | some no => exact answer_shelled p r.code no s t a y
  | none =>
    dsimp only
    rw [h, answer_shelled]

/-- The reply of a read replaces the one that stood before. -/
theorem takeRead_shelled {p : PortId} {body : ReadBody} (h : ShellfreeRead p body) (r : CommandRow) (s : State)
    (t : Transaction) (a y : Bytes) : takeRead p r body (s.shelled p t a y) =
      (setTransaction p t a (takeRead p r body s).1, (takeRead p r body s).2) := by
  have hreply (record : Bytes) (u : State) : (sendReply p record u).shelled p t a (0#8 :: record) =
      setTransaction p t a (sendReply p record u) := by
    rw [setTransaction_eq_shelled, show ((sendReply p record u).port p).reply = 0#8 :: record by
      rw [sendReply, State.setPort_port_self]]
  unfold takeRead
  rw [portCheck_shelled]
  cases portCheck p r s with
  | some no =>
    dsimp only
    rw [answer_shelled, sendReply_shelled, hreply]
  | none =>
    have hfree (u : State) : (u.shelled p t a y).setFreeTick ((u.shelled p t a y).freeTick + 1) =
        (u.setFreeTick (u.freeTick + 1)).shelled p t a y := rfl
    dsimp only
    rw [h]
    dsimp only
    rw [hfree, sendReply_shelled, hreply]

end Sys2Proof.Machine
end

section
/-! The ports (O25 to O29): the checks of R179, a command's row and its bytes, select. -/

namespace Sys2Proof.Machine

/-! ### The command code table (section 12.1, R180) -/

theorem table_duringBusy : ∀ r ∈ commandTable, (r.duringBusy = false ↔ r.code.toNat ≠ 0x52 ∧ r.code.toNat ≠ 0x5D) := by
  decide

theorem table_permits (p : PortId) : ∀ r ∈ commandTable, r.permits p = permittedTo r.code.toNat p := by
  cases p <;> decide

theorem table_accepts (st : LineState) : ∀ r ∈ commandTable, r.lines.accepts st = acceptedIn r.code.toNat st := by
  cases st <;> decide

theorem table_commandRow : ∀ r ∈ commandTable, commandRow r.code = some r := by decide

/-- Checks 3 to 5 of R179 answer as the statements say. -/
theorem portCheck_eq_firstFailure {r : CommandRow} (hr : r ∈ commandTable) (p : PortId) (s : State) :
    portCheck p r s = (s.firstFailure p r.code.toNat).map (fun o => refuse o 0) := by
  unfold portCheck State.firstFailure
  simp only [table_duringBusy r hr, table_permits p r hr, table_accepts s.line.state r hr]
  split_ifs <;> rfl

/-! ### A command's row -/

/-- The row of a body: a write command's or a read command's. -/
def Body.row (b : Body) (p : PortId) (r : CommandRow) (params : Bytes) (s : State) : State :=
  match b with
  | .write body => writeRow p r body s
  | .read body => readRow p r params body s

/-- The rows without a reply are those of the write commands. -/
def Body.Suits (r : CommandRow) : Body → Prop
  | .write _ => r.reply = none
  | .read _ => r.reply.isSome

theorem bodyOf_suits {p : PortId} {r : CommandRow} {ps : Bytes} {b : Body} (hr : r ∈ commandTable)
    (h : bodyOf p r.code.toNat ps = some b) : b.Suits r := by
  simp only [commandTable, List.cons_append, List.nil_append, List.mem_cons, List.not_mem_nil, or_false] at hr
  rcases hr with rfl | rfl | rfl | rfl | rfl | rfl | rfl | rfl | rfl | rfl | rfl | rfl | rfl | rfl | rfl | rfl | rfl | rfl |
    rfl | rfl | rfl | rfl | rfl | rfl | rfl | rfl | rfl | rfl | rfl | rfl | rfl | rfl | rfl | rfl | rfl | rfl | rfl | rfl | rfl <;>
    cases h <;> rfl

theorem bodyOf_exists (p : PortId) {r : CommandRow} (hr : r ∈ commandTable) (ps : Bytes) :
    ∃ b, bodyOf p r.code.toNat ps = some b := by
  simp only [commandTable, List.cons_append, List.nil_append, List.mem_cons, List.not_mem_nil, or_false] at hr
  rcases hr with rfl | rfl | rfl | rfl | rfl | rfl | rfl | rfl | rfl | rfl | rfl | rfl | rfl | rfl | rfl | rfl | rfl | rfl |
    rfl | rfl | rfl | rfl | rfl | rfl | rfl | rfl | rfl | rfl | rfl | rfl | rfl | rfl | rfl | rfl | rfl | rfl | rfl | rfl | rfl <;>
    exact ⟨_, rfl⟩

theorem sentOn_mem {c : Instr} {p : PortId} {r : CommandRow} (h : c.sentOn = some (p, r)) : r ∈ commandTable := by
  cases c <;> cases h <;> decide

/-! ### The bytes of a command (R198, section 12.1) -/

theorem u16_wire (w : BitVec 16) : u16 (w.extractLsb' 8 8) (w.extractLsb' 0 8) = w.toNat := by
  simp only [u16, BitVec.extractLsb'_toNat, Nat.shiftRight_eq_div_pow]
  omega

theorem u32_wire (w : BitVec 32) :
    u32 (w.extractLsb' 24 8) (w.extractLsb' 16 8) (w.extractLsb' 8 8) (w.extractLsb' 0 8) = w.toNat := by
  simp only [u32, BitVec.extractLsb'_toNat, Nat.shiftRight_eq_div_pow]
  omega

theorem itemsOf_wire (items : List (BitVec 16)) : itemsOf (items.flatMap wire16) = items.map (fun x => x.toNat) := by
  induction items with
  | nil => rfl
  | cons w rest ih =>
    have hword : itemsOf ((w :: rest).flatMap wire16) =
        u16 (w.extractLsb' 8 8) (w.extractLsb' 0 8) :: itemsOf (rest.flatMap wire16) := rfl
    rw [hword, u16_wire, ih]
    rfl

/-- The two-byte parameter at a place where the bytes of a word stand. -/
theorem paramWord_wire {ps : Bytes} {i : Nat} (w : BitVec 16) (hhigh : ps.getD i 0#8 = w.extractLsb' 8 8)
    (hlow : ps.getD (i + 1) 0#8 = w.extractLsb' 0 8) : paramWord ps i = w.toNat := by
  rw [paramWord, hhigh, hlow, u16_wire]

theorem paramLong_wire (w : BitVec 32) : paramLong (wire32 w) 0 = w.toNat := u32_wire w

/-! The bodies that the bytes of the commands with words among their parameters call for. -/

section
variable (p : PortId)

theorem bodyOf_announcePanel (panel length : BitVec 16) (cls policy plan : Byte) (gap : BitVec 16) :
    bodyOf p 0x10 (Instr.announcePanel p panel length cls policy plan gap).parameters = some (.write (announcePanel
      { panel := panel.toNat, length := length.toNat, cls := cls.toNat, policy := policy.toNat, plan := plan.toNat
        gap := gap.toNat })) := by
  have hpanel : paramWord (Instr.announcePanel p panel length cls policy plan gap).parameters 0 = panel.toNat :=
    paramWord_wire panel rfl rfl
  have hlength : paramWord (Instr.announcePanel p panel length cls policy plan gap).parameters 2 = length.toNat :=
    paramWord_wire length rfl rfl
  have hgap : paramWord (Instr.announcePanel p panel length cls policy plan gap).parameters 7 = gap.toNat :=
    paramWord_wire gap rfl rfl
  rw [← hpanel, ← hlength, ← hgap]
  rfl

theorem bodyOf_zoneDefine (d1 d2 d3 d4 d5 : BitVec 16) :
    bodyOf p 0x3A (Instr.zoneDefine p d1 d2 d3 d4 d5).parameters = some (.write (zoneDefine
      { mark := d1.toNat, nip := d2.toNat, commit := d3.toNat, slit := d4.toNat, knife := d5.toNat })) := by
  have h1 : paramWord (Instr.zoneDefine p d1 d2 d3 d4 d5).parameters 0 = d1.toNat := paramWord_wire d1 rfl rfl
  have h2 : paramWord (Instr.zoneDefine p d1 d2 d3 d4 d5).parameters 2 = d2.toNat := paramWord_wire d2 rfl rfl
  have h3 : paramWord (Instr.zoneDefine p d1 d2 d3 d4 d5).parameters 4 = d3.toNat := paramWord_wire d3 rfl rfl
  have h4 : paramWord (Instr.zoneDefine p d1 d2 d3 d4 d5).parameters 6 = d4.toNat := paramWord_wire d4 rfl rfl
  have h5 : paramWord (Instr.zoneDefine p d1 d2 d3 d4 d5).parameters 8 = d5.toNat := paramWord_wire d5 rfl rfl
  rw [← h1, ← h2, ← h3, ← h4, ← h5]
  rfl

theorem bodyOf_gapSet (transition splice spacing : BitVec 16) :
    bodyOf p 0x3E (Instr.gapSet p transition splice spacing).parameters =
      some (.write (gapSet transition.toNat splice.toNat spacing.toNat)) := by
  have h1 : paramWord (Instr.gapSet p transition splice spacing).parameters 0 = transition.toNat :=
    paramWord_wire transition rfl rfl
  have h2 : paramWord (Instr.gapSet p transition splice spacing).parameters 2 = splice.toNat := paramWord_wire splice rfl rfl
  have h3 : paramWord (Instr.gapSet p transition splice spacing).parameters 4 = spacing.toNat := paramWord_wire spacing rfl rfl
  rw [← h1, ← h2, ← h3]
  rfl

theorem bodyOf_planOpen (plan ratio count : Byte) (slits : List (BitVec 16)) :
    bodyOf p 0x20 (Instr.planOpen p plan ratio count slits).parameters =
      some (.write (planOpen plan.toNat ratio.toNat count.toNat (slits.map (fun x => x.toNat)))) := by
  rw [← itemsOf_wire slits]
  rfl

theorem bodyOf_planAppend (plan count : Byte) (offsets : List (BitVec 16)) :
    bodyOf p 0x21 (Instr.planAppend p plan count offsets).parameters =
      some (.write (planAppend plan.toNat count.toNat (offsets.map (fun x => x.toNat)))) := by
  rw [← itemsOf_wire offsets]
  rfl

theorem bodyOf_withdrawPanel (panel : BitVec 16) : bodyOf p 0x11 (Instr.withdrawPanel p panel).parameters =
    some (.write (withdrawPanel panel.toNat)) :=
  congrArg (fun n => some (Body.write (withdrawPanel n))) (paramWord_wire panel rfl rfl)

theorem bodyOf_speedSet (speed : BitVec 16) : bodyOf p 0x32 (Instr.speedSet p speed).parameters =
    some (.write (speedSet speed.toNat)) :=
  congrArg (fun n => some (Body.write (speedSet n))) (paramWord_wire speed rfl rfl)

theorem bodyOf_minSpeedSet (speed : BitVec 16) : bodyOf p 0x33 (Instr.minSpeedSet p speed).parameters =
    some (.write (minSpeedSet speed.toNat)) :=
  congrArg (fun n => some (Body.write (minSpeedSet n))) (paramWord_wire speed rfl rfl)

theorem bodyOf_filmStandby (length : BitVec 32) : bodyOf p 0x34 (Instr.filmStandby p length).parameters =
    some (.write (filmStandby length.toNat)) :=
  congrArg (fun n => some (Body.write (filmStandby n))) (paramLong_wire length)

theorem bodyOf_filmThread (length : BitVec 32) : bodyOf p 0x35 (Instr.filmThread p length).parameters =
    some (.write (filmThread length.toNat)) :=
  congrArg (fun n => some (Body.write (filmThread n))) (paramLong_wire length)

theorem bodyOf_syncSet (mode : Byte) (lead : BitVec 16) : bodyOf p 0x3B (Instr.syncSet p mode lead).parameters =
    some (.write (syncSet mode.toNat lead.toNat)) :=
  congrArg (fun n => some (Body.write (syncSet mode.toNat n))) (paramWord_wire lead rfl rfl)

theorem bodyOf_scrapPanel (panel : BitVec 16) : bodyOf p 0x3F (Instr.scrapPanel p panel).parameters =
    some (.write (scrapPanel panel.toNat)) :=
  congrArg (fun n => some (Body.write (scrapPanel n))) (paramWord_wire panel rfl rfl)

theorem bodyOf_readMapEntry (selector : Byte) (key : BitVec 16) : bodyOf p 0x53 (Instr.readMapEntry p selector key).parameters =
    some (.read (readMapEntry selector.toNat key.toNat)) :=
  congrArg (fun n => some (Body.read (readMapEntry selector.toNat n))) (paramWord_wire key rfl rfl)

theorem bodyOf_readMapEntrySettled (selector : Byte) (key : BitVec 16) : bodyOf p 0x54 (Instr.readMapEntrySettled p selector key).parameters =
    some (.read (readSettled p selector.toNat key.toNat)) :=
  congrArg (fun n => some (Body.read (readSettled p selector.toNat n))) (paramWord_wire key rfl rfl)

theorem bodyOf_clearNotices (set : BitVec 32) : bodyOf p 0x59 (Instr.clearNotices p set).parameters =
    some (.write (clearNotices p set.toNat)) :=
  congrArg (fun n => some (Body.write (clearNotices p n))) (paramLong_wire set)

theorem bodyOf_setNoticeMask (mask : BitVec 32) : bodyOf p 0x5A (Instr.setNoticeMask p mask).parameters =
    some (.write (setNoticeMask p mask.toNat)) :=
  congrArg (fun n => some (Body.write (setNoticeMask p n))) (paramLong_wire mask)

end

/-- A command's bytes call for its body, and its row runs it. -/
theorem sent_body {c : Instr} {p : PortId} {r : CommandRow} (h : c.sentOn = some (p, r)) (hwf : c.WellFormed = true) :
    ∃ b params, bodyOf p r.code.toNat c.parameters = some b ∧ ∀ s, exec c s = .next (b.row p r params s) := by
  cases c <;> cases h
  case announcePanel => exact ⟨_, [], bodyOf_announcePanel .., fun _ => rfl⟩
  case planOpen plan ratio count slits =>
    exact ⟨_, [], bodyOf_planOpen .., fun s => exec_planOpen p plan ratio count slits s (eq_of_beq hwf)⟩
  case planAppend plan count offsets =>
    exact ⟨_, [], bodyOf_planAppend .., fun s => exec_planAppend p plan count offsets s (eq_of_beq hwf)⟩
  case withdrawPanel => exact ⟨_, [], bodyOf_withdrawPanel .., fun _ => rfl⟩
  case speedSet => exact ⟨_, [], bodyOf_speedSet .., fun _ => rfl⟩
  case minSpeedSet => exact ⟨_, [], bodyOf_minSpeedSet .., fun _ => rfl⟩
  case filmStandby => exact ⟨_, [], bodyOf_filmStandby .., fun _ => rfl⟩
  case filmThread => exact ⟨_, [], bodyOf_filmThread .., fun _ => rfl⟩
  case zoneDefine => exact ⟨_, [], bodyOf_zoneDefine .., fun _ => rfl⟩
  case syncSet => exact ⟨_, [], bodyOf_syncSet .., fun _ => rfl⟩
  case gapSet => exact ⟨_, [], bodyOf_gapSet .., fun _ => rfl⟩
  case scrapPanel => exact ⟨_, [], bodyOf_scrapPanel .., fun _ => rfl⟩
  case readMapEntry => exact ⟨_, _, bodyOf_readMapEntry .., fun _ => rfl⟩
  case readMapEntrySettled => exact ⟨_, _, bodyOf_readMapEntrySettled .., fun _ => rfl⟩
  case clearNotices => exact ⟨_, [], bodyOf_clearNotices .., fun _ => rfl⟩
  case setNoticeMask => exact ⟨_, [], bodyOf_setNoticeMask .., fun _ => rfl⟩
  case readPlan => exact ⟨_, _, rfl, fun _ => rfl⟩
  case readHoldContext => exact ⟨_, _, rfl, fun _ => rfl⟩
  case readErrorCount => exact ⟨_, _, rfl, fun _ => rfl⟩
  all_goals exact ⟨_, [], rfl, fun _ => rfl⟩

/-! ### Refusals by the checks (O25) -/

/-- A read refused by the checks of R179: the record is all zeros. -/
theorem readRow_refused_by_check {p : PortId} {r : CommandRow} {params : Bytes} {body : ReadBody} {s : State} {o : PortOutcome}
    (ht : (s.port p).transaction = .inactive) (hc : portCheck p r s = some (refuse o 0)) (ho : o ≠ .ok) :
    readRow p r params body s = { s with
      ports := s.ports.set p { (s.port p).answered r.code o 0 none with reply := 0#8 :: r.zeroRecord }
      notices := s.notices.took 22 } := by
  have htaken : takeRead p r body s = (sendReply p r.zeroRecord (answer p r.code (refuse o 0) s), .keep) := by
    unfold takeRead
    rw [hc]
  have hanswer : answer p r.code (refuse o 0) s = { replaceResult p r.code (refuse o 0) s with notices := s.notices.took 22 } := by
    rw [answer_refused _ _ _ _ ho, raiseNotice_eq_took _ _ rfl]
    rfl
  rw [readRow_whole p r params body s ht, htaken, hanswer]
  cases p <;> rfl

/-- Settles O25: BUSY, then ROLE, then STATE. -/
theorem commandsAreRefusedInOrder : Obligations.CommandsAreRefusedInOrder := by
  intro c p r s o h hwf ht hfails
  obtain ⟨b, params, hbody, hexec⟩ := sent_body h hwf
  have hr := sentOn_mem h
  have hc : portCheck p r s = some (refuse o 0) := by rw [portCheck_eq_firstFailure hr, hfails]; rfl
  have ho : o ≠ .ok := by
    rintro rfl
    rcases (portCheck_answers p r s _ hc).2.2 with ho | ho | ho <;> cases ho
  rw [hexec]
  have hsuits := bodyOf_suits hr hbody
  cases b with
  | write body =>
    refine congrArg Host.Outcome.next ((writeRow_refused_by_check p r body s o 0 (.inl ht) hc ho).trans ?_)
    rw [show r.reply = none from hsuits]
    rfl
  | read body =>
    refine congrArg Host.Outcome.next ((readRow_refused_by_check ht hc ho).trans ?_)
    obtain ⟨n, hn⟩ := Option.isSome_iff_exists.1 hsuits
    rw [CommandRow.zeroRecord, hn]
    rfl

end Sys2Proof.Machine
end

section
/-! The ports (O26 to O29): short and long transactions, select, spent transactions, and the bytes of a command. -/

namespace Sys2Proof.Machine

/-! ### Errors at a port (R181) -/

theorem portError_eq_erred (p : PortId) (s : State) : portError p s = s.erred p := by
  rw [portError, raiseNotice_eq_took _ _ rfl]
  rfl

theorem erred_shelled (p : PortId) (s : State) (t : Transaction) (a y : Bytes) :
    (s.shelled p t a y).erred p = (s.erred p).shelled p t a y := by
  rw [← portError_eq_erred, ← portError_eq_erred, portError_shelled]

theorem erred_port (p : PortId) (s : State) : (s.erred p).port p = (s.port p).erred := PerPort.get_set_self _ _ _

theorem Port.erred_fields (k : Port) : k.erred.transaction = k.transaction ∧ k.erred.assembly = k.assembly ∧ k.erred.reply = k.reply := by
  unfold Port.erred
  split_ifs <;> exact ⟨rfl, rfl, rfl⟩

theorem sendNothing_erred (p : PortId) (s : State) : sendNothing p (s.erred p) = portError p (sendNothing p s) := by
  obtain ⟨htransaction, hassembly, -⟩ := Port.erred_fields (s.port p)
  rw [sendNothing_eq_shelled, sendNothing_eq_shelled, portError_shelled, portError_eq_erred, erred_port, htransaction, hassembly]

theorem closeTransaction_portError (p : PortId) (s : State) : closeTransaction p (portError p s) = (closeTransaction p s).erred p := by
  obtain ⟨-, -, hreply⟩ := Port.erred_fields (s.port p)
  have hclose (u : State) : closeTransaction p u = u.shelled p .inactive [] (u.port p).reply := rfl
  rw [hclose, hclose, erred_shelled, portError_eq_erred, erred_port, hreply]

/-- An incomplete byte at the end of a transaction counts last (R176, R181). -/
theorem closeTransaction_incompleteByte (p : PortId) (incomplete : Bool) (s : State) :
    closeTransaction p (incompleteByte p incomplete s) =
      (let t := closeTransaction p s; if incomplete then t.erred p else t) := by
  cases incomplete
  · rfl
  · exact closeTransaction_portError p s

theorem closeTransaction_sendNothing (p : PortId) (s : State) : closeTransaction p (sendNothing p s) = s.silenced p := by
  rw [sendNothing_eq_shelled, closeTransaction_shelled]
  rfl

/-- A refusal that comes with an error (R177, R179, R181). -/
theorem closeTransaction_refused (p : PortId) (code : Byte) (o : PortOutcome) (v : Nat) (s : State) (ho : o ≠ .ok) :
    closeTransaction p (answer p code (refuse o v) (portError p (sendNothing p s))) = (s.erred p).refused p code o v := by
  rw [← sendNothing_erred]
  exact closeTransaction_answer_refused p code o v (s.erred p) ho

/-! ### Short and long transactions (O26) -/

theorem writeCommand_listening {p : PortId} {take : State → State} {s : State} (h : Listening p s) :
    writeCommand p take s = closeTransaction p (take (sendNothing p s)) := by
  unfold writeCommand
  rcases h with h | h <;> rw [h]

theorem Listening.erred {p : PortId} {s : State} (h : Listening p s) : Listening p (s.erred p) := by
  obtain ⟨htransaction, -, -⟩ := Port.erred_fields (s.port p)
  rwa [Listening, erred_port, htransaction]

theorem takeByLength_short {p : PortId} {r : CommandRow} {expected received : Nat} {body : WriteBody} {s : State}
    (h : received < expected) : takeByLength p r expected received body s = shortTransaction p r.code received s := if_pos h

theorem takeByLength_long {p : PortId} {r : CommandRow} {expected received : Nat} {body : WriteBody} {s : State}
    (h : expected < received) : takeByLength p r expected received body s = takeWrite p r body (portError p s) := by
  rw [takeByLength, if_neg (by omega), if_pos h]

theorem takeByLength_exact {p : PortId} {r : CommandRow} {n : Nat} {body : WriteBody} {s : State} :
    takeByLength p r n n body s = takeWrite p r body s := by
  rw [takeByLength, if_neg (by omega), if_neg (by omega)]

section
variable {p : PortId} {r : CommandRow} {head most : Nat} {count : Byte} {items : List (BitVec 16)}
  {body : List Nat → WriteBody} {s : State}

theorem countedRow_short (h : Listening p s) (hshort : items.length < min count.toNat most) :
    countedRow p r head most count items body s = (s.erred p).refused p r.code .format (head + 2 * items.length) := by
  have hcount : items.length < countedItems most count := hshort
  unfold countedRow
  dsimp only
  rw [writeCommand_listening h, takeByLength_short (by omega)]
  exact closeTransaction_refused p r.code .format _ s (by simp)

theorem countedRow_long (h : Listening p s) (hlong : min count.toNat most < items.length) :
    countedRow p r head most count items body s =
      countedRow p r head most count (items.take (min count.toNat most)) body (s.erred p) := by
  have hcount : countedItems most count = min count.toNat most := rfl
  have hlength : (items.take (min count.toNat most)).length = min count.toNat most := List.length_take_of_le (by omega)
  unfold countedRow
  dsimp only
  rw [writeCommand_listening h, writeCommand_listening h.erred, hcount, hlength, takeByLength_long (by omega), takeByLength_exact,
    sendNothing_erred, List.take_take, min_self]

end

/-- Settles O26: short and long transactions of the two commands with a counted list. -/
theorem shortAndLongTransactions : Obligations.ShortAndLongTransactions := fun _ _ _ _ _ _ h =>
  ⟨fun hshort => congrArg Host.Outcome.next (countedRow_short h hshort),
    fun hlong => congrArg Host.Outcome.next (countedRow_long h hlong),
    fun hshort => congrArg Host.Outcome.next (countedRow_short h hshort),
    fun hlong => congrArg Host.Outcome.next (countedRow_long h hlong)⟩

/-! ### Select (O27) -/

theorem commandRow_mem {code : Byte} {r : CommandRow} (h : commandRow code = some r) : r ∈ commandTable := List.mem_of_find?_eq_some h

theorem commandRow_code {code : Byte} {r : CommandRow} (h : commandRow code = some r) : r.code = code :=
  eq_of_beq (List.find?_some (p := fun r : CommandRow => r.code == code) h)

theorem callsFor_eq_length (r : CommandRow) (bytes : Bytes) : r.callsFor bytes = r.length bytes := by
  unfold CommandRow.callsFor CommandRow.length
  cases r.params with
  | fixed n => rfl
  | counted head most =>
    dsimp only
    rw [List.getD_eq_getElem?_getD]
    cases bytes[head - 1]? with
    | none => simp
    | some count => rfl

/-- A count byte has a place among the bytes. -/
def ParamForm.headed : ParamForm → Bool
  | .fixed _ => true
  | .counted head _ => decide (0 < head)

theorem table_headed : ∀ r ∈ commandTable, r.params.headed = true := by decide

/-- The bytes beyond the length of a command do not change it. -/
theorem length_take {r : CommandRow} (hr : r ∈ commandTable) {bytes : Bytes} (h : r.length bytes < bytes.length) :
    r.length (bytes.take (r.length bytes)) = r.length bytes := by
  have hheaded := table_headed r hr
  unfold CommandRow.length at h ⊢
  cases hparams : r.params with
  | fixed n => rfl
  | counted head most =>
    rw [hparams] at h hheaded
    have hpos : 0 < head := of_decide_eq_true hheaded
    dsimp only at h ⊢
    have hplace : head - 1 < bytes.length := by
      split at h <;> omega
    have hcount : bytes[head - 1]? = some bytes[head - 1] := List.getElem?_eq_getElem hplace
    rw [hcount]
    dsimp only
    rw [List.getElem?_take_of_lt (by omega), hcount]

/-- A known command's bytes: too few. -/
theorem takeKnown_short {p : PortId} {r : CommandRow} (hr : r ∈ commandTable) {params : Bytes} {incomplete : Bool} {s : State}
    (h : params.length < r.length params) : takeKnown p r params incomplete s =
      incompleteByte p incomplete (shortTransaction p r.code params.length s) := by
  obtain ⟨b, hb⟩ := bodyOf_exists p hr (params.take (r.length params))
  unfold takeKnown
  dsimp only
  rw [hb]
  cases b with
  | write body => exact congrArg (incompleteByte p incomplete) (takeByLength_short h)
  | read body => exact if_pos h

theorem takeKnown_write {p : PortId} {r : CommandRow} {params : Bytes} {incomplete : Bool} {s : State} {body : WriteBody}
    (hb : bodyOf p r.code.toNat (params.take (r.length params)) = some (.write body)) : takeKnown p r params incomplete s =
      incompleteByte p incomplete (takeByLength p r (r.length params) params.length body s) := by
  unfold takeKnown
  dsimp only
  rw [hb]

theorem takeKnown_read {p : PortId} {r : CommandRow} {params : Bytes} {incomplete : Bool} {s : State} {body : ReadBody}
    (hb : bodyOf p r.code.toNat (params.take (r.length params)) = some (.read body)) (h : r.length params ≤ params.length) :
    takeKnown p r params incomplete s =
      endReadWith p (takeRead p r body s).2 incomplete (takeRead p r body s).1 := by
  unfold takeKnown
  dsimp only
  rw [hb]
  exact if_neg (by omega)

/-- Extra bytes: those of a write are one error, counted first, those of a read none (R177, log 21). -/
theorem takeKnown_long {p : PortId} {r : CommandRow} (hr : r ∈ commandTable) {params : Bytes} {incomplete : Bool} {s : State}
    (h : r.length params < params.length) : takeKnown p r params incomplete (sendNothing p s) =
      takeKnown p r (params.take (r.length params)) incomplete (sendNothing p (if r.reply = none then s.erred p else s)) := by
  obtain ⟨b, hb⟩ := bodyOf_exists p hr (params.take (r.length params))
  have hlength := length_take hr h
  have htaken : (params.take (r.length params)).length = r.length params := List.length_take_of_le (by omega)
  have hagain : bodyOf p r.code.toNat
      ((params.take (r.length params)).take (r.length (params.take (r.length params)))) = some b := by
    rw [hlength, List.take_take, min_self, hb]
  have hsuits := bodyOf_suits hr hb
  cases b with
  | write body =>
    rw [takeKnown_write hb, takeKnown_write hagain, hlength, htaken, takeByLength_long h, takeByLength_exact,
      if_pos (show r.reply = none from hsuits), sendNothing_erred]
  | read body =>
    have hreply : r.reply ≠ none := Option.isSome_iff_ne_none.1 hsuits
    rw [takeKnown_read hb h.le, takeKnown_read hagain (by rw [hlength, htaken]), if_neg hreply]

/-- Once the transaction is over, it does not matter where it stood and what had been assembled. -/
theorem closeTransaction_takeKnown {p : PortId} {r : CommandRow} (hr : r ∈ commandTable) {params : Bytes} {incomplete : Bool}
    {s : State} (t t' : Transaction) (a a' y : Bytes) :
    closeTransaction p (takeKnown p r params incomplete (s.shelled p t a y)) =
      closeTransaction p (takeKnown p r params incomplete (s.shelled p t' a' y)) := by
  by_cases hshort : params.length < r.length params
  · have hshell (t : Transaction) (a : Bytes) : shortTransaction p r.code params.length (s.shelled p t a y) =
        (shortTransaction p r.code params.length s).shelled p t a y := by
      rw [shortTransaction, portError_shelled, answer_shelled]
      rfl
    rw [takeKnown_short hr hshort, takeKnown_short hr hshort, hshell, hshell, incompleteByte_shelled, incompleteByte_shelled,
      closeTransaction_shelled, closeTransaction_shelled]
  · obtain ⟨b, hb⟩ := bodyOf_exists p hr (params.take (r.length params))
    have hfree := bodyOf_shellfree hr hb
    cases b with
    | write body =>
      have hshell (t : Transaction) (a : Bytes) :
          takeByLength p r (r.length params) params.length body (s.shelled p t a y) =
            (takeByLength p r (r.length params) params.length body s).shelled p t a y := by
        by_cases hlong : r.length params < params.length
        · rw [takeByLength_long hlong, takeByLength_long hlong, portError_shelled, takeWrite_shelled hfree]
        · rw [show params.length = r.length params by omega, takeByLength_exact, takeByLength_exact, takeWrite_shelled hfree]
      rw [takeKnown_write hb, takeKnown_write hb, hshell, hshell, incompleteByte_shelled, incompleteByte_shelled,
        closeTransaction_shelled, closeTransaction_shelled]
    | read body =>
      rw [takeKnown_read hb (by omega), takeKnown_read hb (by omega), takeRead_shelled hfree, takeRead_shelled hfree]
      dsimp only
      rw [setTransaction_eq_shelled, setTransaction_eq_shelled, endReadWith_shelled, endReadWith_shelled, closeTransaction_shelled,
        closeTransaction_shelled]

section
variable {p : PortId} {bytes : Bytes} {incomplete : Bool} {s : State}

theorem selectRelease_receiving (h : (s.port p).transaction = .receiving) : selectRelease p bytes incomplete s =
    closeTransaction p (takeBytes p ((s.port p).assembly ++ bytes) incomplete (sendNothing p s)) := by
  unfold selectRelease
  rw [h]

theorem selectRelease_known {code : Byte} {rest : Bytes} {r : CommandRow} (h : (s.port p).transaction = .receiving)
    (hbytes : (s.port p).assembly ++ bytes = code :: rest) (hrow : commandRow code = some r) :
    selectRelease p bytes incomplete s = closeTransaction p (takeKnown p r rest incomplete (sendNothing p s)) := by
  rw [selectRelease_receiving h, hbytes]
  unfold takeBytes
  dsimp only
  rw [hrow]

theorem selectRelease_taken {e : ReadEnd} (h : (s.port p).transaction = .readTaken e) : selectRelease p bytes incomplete s =
    closeTransaction p (endReadWith p e incomplete s) := by
  unfold selectRelease
  rw [h]

theorem selectRelease_ignored (h : (s.port p).transaction = .ignored) : selectRelease p bytes incomplete s = closeTransaction p s := by
  unfold selectRelease
  rw [h]

theorem selectRelease_empty (h : (s.port p).transaction = .receiving) (hbytes : (s.port p).assembly ++ bytes = []) :
    selectRelease p bytes incomplete s = (let t := s.silenced p; if incomplete then t.erred p else t) := by
  rw [selectRelease_receiving h, hbytes, takeBytes, closeTransaction_incompleteByte, closeTransaction_sendNothing]

theorem selectRelease_unknown {code : Byte} {rest : Bytes} (h : (s.port p).transaction = .receiving)
    (hbytes : (s.port p).assembly ++ bytes = code :: rest) (hrow : commandRow code = none) :
    selectRelease p bytes incomplete s =
      (let t := (s.erred p).refused p code .unknown 0; if incomplete then t.erred p else t) := by
  have htaken : takeBytes p (code :: rest) incomplete (sendNothing p s) =
      incompleteByte p incomplete (unknownCommand p code (sendNothing p s)) := by
    unfold takeBytes
    dsimp only
    rw [hrow]
  rw [selectRelease_receiving h, hbytes, htaken, closeTransaction_incompleteByte, unknownCommand,
    closeTransaction_refused _ _ _ _ _ (by simp)]

theorem selectRelease_short {code : Byte} {rest : Bytes} {r : CommandRow} (h : (s.port p).transaction = .receiving)
    (hbytes : (s.port p).assembly ++ bytes = code :: rest) (hrow : commandRow code = some r)
    (hshort : rest.length < r.length rest) : selectRelease p bytes incomplete s =
      (let t := (s.erred p).refused p code .format rest.length; if incomplete then t.erred p else t) := by
  rw [selectRelease_known h hbytes hrow, takeKnown_short (commandRow_mem hrow) hshort, closeTransaction_incompleteByte,
    shortTransaction, closeTransaction_refused _ _ _ _ _ (by simp), commandRow_code hrow]

theorem selectRelease_long {code : Byte} {rest : Bytes} {r : CommandRow} (h : (s.port p).transaction = .receiving)
    (hbytes : (s.port p).assembly ++ bytes = code :: rest) (hrow : commandRow code = some r)
    (hlong : r.length rest < rest.length) : selectRelease p bytes incomplete s =
      selectRelease p (code :: rest.take (r.length rest)) incomplete
        (let t := if r.reply = none then s.erred p else s
         { t with ports := t.ports.set p { t.port p with assembly := [] } }) := by
  have hr := commandRow_mem hrow
  obtain ⟨u, hu⟩ : ∃ u, u = if r.reply = none then s.erred p else s := ⟨_, rfl⟩
  have hreceiving : (u.port p).transaction = .receiving := by
    rw [hu]
    split_ifs
    · rw [erred_port, (Port.erred_fields _).1, h]
    · exact h
  have hshell : ({ u with ports := u.ports.set p { u.port p with assembly := [] } } : State) =
      u.shelled p (u.port p).transaction [] (u.port p).reply := rfl
  have hport : ({ u with ports := u.ports.set p { u.port p with assembly := [] } } : State).port p =
      { u.port p with assembly := [] } := PerPort.get_set_self _ _ _
  rw [selectRelease_known h hbytes hrow, takeKnown_long hr hlong, ← hu]
  dsimp only
  rw [selectRelease_known (code := code) (rest := rest.take (r.length rest)) (by rw [hport]; exact hreceiving)
    (by rw [hport]; rfl) hrow, sendNothing_eq_shelled, sendNothing_eq_shelled, hshell, shelled_shelled]
  exact closeTransaction_takeKnown hr _ _ _ _ _

end

/-- Settles O27: select, asserted and released. -/
theorem selectBeginsAndEndsTransactions : Obligations.SelectBeginsAndEndsTransactions := by
  intro p bytes incomplete s
  refine ⟨fun h => ?_, fun x hx i => ?_, fun h => ?_, fun h => ?_, fun h hbytes => ?_, fun code rest h hbytes hrow => ?_,
    fun code rest r h hbytes hrow => ⟨fun hshort => ?_, fun hlong => ?_⟩, fun h => ?_, fun h => ?_, fun l late h => ?_⟩
  · refine congrArg Host.Outcome.next ?_
    unfold selectAssert
    rw [h, setTransaction_eq_shelled, sendNothing_eq_shelled, shelled_shelled, shelled_port]
    rfl
  · rw [Port.dataOut, hx]
    rfl
  · refine congrArg Host.Outcome.next ?_
    unfold selectAssert
    cases ht : (s.port p).transaction with
    | inactive => exact absurd ht h
    | receiving => rfl
    | readTaken e => rfl
    | ignored => rfl
  · refine congrArg Host.Outcome.next ?_
    unfold selectRelease
    rw [h]
  · exact congrArg Host.Outcome.next (selectRelease_empty h hbytes)
  · exact congrArg Host.Outcome.next (selectRelease_unknown h hbytes hrow)
  · rw [callsFor_eq_length] at hshort
    exact congrArg Host.Outcome.next (selectRelease_short h hbytes hrow hshort)
  · rw [callsFor_eq_length] at hlong ⊢
    exact congrArg Host.Outcome.next (selectRelease_long h hbytes hrow hlong)
  · refine congrArg Host.Outcome.next ?_
    rcases h with h | h
    · exact (selectRelease_taken h).trans (congrArg (closeTransaction p) (if_neg (by simp)))
    · exact selectRelease_ignored h
  · refine congrArg Host.Outcome.next ((selectRelease_taken h).trans ?_)
    have hclosed : closeTransaction p (endRead p .clearPort s) = { s with
        ports := s.ports.set p
          { s.port p with transaction := .inactive, assembly := [], errorCount := 0, overflow := false } } := by
      cases p <;> rfl
    cases incomplete
    · exact hclosed
    · exact (closeTransaction_portError p _).trans (congrArg (fun t => State.erred t p) hclosed)
  · refine congrArg Host.Outcome.next ((selectRelease_taken h).trans ?_)
    refine (congrArg (closeTransaction p) (if_neg (by simp))).trans ?_
    rfl

/-! ### Spent transactions (O28) -/

/-- What a command's row does with its transaction (log 1). -/
def Rowed (c : Instr) (p : PortId) (r : CommandRow) : Prop :=
  (r.reply = none → ∃ take, ∀ s, exec c s = .next (writeCommand p take s)) ∧
    (r.reply.isSome → ∃ bytes take, ∀ s, exec c s = .next (readCommand p bytes take s))

theorem rowed_of_wellFormed {c : Instr} {p : PortId} {r : CommandRow} (h : c.sentOn = some (p, r)) (hwf : c.WellFormed = true) :
    Rowed c p r := by
  obtain ⟨b, params, hb, hexec⟩ := sent_body h hwf
  have hsuits := bodyOf_suits (sentOn_mem h) hb
  cases b with
  | write body =>
    exact ⟨fun _ => ⟨_, hexec⟩, fun hsome => absurd (show r.reply = none from hsuits) (Option.isSome_iff_ne_none.1 hsome)⟩
  | read body => exact ⟨fun hnone => absurd hnone (Option.isSome_iff_ne_none.1 hsuits), fun _ => ⟨_, _, hexec⟩⟩

/-- Only the counted commands can be ill formed. -/
theorem wellFormed_or_counted {c : Instr} {p : PortId} {r : CommandRow} (h : c.sentOn = some (p, r)) :
    c.WellFormed = true ∨ (r.reply = none ∧ ∃ take, ∀ s, exec c s = .next (writeCommand p take s)) := by
  cases c <;> cases h
  case planOpen => exact .inr ⟨rfl, _, fun _ => rfl⟩
  case planAppend => exact .inr ⟨rfl, _, fun _ => rfl⟩
  all_goals exact .inl rfl

theorem rowed {c : Instr} {p : PortId} {r : CommandRow} (h : c.sentOn = some (p, r)) : Rowed c p r := by
  rcases wellFormed_or_counted h with hwf | ⟨hnone, hrow⟩
  · exact rowed_of_wellFormed h hwf
  · exact ⟨fun _ => hrow, fun hsome => absurd hnone (Option.isSome_iff_ne_none.1 hsome)⟩

/-- Settles O28: a command in a transaction whose read has been taken, or that is ignored since hardware reset. -/
theorem commandsInASpentTransactionAreIgnored : Obligations.CommandsInASpentTransactionAreIgnored := by
  intro c p r s h hinactive hreceiving
  obtain ⟨hwrite, hread⟩ := rowed h
  refine ⟨fun hnone => ?_, fun hsome => ?_⟩
  · obtain ⟨take, hexec⟩ := hwrite hnone
    refine (hexec s).trans (congrArg Host.Outcome.next ?_)
    cases ht : (s.port p).transaction with
    | inactive => exact absurd ht hinactive
    | receiving => exact absurd ht hreceiving
    | readTaken e =>
      rw [selectRelease_taken ht, endReadWith, if_neg (by simp), writeCommand, ht]
    | ignored => rw [selectRelease_ignored ht, writeCommand, ht]
  · obtain ⟨bytes, take, hexec⟩ := hread hsome
    refine (hexec s).trans (congrArg Host.Outcome.next ?_)
    unfold readCommand
    cases ht : (s.port p).transaction with
    | inactive => exact absurd ht hinactive
    | receiving => exact absurd ht hreceiving
    | readTaken e => rfl
    | ignored => rfl

/-! ### The bytes of a command run it (O29) -/

theorem wire16_length (items : List (BitVec 16)) : (items.flatMap wire16).length = 2 * items.length := by
  induction items with
  | nil => rfl
  | cons w rest ih =>
    rw [List.flatMap_cons, List.length_append, ih, List.length_cons]
    show 2 + 2 * rest.length = 2 * (rest.length + 1)
    omega

theorem parameters_length {c : Instr} {p : PortId} {r : CommandRow} (h : c.sentOn = some (p, r)) (hwf : c.WellFormed = true) :
    r.length c.parameters = c.parameters.length := by
  cases c <;> cases h
  case planOpen plan ratio count slits =>
    have hlength : (Instr.planOpen p plan ratio count slits).parameters.length = (slits.flatMap wire16).length + 3 := rfl
    rw [hlength, wire16_length, eq_of_beq hwf]
    exact Nat.add_comm _ _
  case planAppend plan count offsets =>
    have hlength : (Instr.planAppend p plan count offsets).parameters.length = (offsets.flatMap wire16).length + 2 := rfl
    rw [hlength, wire16_length, eq_of_beq hwf]
    exact Nat.add_comm _ _
  all_goals rfl

/-- Settles O29: the bytes of a command, clocked in one transaction, are the command. -/
theorem wireBytesRunTheCommand : Obligations.WireBytesRunTheCommand := by
  intro c p r s h hwf ht hassembly
  obtain ⟨b, params, hb, hexec⟩ := sent_body h hwf
  have hr := sentOn_mem h
  have hlength := parameters_length h hwf
  have htake : bodyOf p r.code.toNat (c.parameters.take (r.length c.parameters)) = some b := by
    rw [hlength, List.take_length, hb]
  have hsuits := bodyOf_suits hr hb
  have hrelease : selectRelease p (r.code :: c.parameters) false s =
      closeTransaction p (takeKnown p r c.parameters false (sendNothing p s)) :=
    selectRelease_known ht (by rw [hassembly]; rfl) (table_commandRow r hr)
  cases b with
  | write body =>
    refine ⟨fun _ => ?_, fun hsome => absurd (show r.reply = none from hsuits) (Option.isSome_iff_ne_none.1 hsome)⟩
    rw [hexec]
    refine congrArg Host.Outcome.next (hrelease.trans ?_)
    rw [takeKnown_write htake, hlength, takeByLength_exact]
    exact (writeCommand_listening (take := takeWrite p r body) (.inr ht)).symm
  | read body =>
    refine ⟨fun hnone => absurd hnone (Option.isSome_iff_ne_none.1 hsuits), fun _ => ⟨_, hexec s, ?_⟩⟩
    refine congrArg Host.Outcome.next (hrelease.trans ?_)
    have hfree : ShellfreeRead p body := bodyOf_shellfree hr hb
    have hrow : (Body.read body).row p r params s =
        setTransaction p (.readTaken (takeRead p r body s).2) (r.code :: params) (takeRead p r body s).1 := by
      show readCommand p (r.code :: params) (takeRead p r body) s = _
      unfold readCommand
      rw [ht]
    rw [takeKnown_read htake (by omega), sendNothing_eq_shelled, takeRead_shelled hfree, hrow,
      selectRelease_taken (e := (takeRead p r body s).2) (by rw [setTransaction_eq_shelled, shelled_port]; rfl)]
    dsimp only
    rw [setTransaction_eq_shelled, setTransaction_eq_shelled, endReadWith_shelled, endReadWith_shelled, closeTransaction_shelled,
      closeTransaction_shelled]

end Sys2Proof.Machine
end

section
/-! The rows of commands that are ready; the notice commands (O50), SYNC SET (O43), film (O40), and WITHDRAW PANEL (O32). -/

namespace Sys2Proof.Machine

/-! ### A command's row at a port that is ready -/

section
variable {p : PortId} {r : CommandRow} {body : WriteBody} {s : State}

/-- A body that accepts (R182). -/
theorem writeRow_does {t : State} {v : Nat} (hbody : Portless body) (hready : Ready p s) (hp : r.permits p = true)
    (hl : r.lines.accepts s.line.state = true) (h : body s = (t, answerOk v)) : writeRow p r body s = t.accepted p r.code v := by
  have hports : t.ports = s.ports := by
    have hbodyPorts := hbody.ports s
    rwa [h] at hbodyPorts
  rw [writeRow_portless hbody hready.2 (portCheck_passes p r s hready.1 hp hl) (by rw [h]; rfl), h, State.accepted, State.port,
    State.port, hports]
  rfl

/-- A body that refuses, and does nothing (R182). -/
theorem writeRow_refuses {o : PortOutcome} {v : Nat} (hbody : Portless body) (hready : Ready p s) (hp : r.permits p = true)
    (hl : r.lines.accepts s.line.state = true) (h : body s = (s, refuse o v)) (ho : o ≠ .ok) :
    writeRow p r body s = s.refused p r.code o v := by
  refine writeRow_refused_by_body p r body s o v hready.2 (portCheck_passes p r s hready.1 hp hl) ?_ ho
  have hnothing := hbody s (sendNothing p s).ports
  rw [h] at hnothing
  exact hnothing

end

/-! ### The notice commands (O50) -/

/-- Settles O50: the sending port's copy alone, with ATTN reckoned again. -/
theorem noticeCommandsChangeTheOwnCopy : Obligations.NoticeCommandsChangeTheOwnCopy := by
  intro p s hready
  refine ⟨fun set => ?_, fun mask => ?_, fun option => ⟨fun hrange => ?_, fun hrange => ?_⟩⟩
  · refine congrArg Host.Outcome.next ?_
    rw [writeRow_does (clearNotices_portless p set.toNat) hready rfl rfl rfl, BitVec.ofNat_toNat]
    rfl
  · refine congrArg Host.Outcome.next ?_
    rw [writeRow_does (setNoticeMask_portless p mask.toNat) hready rfl rfl rfl, BitVec.ofNat_toNat]
    rfl
  · exact congrArg Host.Outcome.next
      (writeRow_refuses (setLatchMasked_portless p option.toNat) hready rfl rfl (if_pos hrange) (by simp))
  · refine congrArg Host.Outcome.next ?_
    rw [writeRow_does (setLatchMasked_portless p option.toNat) hready rfl rfl (if_neg (by omega))]
    have hoption : (option.toNat == 1) = decide (option.toNat = 1) := rfl
    rw [hoption]
    rfl

/-! ### SYNC SET (O43) -/

theorem syncModeOf_eq {n : Nat} (h : n ≤ 2) :
    syncModeOf n = some (if n = 0 then .off else if n = 1 then .head else .headTail) := by
  obtain rfl | rfl | rfl : n = 0 ∨ n = 1 ∨ n = 2 := by omega
  all_goals rfl

theorem syncModeOf_none {n : Nat} (h : 2 < n) : syncModeOf n = none := by
  unfold syncModeOf
  split
  · omega
  · omega
  · omega
  · rfl

/-- SYNC points that stand where the web stands. -/
theorem syncCrossings_here {s : State} {pulse : Timer} (h : s.pulseAt s.tracker.odometer pulse) :
    syncCrossings s.map.entries s = { s with tracker := { s.tracker with syncPulse := pulse } } := by
  obtain ⟨hsync, hnone⟩ := h
  have hpoint : s.map.entries.any s.tracker.syncPoint = true ↔ s.SyncAt s.tracker.odometer := syncPoint_any_iff s s.tracker.odometer
  unfold syncCrossings
  by_cases hat : s.SyncAt s.tracker.odometer
  · obtain rfl := hsync hat
    rw [if_pos (hpoint.2 hat)]
    rfl
  · obtain rfl := hnone hat
    rw [if_neg (fun hany => hat (hpoint.1 hany))]

/-- Settles O43: SYNC SET replaces both settings. -/
theorem syncSetReplacesTheSyncPoints : Obligations.SyncSetReplacesTheSyncPoints := by
  intro mode lead s hready
  have hbody := syncSet_portless mode.toNat lead.toNat
  refine ⟨fun hmode => ?_, fun hmode hlead => ?_, fun hmode hlead => ⟨fun htop => ?_, fun htop pulse hpulse => ?_⟩⟩
  · refine congrArg Host.Outcome.next (writeRow_refuses hbody hready rfl rfl ?_ (by simp))
    rw [syncSet, syncModeOf_none hmode]
  · refine congrArg Host.Outcome.next (writeRow_refuses hbody hready rfl rfl ?_ (by simp))
    rw [syncSet, syncModeOf_eq hmode]
    exact if_pos hlead
  · refine congrArg Host.Outcome.next (writeRow_does hbody hready rfl rfl ?_)
    rw [syncSet, syncModeOf_eq hmode]
    refine (if_neg (by omega)).trans (congrArg (fun t => (t, answerOk 0)) (if_neg ?_))
    show ¬ s.tracker.odometer < 4294967295
    omega
  · refine congrArg Host.Outcome.next ?_
    have hcross := syncCrossings_here hpulse
    refine (writeRow_does hbody hready rfl rfl ?_).trans (congrArg (fun t => State.accepted t .console 0x3B 0) hcross)
    rw [syncSet, syncModeOf_eq hmode]
    exact (if_neg (by omega)).trans (congrArg (fun t => (t, answerOk 0)) (if_pos htop))

/-! ### Film (O40) -/

theorem reelOutOfRange_iff (n : Nat) : reelOutOfRange n = true ↔ n < 1 ∨ 4000000 < n := by
  unfold reelOutOfRange
  exact decide_eq_true_iff

theorem splicing_iff (s : State) : s.splicing = true ↔ ∃ o, s.lam.op = some o ∧ o.kind = .splice := by
  unfold State.splicing
  cases s.lam.op <;> simp

theorem filmThread_accepts {s : State} (h : s.line.state = .stopped ∨ s.line.state = .held) :
    rowFilmThread.lines.accepts s.line.state = true := by
  rcases h with h | h <;> rw [h] <;> rfl

/-- Settles O40: FILM STANDBY and FILM THREAD. -/
theorem filmCommandsLoadTheReels : Obligations.FilmCommandsLoadTheReels := by
  intro length s hready
  have hstandby := filmStandby_portless length.toNat
  have hthread := filmThread_portless length.toNat
  refine ⟨fun hrange => ⟨?_, fun hline => ?_⟩, fun hlow hhigh => ⟨fun hsplicing => ?_, fun hsplicing => ?_, fun hline =>
    ⟨fun hop => ?_, fun hop => ?_⟩⟩⟩
  · exact congrArg Host.Outcome.next
      (writeRow_refuses hstandby hready rfl rfl (if_pos ((reelOutOfRange_iff _).2 hrange)) (by simp))
  · exact congrArg Host.Outcome.next
      (writeRow_refuses hthread hready rfl (filmThread_accepts hline) (if_pos ((reelOutOfRange_iff _).2 hrange)) (by simp))
  all_goals have hin : ¬ reelOutOfRange length.toNat = true := by rw [reelOutOfRange_iff]; omega
  · exact congrArg Host.Outcome.next
      (writeRow_refuses hstandby hready rfl rfl ((if_neg hin).trans (if_pos ((splicing_iff s).2 hsplicing))) (by simp))
  · refine congrArg Host.Outcome.next ?_
    rw [writeRow_does hstandby hready rfl rfl ((if_neg hin).trans (if_neg fun h => hsplicing ((splicing_iff s).1 h))),
      evalFilm_eq_filmChecked]
    rfl
  · exact congrArg Host.Outcome.next
      (writeRow_refuses hthread hready rfl (filmThread_accepts hline) ((if_neg hin).trans (if_pos hop)) (by simp))
  · refine congrArg Host.Outcome.next ?_
    rw [writeRow_does hthread hready rfl (filmThread_accepts hline) ((if_neg hin).trans (if_neg (by simp [hop]))),
      transitionDecision_eq_decided, evalFilm_eq_filmChecked]
    rfl

/-! ### WITHDRAW PANEL (O32) -/

/-- Under distinct panels the entry with a panel number is the one found. -/
theorem byPanel_of_mem {s : State} {e : MapEntry} (hpanels : (s.map.entries.map (fun e => e.panel)).Nodup)
    (he : e ∈ s.map.entries) : s.byPanel e.panel = some e := by
  unfold State.byPanel
  generalize s.map.entries = es at hpanels he
  induction es with
  | nil => cases he
  | cons x es ih =>
    obtain ⟨hfresh, hrest⟩ := List.nodup_cons.1 hpanels
    rcases List.mem_cons.1 he with rfl | he
    · exact List.find?_cons_of_pos (by simp)
    · have hne : x.panel ≠ e.panel := fun h => hfresh (List.mem_map.2 ⟨e, he, h.symm⟩)
      rw [List.find?_cons_of_neg (by simpa using hne), ih hrest he]

theorem byPanel_none {s : State} {n : Nat} (h : ∀ e ∈ s.map.entries, e.panel ≠ n) : s.byPanel n = none :=
  List.find?_eq_none.2 fun e he => by simpa using h e he

theorem removeEntry_target {e : MapEntry} {es : List MapEntry} (hmem : e ∈ es) (hslots : (es.map MapEntry.slot).Nodup) :
    removeEntry e.target es = es.filter (fun x => x.slot ≠ e.slot) := by
  have hremoved := removeEntry_updateEntry (t := e.target) (f := id) (fun _ => rfl) (by simp [MapEntry.named, MapEntry.target])
    hmem hslots
  have hsame : updateEntry e.target id es = es := by
    unfold updateEntry
    simp
  rwa [hsame] at hremoved

/-- Settles O32: WITHDRAW PANEL. -/
theorem withdrawalRemovesAQueuedEntry : Obligations.WithdrawalRemovesAQueuedEntry := by
  intro panel s hnames hready
  obtain ⟨hpanels, hslots, -, -⟩ := hnames
  have hbody := withdrawPanel_portless panel.toNat
  refine ⟨fun hnone => ?_, fun e he hpanel => ⟨fun hphase => ?_, fun hphase => ?_⟩⟩
  · refine congrArg Host.Outcome.next (writeRow_refuses hbody hready rfl rfl ?_ (by simp))
    rw [withdrawPanel, byPanel_none hnone]
  all_goals have hfound : s.byPanel panel.toNat = some e := by rw [← hpanel]; exact byPanel_of_mem hpanels he
  · refine congrArg Host.Outcome.next (writeRow_refuses hbody hready rfl rfl ?_ (by simp))
    rw [withdrawPanel, hfound]
    exact if_neg hphase
  · refine congrArg Host.Outcome.next ?_
    have htaken : withdrawPanel panel.toNat s = (withdrawEntry e s, answerOk e.slot) := by
      rw [withdrawPanel, hfound]
      exact if_pos hphase
    refine (writeRow_does hbody hready rfl rfl htaken).trans (congrArg (fun t => State.accepted t .print 0x11 e.slot) ?_)
    have hleft : (s.unreferenced e.plan).setMap (recomputeLast { s.map with
        entries := s.map.entries.filter (fun x => x.slot ≠ e.slot) }) = { s.unreferenced e.plan with map := { s.map with
          entries := s.map.entries.filter (fun x => x.slot ≠ e.slot)
          lastTail := match (s.map.entries.filter (fun x => x.slot ≠ e.slot)).getLast? with
            | some x => x.head + x.length | none => s.map.lastTail
          lastClass := match (s.map.entries.filter (fun x => x.slot ≠ e.slot)).getLast? with
            | some x => x.cls | none => s.map.lastClass } } := by
      unfold recomputeLast
      dsimp only
      cases (s.map.entries.filter (fun x => x.slot ≠ e.slot)).getLast? <;> rfl
    have hdrop : ((s.dropEntry e.target).dropRef e.plan).setMap (recomputeLast ((s.dropEntry e.target).dropRef e.plan).map) =
        (s.unreferenced e.plan).setMap (recomputeLast { s.map with
          entries := s.map.entries.filter (fun x => x.slot ≠ e.slot) }) := by
      rw [dropRef_eq_unreferenced, ← removeEntry_target he hslots]
      rfl
    have hwithdrawn : withdrawEntry e s = (State.lamFreed (((s.dropEntry e.target).dropRef e.plan).setMap
        (recomputeLast ((s.dropEntry e.target).dropRef e.plan).map)) e.target true).mapLevels := by
      rw [withdrawEntry, evalMapLevels_eq_mapLevels, lamRemoved_eq_lamFreed]
    exact hwithdrawn.trans (congrArg (fun u => (State.lamFreed u e.target true).mapLevels) (hdrop.trans hleft))

end Sys2Proof.Machine
end

section
/-! The CONSOLE commands of the links (O42) and of the speeds (O39). -/

namespace Sys2Proof.Machine

/-! ### Links (O42) -/

theorem linkOfNumber_linkNumber (l : LinkId) : linkOfNumber (linkNumber l) = some l := by cases l <;> rfl

theorem linkOfNumber_none {n : Nat} (h : n < 1 ∨ 4 < n) : linkOfNumber n = none := by
  refine List.find?_eq_none.2 fun l _ => ?_
  cases l <;> simp [linkNumber] <;> omega

/-- A link that is not up enters DOWN by a command, outside ARMING (R166, R167). -/
theorem moveLink_down_outside {l : LinkId} {s : State} (hlevel : s.level (.linkUp l) = false) (hline : s.line.state ≠ .arming) :
    moveLink l .down false s = s.setLink l { s.link l with state := .down } := by
  have hmove := moveLink_down l false (s.link l) s hlevel
  rw [State.setLink_self] at hmove
  rw [hmove]
  refine linkReport_outside (s := s.setLink l _) l _ false hline ?_ ?_ <;> rw [State.setLink_link_self] <;> simp

/-- LINK ACKNOWLEDGE in STOPPED. -/
theorem acknowledgeLink_stopped {l : LinkId} {s : State} (hlevel : s.level (.linkUp l) = false) (hline : s.line.state = .stopped) :
    acknowledgeLink l s = s.setLink l { s.link l with state := .down } := by
  unfold acknowledgeLink
  rw [moveLink_down_outside hlevel (by simp [hline])]
  exact if_pos hline

/-- The link as it is woken (R141, R159). -/
def Link.woken (k : Link) : Link := { k with state := .waking, goGiven := false, faults := 0, wakeTimer := some 250 }

theorem wakeLink_setLink {l : LinkId} {k : Link} {s : State} (hlevel : s.level (.linkUp l) = false) :
    wakeLink l (s.setLink l k) = s.setLink l k.woken := by
  rw [wakeLink_eq_linked, State.setLink_link_self, setLink_linked]
  exact linked_of_level hlevel

/-- LINK ACKNOWLEDGE with the line not STOPPED: the link is woken, and is then owed no wake in ARMING. -/
theorem acknowledgeLink_wakes {l : LinkId} {s : State} (hlevel : s.level (.linkUp l) = false) (hline : s.line.state ≠ .stopped) :
    acknowledgeLink l s = { s with
      links := s.links.set l (s.link l).woken
      line := if s.line.state = .arming ∧ s.line.owed.get l = .wake then { s.line with owed := s.line.owed.set l .nothing }
        else s.line } := by
  have hwakes (v : State) (hv : v.level (.linkUp l) = false) (k : Link) (hstate : v.line.state ≠ .stopped)
      (hmove : moveLink l .down false s = v.setLink l k) : acknowledgeLink l s = v.setLink l k.woken := by
    unfold acknowledgeLink
    rw [hmove]
    exact (if_neg hstate).trans (wakeLink_setLink hv)
  by_cases harming : s.line.state = .arming
  · have hmove := moveLink_down l false (s.link l) s hlevel
    rw [State.setLink_self, linkReport_down_arming (u := s.setLink l _) harming (by rw [State.setLink_link_self])] at hmove
    by_cases howed : s.line.owed.get l = .wake
    · let v : State := { s with line := { s.line with owed := s.line.owed.set l .nothing } }
      have hwoken : wakeOwed l (s.setLink l { s.link l with state := .down }) = v.setLink l (s.link l).woken :=
        (if_pos ⟨by rw [State.setLink_link_self], howed⟩).trans (wakeLink_setLink (s := v) hlevel)
      rw [hwakes v hlevel (s.link l).woken hline (hmove.trans hwoken), if_pos ⟨harming, howed⟩]
      rfl
    · have hnot : wakeOwed l (s.setLink l { s.link l with state := .down }) = s.setLink l { s.link l with state := .down } :=
        if_neg fun h => howed h.2
      rw [hwakes s hlevel _ hline (hmove.trans hnot), if_neg fun h => howed h.2]
      rfl
  · rw [hwakes s hlevel _ hline (moveLink_down_outside hlevel harming), if_neg fun h => harming h.1]
    rfl

/-- LINK TEST in STOPPED (R167). -/
theorem testLink_eq {l : LinkId} {s : State} (hline : s.line.state = .stopped) : testLink l s =
    (s.linked l { s.link l with
      state := .test, wakeTimer := none, armTimer := none, flywheel := none, parkTimer := none, op := none
      testCount := 0 }).failing l (s.link l).op := by
  have hmove := moveLink_eq l (st := .test) false (s.link l).quietForTest s (by simp)
  have hreport := linkReport_outside (s := s.linked l { (s.link l).quietForTest with state := .test }) l (s.link l).quietForTest.state
    false (by show s.line.state ≠ .arming; simp [hline]) (by rw [linked_link_self]; simp) (by rw [linked_link_self]; simp)
  unfold testLink
  dsimp only
  rw [hmove, hreport]
  exact failing_eq l (s.link l).op _

/-- Settles O42: LINK ACKNOWLEDGE, LINK TEST and LINK TEST END. -/
theorem linkCommandsMoveTheLink : Obligations.LinkCommandsMoveTheLink := by
  intro number s hready
  have hacknowledge := linkAcknowledge_portless number.toNat
  have htest := linkTest_portless number.toNat
  have hend := linkTestEnd_portless number.toNat
  have haccepts (h : s.line.state = .stopped) : rowLinkTest.lines.accepts s.line.state = true := by rw [h]; rfl
  refine ⟨fun hrange => ⟨?_, fun hline => ?_, ?_⟩, fun l hnumber hlevel => ?_⟩
  · refine congrArg Host.Outcome.next (writeRow_refuses hacknowledge hready rfl rfl ?_ (by simp))
    rw [linkAcknowledge, linkOfNumber_none hrange]
  · refine congrArg Host.Outcome.next (writeRow_refuses htest hready rfl (haccepts hline) ?_ (by simp))
    rw [linkTest, linkOfNumber_none hrange]
  · refine congrArg Host.Outcome.next (writeRow_refuses hend hready rfl rfl ?_ (by simp))
    rw [linkTestEnd, linkOfNumber_none hrange]
  have hl : linkOfNumber number.toNat = some l := by rw [hnumber, linkOfNumber_linkNumber]
  have hdown {st : LinkState} (h : (s.link l).state = st) (hne : st ≠ .active) : s.level (.linkUp l) = false := by
    rw [hlevel, h]
    simpa using hne
  have hacknowledged (h : (s.link l).state = .unacked) :
      linkAcknowledge number.toNat s = (acknowledgeLink l s, answerOk number.toNat) := by
    rw [linkAcknowledge, hl]
    exact if_pos h
  refine ⟨fun hst => ?_, fun hst hline => ?_, fun hst hline => ?_, fun hline => ?_, fun hst => ?_, fun hst hline => ?_⟩
  · refine congrArg Host.Outcome.next (writeRow_refuses hacknowledge hready rfl rfl ?_ (by simp))
    rw [linkAcknowledge, hl]
    exact if_neg hst
  · refine congrArg Host.Outcome.next ((writeRow_does hacknowledge hready rfl rfl (hacknowledged hst)).trans ?_)
    rw [acknowledgeLink_stopped (hdown hst (by simp)) hline]
    rfl
  · refine congrArg Host.Outcome.next ((writeRow_does hacknowledge hready rfl rfl (hacknowledged hst)).trans ?_)
    rw [acknowledgeLink_wakes (hdown hst (by simp)) hline]
    rfl
  · have htested : linkTest number.toNat s = (testLink l s, answerOk number.toNat) := by rw [linkTest, hl]
    refine congrArg Host.Outcome.next ((writeRow_does htest hready rfl (haccepts hline) htested).trans ?_)
    rw [testLink_eq hline]
    rfl
  · refine congrArg Host.Outcome.next (writeRow_refuses hend hready rfl rfl ?_ (by simp))
    rw [linkTestEnd, hl]
    exact if_neg hst
  · have hended : linkTestEnd number.toNat s = (moveLink l .down false s, answerOk (s.link l).testCount) := by
      rw [linkTestEnd, hl]
      exact if_pos hst
    refine congrArg Host.Outcome.next ((writeRow_does hend hready rfl rfl hended).trans ?_)
    rw [moveLink_down_outside (hdown hst (by simp)) hline]
    rfl

/-! ### Speeds (O39) -/

theorem settleAtRest_ratio {s : State} (h : s.line.commanded = 0) (hstate : s.line.state = .halting ∨ s.line.state = .stopping) :
    (settleAtRest s).line.ratio = s.ratioAtNip := by
  unfold settleAtRest
  rw [if_pos h]
  rcases hstate with hstate | hstate <;> rw [hstate]
  · show (enterLine .held s).line.ratio = _
    rw [enterLine_line_eq, lineIn_of_not_run (by simp)]
    rfl
  · obtain ⟨owed, hline⟩ := foldParkOrOwe_line allLinks (enterLine .stopped s)
    have hstopped : (enterStopped s).line = { (enterLine .stopped s).line with owed := owed } := hline
    show (enterStopped s).line.ratio = _
    rw [hstopped, enterLine_line_eq, lineIn_of_not_run (by simp)]
    rfl

/-- A commanded speed lowered at once, and the target read anew (R149, R151). -/
def State.lowered (s : State) (v : Nat) : State :=
  (setSpeeds v s.line.target (s.setLine { s.line with setSpeed := v })).steered

theorem lowered_line (s : State) (v : Nat) :
    (s.lowered v).line.setSpeed = v ∧ (s.lowered v).line.commanded = v ∧ (s.lowered v).line.state = s.line.state ∧
      (s.lowered v).line.ratio = s.ratioAtNip ∧
      (s.lowered v).line.target = speedGoal s.line.state v s.ratioAtNip s.line.minSpeed := by
  rw [State.lowered, setSpeeds_eq]
  exact ⟨rfl, rfl, rfl, rfl, rfl⟩

theorem lowered_ratioAtNip (s : State) (v : Nat) : (s.lowered v).ratioAtNip = s.ratioAtNip := by
  rw [State.lowered, setSpeeds_eq]
  rfl

theorem lowered_eq_blocks (s : State) (v : Nat) :
    s.lowered v = { s with line := (s.lowered v).line, notices := (s.lowered v).notices } := by
  rw [State.lowered, setSpeeds_eq]
  rfl

theorem steered_ramp {k : LineControl} (commanded target : Nat)
    (h : commanded ≠ target → k.commanded ≠ k.target → k.rampTimer.isSome) :
    (k.steered commanded target).rampTimer.isSome ↔ commanded ≠ target := by
  unfold LineControl.steered
  dsimp only
  by_cases hreached : commanded = target
  · simp [hreached]
  · by_cases hstood : k.commanded = k.target
    · simp [hreached, hstood]
    · simp [hreached, hstood, h hreached hstood]

theorem lowered_ramp {s : State} (v : Nat) (h : s.line.rampTimer.isSome ↔ s.line.commanded ≠ s.line.target) :
    (s.lowered v).line.rampTimer.isSome ↔ (s.lowered v).line.commanded ≠ (s.lowered v).line.target := by
  rw [State.lowered, setSpeeds_eq]
  refine steered_ramp _ _ fun _ hdiffer => ?_
  exact (steered_ramp (k := { s.line with setSpeed := v }) v s.line.target fun _ hstood => h.2 hstood).2 hdiffer

/-- The line with its commanded speed lowered, at rest where that is 0 (R149, R151). -/
theorem settledLowered_line {s : State} (v : Nat) (h : s.line.rampTimer.isSome ↔ s.line.commanded ≠ s.line.target) :
    let k := (settleAtRest (s.lowered v)).line
    k.setSpeed = v ∧ k.commanded = v ∧
      k.state = (if v = 0 ∧ s.line.state = .halting then .held
        else if v = 0 ∧ s.line.state = .stopping then .stopped else s.line.state) ∧
      k.ratio = s.ratioAtNip ∧ k.target = speedGoal k.state v s.ratioAtNip s.line.minSpeed ∧
      (k.rampTimer.isSome ↔ k.commanded ≠ k.target) := by
  obtain ⟨hset, hcommanded, hstate, hratio, htarget⟩ := lowered_line s v
  dsimp only
  by_cases hrest : v = 0 ∧ (s.line.state = .halting ∨ s.line.state = .stopping)
  · obtain ⟨hzero, hstates⟩ := hrest
    obtain ⟨hst, hc, htg, htm, hkept, -⟩ := settleAtRest_atRest (s := s.lowered v) (hcommanded.trans hzero) (by rwa [hstate])
    rw [hst, hc, htg, htm, hkept, settleAtRest_ratio (hcommanded.trans hzero) (by rwa [hstate]), hset, hstate,
      lowered_ratioAtNip, hzero]
    rcases hstates with hs | hs <;> simp [hs, speedGoal]
  · have hmoving : settleAtRest (s.lowered v) = s.lowered v := by
      refine settleAtRest_of_moving ?_
      rw [hcommanded, hstate]
      by_cases hzero : v = 0
      · exact .inr ⟨fun hs => hrest ⟨hzero, .inl hs⟩, fun hs => hrest ⟨hzero, .inr hs⟩⟩
      · exact .inl hzero
    rw [hmoving]
    refine ⟨hset, hcommanded, ?_, hratio, by rw [hstate]; exact htarget, lowered_ramp v h⟩
    rw [if_neg fun hc => hrest ⟨hc.1, .inl hc.2⟩, if_neg fun hc => hrest ⟨hc.1, .inr hc.2⟩, hstate]

/-- Settles O39: SPEED SET and MIN SPEED SET. -/
theorem speedSettingsSteerTheLine : Obligations.SpeedSettingsSteerTheLine := by
  intro v s hready
  have hspeed := speedSet_portless v.toNat
  have hminimum := minSpeedSet_portless v.toNat
  refine ⟨fun hrange => ?_, fun hrange hbelow hmoving => ?_, fun hrange habove hramp => ?_, fun hrange => ?_, fun hlow hhigh => ?_⟩
  · exact congrArg Host.Outcome.next (writeRow_refuses hspeed hready rfl rfl (if_pos hrange) (by simp))
  · have htaken : speedSet v.toNat s = (({ s with line := { s.line with setSpeed := v.toNat } } : State).steered, answerOk v.toNat) := by
      have hrest : ({ s with line := { s.line with setSpeed := v.toNat } } : State).steered.line.commanded ≠ 0 ∨
          (({ s with line := { s.line with setSpeed := v.toNat } } : State).steered.line.state ≠ .halting ∧
            ({ s with line := { s.line with setSpeed := v.toNat } } : State).steered.line.state ≠ .stopping) := by
        show s.line.commanded ≠ 0 ∨ (s.line.state ≠ .halting ∧ s.line.state ≠ .stopping)
        by_cases hzero : s.line.commanded = 0
        · exact .inr ⟨fun h => hmoving (.inl h) hzero, fun h => hmoving (.inr h) hzero⟩
        · exact .inl hzero
      refine (if_neg (by omega)).trans (congrArg (fun t => (t, answerOk v.toNat)) ?_)
      rw [if_neg (by show ¬ v.toNat < s.line.commanded; omega), retarget_eq_steered]
      exact settleAtRest_of_moving hrest
    exact congrArg Host.Outcome.next (writeRow_does hspeed hready rfl rfl htaken)
  · have htaken : speedSet v.toNat s = (settleAtRest (s.lowered v.toNat), answerOk v.toNat) := by
      refine (if_neg (by omega)).trans (congrArg (fun t => (t, answerOk v.toNat)) ?_)
      rw [if_pos (by exact habove), retarget_eq_steered]
      rfl
    have hframe : settleAtRest (s.lowered v.toNat) = { s with
        line := (settleAtRest (s.lowered v.toNat)).line, links := (settleAtRest (s.lowered v.toNat)).links
        notices := (settleAtRest (s.lowered v.toNat)).notices } := by
      have hblocks := settleAtRest_eq_blocks (s.lowered v.toNat)
      rw [lowered_eq_blocks] at hblocks ⊢
      exact hblocks
    have hports : (settleAtRest (s.lowered v.toNat)).ports = s.ports := by
      rw [hframe]
    have hline := settledLowered_line v.toNat hramp
    obtain ⟨hset, hcommanded, hstate, hratio, htarget, htimer⟩ := hline
    refine ⟨(settleAtRest (s.lowered v.toNat)).accepted .console 0x32 v.toNat,
      congrArg Host.Outcome.next (writeRow_does hspeed hready rfl rfl htaken), hset, hcommanded, hstate, hratio, htarget, htimer,
      ?_, ?_⟩
    · rw [State.accepted, State.port, hports]
      rfl
    · rw [hframe]
      rfl
  · exact congrArg Host.Outcome.next (writeRow_refuses hminimum hready rfl rfl (if_pos hrange) (by simp))
  · refine congrArg Host.Outcome.next (writeRow_does hminimum hready rfl rfl ((if_neg (by omega)).trans ?_))
    rw [retarget_eq_steered]
    rfl

end Sys2Proof.Machine
end

section
/-! LINE START (O37) and LINE STOP (O38). -/

namespace Sys2Proof.Machine

/-! ### Levels that the links do not hold -/

theorem enterLink_level {n : Notice} {l : LinkId} (st : LinkState) (s : State) (hn : n.number < 10)
    (hne : n.number ≠ (Notice.linkUp l).number) : (enterLink l st s).level n = s.level n :=
  passLevel_other (.linkUp l) n _ _ hn hne

/-- LINE_STATE, REG_LOCK and HOLD_ACTIVE are levels of no link. -/
def OfNoLink (n : Notice) : Prop := n.number < 10 ∧ ∀ l, n.number ≠ (Notice.linkUp l).number

theorem lineState_ofNoLink : OfNoLink .lineState := ⟨by decide, fun l => by cases l <;> decide⟩
theorem regLock_ofNoLink : OfNoLink .regLock := ⟨by decide, fun l => by cases l <;> decide⟩
theorem holdActive_ofNoLink : OfNoLink .holdActive := ⟨by decide, fun l => by cases l <;> decide⟩

theorem foldLinks_level {op : LinkId → State → State} {n : Notice} (h : ∀ l s, (op l s).level n = s.level n) (ls : List LinkId)
    (s : State) : (ls.foldl (fun s l => op l s) s).level n = s.level n := by
  induction ls generalizing s with
  | nil => rfl
  | cons l ls ih => rw [List.foldl_cons, ih, h]

theorem parkOrOwe_level {n : Notice} (h : OfNoLink n) (l : LinkId) (s : State) : (parkOrOwe l s).level n = s.level n := by
  unfold parkOrOwe
  dsimp only
  split_ifs
  · exact enterLink_level _ _ h.1 (h.2 l)
  · rfl
  · exact enterLink_level _ _ h.1 (h.2 l)
  · rfl

theorem startOrder_level {n : Notice} (h : OfNoLink n) (l : LinkId) (s : State) : (startOrder l s).level n = s.level n := by
  unfold startOrder
  split
  · exact enterLink_level _ _ h.1 (h.2 l)
  · rfl
  · rfl

/-! ### LINE START (O37) -/

/-- The order of a link at LINE START (R141): it is woken, or owed its wake. -/
theorem startOrder_eq (l : LinkId) (s : State) : startOrder l s =
    if (s.link l).state = .down then (s.setOwed l .nothing).linked l (s.link l).woken
    else s.setOwed l (if (s.link l).state = .parking then .wake else .nothing) := by
  unfold startOrder
  cases hst : (s.link l).state
  case down =>
    show wakeLink l (s.setOwed l .nothing) = _
    rw [wakeLink_eq_linked]
    rfl
  all_goals rfl

theorem startOrder_link (l m : LinkId) (s : State) : (startOrder l s).link m =
    if m = l then (if (s.link m).state = .down then (s.link m).woken else s.link m) else s.link m := by
  rw [startOrder_eq]
  by_cases hm : m = l
  · subst hm
    rw [if_pos rfl]
    split_ifs
    · exact linked_link_self _ _ _
    all_goals rfl
  · rw [if_neg hm]
    split_ifs
    · exact linked_link_of_ne _ _ hm
    all_goals rfl

theorem startOrder_line (l : LinkId) (s : State) : (startOrder l s).line =
    { s.line with owed := s.line.owed.set l (if (s.link l).state = .parking then .wake else .nothing) } := by
  rw [startOrder_eq]
  by_cases hdown : (s.link l).state = .down
  · rw [if_pos hdown, if_neg (by simp [hdown])]
    rfl
  · rw [if_neg hdown]
    rfl

theorem startOrder_eq_blocks (l : LinkId) (s : State) : startOrder l s =
    { s with line := (startOrder l s).line, links := (startOrder l s).links, notices := (startOrder l s).notices } := by
  rw [startOrder_eq]
  split_ifs <;> rfl

theorem foldStartOrder_link (s : State) (m : LinkId) : (allLinks.foldl (fun s l => startOrder l s) s).link m =
    if (s.link m).state = .down then (s.link m).woken else s.link m := by
  simp only [allLinks, List.foldl_cons, List.foldl_nil, startOrder_link]
  cases m <;> simp

theorem foldStartOrder_line (s : State) : (allLinks.foldl (fun s l => startOrder l s) s).line =
    { s.line with owed := (s.links.map fun k => if k.state = .parking then .wake else .nothing) } := by
  simp only [allLinks, List.foldl_cons, List.foldl_nil, startOrder_line, startOrder_link]
  rfl

theorem foldStartOrder_eq_blocks (ls : List LinkId) (s : State) : ∃ line links notices,
    ls.foldl (fun s l => startOrder l s) s = { s with line := line, links := links, notices := notices } := by
  induction ls generalizing s with
  | nil => exact ⟨_, _, _, rfl⟩
  | cons l ls ih =>
    obtain ⟨line, links, notices, h⟩ := ih (startOrder l s)
    refine ⟨line, links, notices, ?_⟩
    rw [List.foldl_cons, h, startOrder_eq_blocks]

theorem setLock_level (lock : LockState) (run : Nat) (s : State) :
    (setLock lock run s).level .regLock = (lock == .locked) ∧
      ∀ n : Notice, n.number < 10 → n.number ≠ 2 → (setLock lock run s).level n = s.level n :=
  ⟨passLevel_level .regLock _ _ (by decide), fun n hn hne => passLevel_other .regLock n _ _ hn hne⟩

theorem enterLine_levels (st : LineState) (s : State) : (enterLine st s).level .lineState = (st != .stopped) ∧
    ∀ n : Notice, n.number < 10 → n.number ≠ 0 → (enterLine st s).level n = s.level n := by
  refine ⟨?_, fun n hn hne => ?_⟩ <;> rw [enterLine, retarget, setSpeeds_level]
  · exact passLevel_level .lineState _ _ (by decide)
  · exact passLevel_other .lineState n _ _ hn hne

/-- The line and the lock as LINE START leaves them, before the links have their orders (R71, R141). -/
def State.started (s : State) : State := seekLock (enterLine .arming (s.setLine { s.line with go := false }))

theorem started_facts (s : State) :
    s.started.line = ({ s.line with go := false, state := .arming, ratio := s.ratioAtNip } : LineControl).steered s.line.commanded 0 ∧
      s.started.reg = { s.reg with lock := .seeking, unreadRun := 0 } ∧ s.started.links = s.links ∧
      s.started.level .lineState = true ∧ s.started.level .regLock = false ∧
      s.started = { s with line := s.started.line, reg := s.started.reg, notices := s.started.notices } := by
  obtain ⟨hlock, hothers⟩ := setLock_level .seeking 0 (enterLine .arming (s.setLine { s.line with go := false }))
  have hline := enterLine_line_eq .arming (s.setLine { s.line with go := false })
  have hup := (enterLine_levels .arming (s.setLine { s.line with go := false })).1
  have hblocks := enterLine_eq_blocks .arming (s.setLine { s.line with go := false })
  unfold State.started seekLock
  refine ⟨?_, ?_, ?_, ?_, hlock, ?_⟩
  · rw [show (setLock .seeking 0 (enterLine .arming (s.setLine { s.line with go := false }))).line =
      (enterLine .arming (s.setLine { s.line with go := false })).line by simp [setLock], hline, lineIn_of_not_run (by simp)]
    rfl
  · rw [setLock_reg]
    simp
  · simp [setLock]
  · rw [hothers _ (by decide) (by decide), hup]
    rfl
  · have hpassed (u : State) : setLock .seeking 0 u =
        { u with reg := (setLock .seeking 0 u).reg, notices := (setLock .seeking 0 u).notices } := by
      unfold setLock
      dsimp only
      rw [passLevel_eq_withNotices]
      rfl
    rw [hpassed, hblocks]
    rfl

/-- Settles O37: LINE START. -/
theorem lineStartArmsTheLinks : Obligations.LineStartArmsTheLinks := by
  intro s hready hstopped
  have haccepts : rowLineStart.lines.accepts s.line.state = true := by rw [hstopped]; rfl
  refine ⟨fun l hl => ?_, fun hfree => ?_⟩
  · refine congrArg Host.Outcome.next (writeRow_refuses lineStart_portless hready rfl haccepts ?_ (by simp))
    have hblocker : s.startBlocker = some l := hl
    rw [lineStart, hblocker]
  · have hblocker : s.startBlocker = none := List.find?_eq_none.2 fun l _ => Bool.eq_false_iff.1 (hfree l)
    have htaken : lineStart s = (allLinks.foldl (fun s l => startOrder l s) s.started, answerOk 0) := by
      rw [lineStart, hblocker]
      rfl
    obtain ⟨hline, hreg, hlinks, hup, hlock, hframe⟩ := started_facts s
    have hlink (l : LinkId) : s.started.link l = s.link l := congrArg (fun x => PerLink.get x l) hlinks
    have hports : s.started.ports = s.ports := by rw [hframe]
    obtain ⟨line, links, notices, hfold⟩ := foldStartOrder_eq_blocks allLinks s.started
    have hstarted := foldStartOrder_line s.started
    have hstates := foldStartOrder_link s.started
    have hlevel {n : Notice} (hn : OfNoLink n) := foldLinks_level (n := n) (startOrder_level hn) allLinks s.started
    generalize allLinks.foldl (fun s l => startOrder l s) s.started = w at hfold hstarted hstates hlevel htaken
    have hwports : w.ports = s.ports := by rw [hfold, ← hports]
    have hwline : w.line = { ({ s.line with go := false, state := .arming, ratio := s.ratioAtNip } : LineControl).steered
        s.line.commanded 0 with owed := s.links.map fun k => if k.state = .parking then .wake else .nothing } := by
      rw [hstarted, hline, hlinks]
    refine ⟨w.accepted .console 0x30 0,
      congrArg Host.Outcome.next (writeRow_does lineStart_portless hready rfl haccepts htaken), ?_, ?_, ?_, ?_, ?_, ?_,
      fun l => ⟨?_, ?_⟩, ?_, ?_, ?_, ?_, ?_⟩
    · exact congrArg LineControl.state hwline
    · exact congrArg LineControl.go hwline
    · exact (congrArg LineControl.commanded hwline).trans rfl
    · exact congrArg LineControl.target hwline
    · exact (congrArg LineControl.setSpeed hwline).trans rfl
    · exact (congrArg LineControl.minSpeed hwline).trans rfl
    · show w.line.owed.get l = _
      rw [hwline]
      exact PerLink.get_map _ _ _
    · show w.link l = _
      rw [hstates, hlink]
      rfl
    · show w.reg = _
      rw [hfold, ← hreg]
    · exact (hlevel lineState_ofNoLink).trans hup
    · exact (hlevel regLock_ofNoLink).trans hlock
    · rw [State.accepted, State.port, hwports]
      rfl
    · rw [hfold, hframe]
      rfl

end Sys2Proof.Machine
end

section
/-! LINE STOP (O38). -/

namespace Sys2Proof.Machine

theorem settleAtRest_stopping {s : State} (hzero : s.line.commanded = 0) (hstate : s.line.state = .stopping) :
    settleAtRest s = allLinks.foldl State.restOrdered (enterLine .stopped s) := by
  have hrest : settleAtRest s = enterStopped s := by
    unfold settleAtRest
    rw [if_pos hzero, hstate]
  rw [hrest]
  exact parkAll_eq (enterLine .stopped s)

/-- The line as LINE STOP leaves it before it comes to rest (R136, R145). -/
def State.stopped (s : State) : State :=
  passLevel .holdActive false (dropWakes (enterLine .stopping ((emptyStack s).setLine { s.line with go := false })))

theorem lineStop_eq (s : State) : lineStop s = (settleAtRest s.stopped, answerOk 0) := by
  have hreport (u : State) (hempty : u.hold.stack = []) (hstate : u.line.state = .stopping) :
      stackReport u = passLevel .holdActive false u := by
    unfold stackReport
    rw [if_pos hempty, hstate]
    dsimp only
    rw [State.holdActive, hempty]
    rfl
  unfold lineStop
  dsimp only
  rw [hreport _ (by simp [dropWakes, emptyStack]) (by simp [dropWakes, enterLine_line_eq, State.lineIn, LineControl.steered])]
  rfl

/-- The owed orders without the wakes. -/
def LineControl.unwoken (k : LineControl) : PerLink Owed := k.owed.map (fun o => if o = .wake then .nothing else o)

theorem stopped_line (s : State) : s.stopped.line =
    { ({ s.line with state := .stopping, go := false, ratio := s.ratioAtNip } : LineControl).steered s.line.commanded 0 with
      owed := s.line.unwoken } := by
  have hline := enterLine_line_eq .stopping ((emptyStack s).setLine { s.line with go := false })
  rw [lineIn_of_not_run (by simp)] at hline
  have hpassed : s.stopped.line = (dropWakes (enterLine .stopping ((emptyStack s).setLine { s.line with go := false }))).line := by
    simp [State.stopped]
  have hdropped (u : State) : (dropWakes u).line = { u.line with owed := u.line.unwoken } := rfl
  rw [hpassed, hdropped, hline]
  rfl

theorem stopped_eq_blocks (s : State) : s.stopped =
    { s with line := s.stopped.line, hold := { s.hold with stack := [], overflow := false }, notices := s.stopped.notices } := by
  have hblocks := enterLine_eq_blocks .stopping ((emptyStack s).setLine { s.line with go := false })
  unfold State.stopped
  rw [passLevel_eq_withNotices, hblocks]
  rfl

theorem stopped_ratioAtNip (s : State) : s.stopped.ratioAtNip = s.ratioAtNip := by
  refine ratioAtNip_congr ?_ ?_ ?_
  · rw [stopped_line]
    rfl
  · rw [stopped_eq_blocks]
  · rw [stopped_eq_blocks]

theorem stopped_owed (s : State) (l : LinkId) :
    s.stopped.line.owed.get l = if s.line.owed.get l = .wake then .nothing else s.line.owed.get l := by
  rw [stopped_line]
  exact PerLink.get_map _ _ _

/-- At commanded speed 0 the line comes to rest at once (R146). -/
theorem settleStopped_line {s : State} (hzero : s.line.commanded = 0) : ∃ owed, (settleAtRest s.stopped).line =
    { ({ s.line with state := .stopped, go := false, ratio := s.ratioAtNip } : LineControl).steered 0 0 with owed := owed } := by
  have hline := stopped_line s
  have hcommanded : s.stopped.line.commanded = 0 := by rw [hline]; exact hzero
  obtain ⟨owed, hfold⟩ := foldRestOrdered_line (enterLine .stopped s.stopped)
  refine ⟨owed, ?_⟩
  rw [settleAtRest_stopping hcommanded (by rw [hline]; rfl), hfold, enterLine_line_eq, lineIn_of_not_run (by simp), hcommanded,
    stopped_ratioAtNip, hline]
  rfl

theorem settleStopped_link {s : State} (hzero : s.line.commanded = 0) (l : LinkId) :
    (settleAtRest s.stopped).link l = (s.link l).rested := by
  have hline := stopped_line s
  have hlinks : (enterLine .stopped s.stopped).link l = s.link l := by
    rw [enterLine_eq_blocks, stopped_eq_blocks]
    rfl
  rw [settleAtRest_stopping (by rw [hline]; exact hzero) (by rw [hline]; rfl), foldRestOrdered_link, hlinks]

theorem settleStopped_owed {s : State} (hzero : s.line.commanded = 0) (l : LinkId) : (settleAtRest s.stopped).line.owed.get l =
    (s.link l).restOwed (if s.line.owed.get l = .wake then .nothing else s.line.owed.get l) := by
  have hline := stopped_line s
  have hlinks : (enterLine .stopped s.stopped).link l = s.link l := by
    rw [enterLine_eq_blocks, stopped_eq_blocks]
    rfl
  have howed : (enterLine .stopped s.stopped).line.owed = s.stopped.line.owed := by
    rw [enterLine_line_eq]
    rfl
  rw [settleAtRest_stopping (by rw [hline]; exact hzero) (by rw [hline]; rfl), foldRestOrdered_owed, hlinks, howed, stopped_owed]

theorem settleStopped_level {s : State} (hzero : s.line.commanded = 0) {n : Notice} (hn : OfNoLink n) :
    (settleAtRest s.stopped).level n = (enterLine .stopped s.stopped).level n := by
  have hline := stopped_line s
  have hrest : settleAtRest s.stopped = parkAll (enterLine .stopped s.stopped) := by
    rw [settleAtRest_stopping (by rw [hline]; exact hzero) (by rw [hline]; rfl)]
    exact (parkAll_eq _).symm
  rw [hrest]
  exact foldLinks_level (parkOrOwe_level hn) allLinks _

theorem stopped_holdActive (s : State) : s.stopped.level .holdActive = false := passLevel_level .holdActive _ _ (by decide)

/-- A line that is still moving. -/
theorem settleStopped_moving {s : State} (h : s.line.commanded ≠ 0) : settleAtRest s.stopped = s.stopped :=
  settleAtRest_of_moving (.inl (by rw [stopped_line]; exact h))

theorem restOwed_ne_wake (k : Link) (o : Owed) : k.restOwed (if o = .wake then .nothing else o) ≠ .wake := by
  unfold Link.restOwed
  split_ifs with hup hwake
  · simp
  · simp
  · exact hwake

theorem lineStop_line (s : State) : let t := settleAtRest s.stopped
    t.line = ({ s.line with
      state := if s.line.commanded = 0 then .stopped else .stopping
      go := false, owed := t.line.owed, ratio := s.ratioAtNip } : LineControl).steered s.line.commanded 0 := by
  dsimp only
  by_cases hzero : s.line.commanded = 0
  · obtain ⟨owed, hline⟩ := settleStopped_line hzero
    rw [hline, if_pos hzero, hzero]
    rfl
  · rw [settleStopped_moving hzero, stopped_line, if_neg hzero]
    rfl

/-- Settles O38: LINE STOP. -/
theorem lineStopEmptiesTheStackAndStops : Obligations.LineStopEmptiesTheStackAndStops := by
  intro s hready hmoving
  have haccepts : rowLineStop.lines.accepts s.line.state = true := by
    show (s.line.state != .stopped) = true
    simpa using hmoving
  have hframe : settleAtRest s.stopped = { s with
      line := (settleAtRest s.stopped).line, links := (settleAtRest s.stopped).links
      hold := { s.hold with stack := [], overflow := false }, notices := (settleAtRest s.stopped).notices } := by
    have hblocks := settleAtRest_eq_blocks s.stopped
    rw [stopped_eq_blocks] at hblocks ⊢
    exact hblocks
  have hline := lineStop_line s
  have hports : (settleAtRest s.stopped).ports = s.ports := by rw [hframe]
  have hlevel : (settleAtRest s.stopped).level .holdActive = false := by
    by_cases hzero : s.line.commanded = 0
    · rw [settleStopped_level hzero holdActive_ofNoLink, (enterLine_levels .stopped s.stopped).2 _ (by decide) (by decide),
        stopped_holdActive]
    · rw [settleStopped_moving hzero, stopped_holdActive]
  refine ⟨(settleAtRest s.stopped).accepted .console 0x31 0,
    congrArg Host.Outcome.next (writeRow_does lineStop_portless hready rfl haccepts (lineStop_eq s)), ?_, hlevel, ?_,
    (congrArg LineControl.go hline).trans rfl, (congrArg LineControl.target hline).trans rfl,
    (congrArg LineControl.commanded hline).trans rfl, (congrArg LineControl.setSpeed hline).trans rfl,
    (congrArg LineControl.state hline).trans rfl, hline, fun hne => ?_, fun hzero => ⟨?_, fun l => ?_⟩, fun l => ?_, fun l hl => ?_,
    ?_, ?_⟩
  · show (settleAtRest s.stopped).hold = _
    rw [hframe]
  · show (settleAtRest s.stopped).reg = _
    rw [hframe]
  · show (settleAtRest s.stopped).links = _
    rw [settleStopped_moving hne, stopped_eq_blocks]
  · show (settleAtRest s.stopped).level _ = _
    rw [settleStopped_level hzero lineState_ofNoLink, (enterLine_levels .stopped s.stopped).1]
    rfl
  · have hlink := settleStopped_link hzero l
    have howed := settleStopped_owed hzero l
    refine ⟨fun hc => hlink.trans (Link.rested_parks hc), fun hc => ?_, fun hc => hlink.trans (Link.rested_of_not ?_)⟩
    · obtain ⟨hup, hop⟩ := hc
      have hcarried : (s.link l).op ≠ none := Option.isSome_iff_ne_none.1 hop
      refine ⟨hlink.trans (Link.rested_of_not ?_), howed.trans (if_pos ⟨hup, hcarried⟩)⟩
      rintro (harmed | ⟨-, hnone⟩)
      · rcases hup with hup | hup <;> simp [hup] at harmed
      · exact hcarried hnone
    · exact fun h => h.elim hc.1 fun h => hc.2 h.1
  · show (settleAtRest s.stopped).line.owed.get l ≠ _
    by_cases hzero : s.line.commanded = 0
    · rw [settleStopped_owed hzero]
      exact restOwed_ne_wake _ _
    · rw [settleStopped_moving hzero, stopped_owed]
      split_ifs with hwake
      · simp
      · exact hwake
  · show (settleAtRest s.stopped).line.owed.get l = _
    by_cases hzero : s.line.commanded = 0
    · rw [settleStopped_owed hzero]
      refine if_neg fun hc => ?_
      rcases hl with hne | hnone | hdown
      · exact hne hzero
      · exact hc.2 hnone
      · exact hc.1.elim hdown.1 hdown.2
    · rw [settleStopped_moving hzero, stopped_owed]
  · rw [State.accepted, State.port, hports]
    rfl
  · rw [hframe]
    rfl

end Sys2Proof.Machine
end

section
/-! The records that the reads send, and the reads that change what they read (O33, O49). -/

namespace Sys2Proof.Machine

/-! ### Fields (R197, R200) -/

theorem byte_eq_n8 (n : Nat) : byte n = n8 n := rfl

theorem byteOf_high (n : Nat) : byteOf (n / 256) = (BitVec.ofNat 16 n).extractLsb' 8 8 := by
  apply BitVec.eq_of_toNat_eq
  simp only [byteOf, BitVec.toNat_ofNat, BitVec.extractLsb'_toNat, Nat.shiftRight_eq_div_pow]
  omega

theorem byteOf_low (n : Nat) : byteOf n = (BitVec.ofNat 16 n).extractLsb' 0 8 := by
  apply BitVec.eq_of_toNat_eq
  simp only [byteOf, BitVec.toNat_ofNat, BitVec.extractLsb'_toNat, Nat.shiftRight_eq_div_pow]
  omega

theorem be16_eq_n16 (n : Nat) : be16 n = n16 n := by
  rw [be16, byteOf_high, byteOf_low]
  rfl

/-- The bytes of a four-byte field, each at its place. -/
theorem byteOf_place (n i d : Nat) (hd : d = 2 ^ i) (hi : i ≤ 24) : byteOf (n / d) = (BitVec.ofNat 32 n).extractLsb' i 8 := by
  apply BitVec.eq_of_toNat_eq
  have hpow : (2 : Nat) ^ 32 = 2 ^ i * (256 * 2 ^ (24 - i)) := by
    rw [show (256 : Nat) = 2 ^ 8 from rfl, ← pow_add, ← pow_add]
    congr 1
    omega
  simp only [byteOf, BitVec.toNat_ofNat, BitVec.extractLsb'_toNat, Nat.shiftRight_eq_div_pow]
  rw [hpow, Nat.mod_mul_right_div_self, hd]
  exact (Nat.mod_mul_right_mod _ _ _).symm

theorem be32_eq_n32 (n : Nat) : be32 n = n32 n := by
  have hlow := byteOf_place n 0 1 rfl (by omega)
  rw [Nat.div_one] at hlow
  rw [be32, byteOf_place n 24 16777216 rfl (by omega), byteOf_place n 16 65536 rfl (by omega), byteOf_place n 8 256 rfl (by omega),
    hlow]
  rfl

theorem be16_toNat (w : BitVec 16) : be16 w.toNat = wire16 w := by
  rw [be16_eq_n16, n16, BitVec.ofNat_toNat, BitVec.setWidth_eq]

theorem be32_toNat (w : BitVec 32) : be32 w.toNat = wire32 w := by
  rw [be32_eq_n32, n32, BitVec.ofNat_toNat, BitVec.setWidth_eq]

theorem flag_eq_flag8 (b : Bool) : [flag b] = flag8 (b = true) := by cases b <;> rfl

theorem flag_decide (p : Prop) [Decidable p] : [flag (decide p)] = flag8 p := by
  unfold flag flag8
  by_cases h : p <;> simp [h]

theorem optField_eq_opt8 {α : Type} (n : Nat) (f g : α → Bytes) (o : Option α) (h : ∀ x, f x = g x) : optField n f o = opt8 n o g := by
  cases o with
  | none => rfl
  | some x => exact congrArg (1#8 :: ·) (h x)

theorem words_eq_places (n : Nat) (xs : List Nat) : words (padTo n xs) = places n xs := by
  unfold words places padTo
  exact List.flatMap_congr fun x _ => be16_eq_n16 x

theorem resultField_bytes (s : State) (r : Option RegResult) : ResultBytes r (resultField s r) := by
  cases r with
  | none => rfl
  | some r =>
    cases r with
    | on d => rfl
    | ahead d => rfl
    | behind d => rfl
    | unread => exact ⟨_, rfl⟩

theorem entryRecord_recordOf (s : State) (v : Option EntryView) : RecordOf v (entryRecord s v) := by
  cases v with
  | none => rfl
  | some v =>
    refine ⟨_, resultField_bytes s v.entry.regResult, ?_⟩
    have hreason : reasonField v.entry.scrap = opt8 1 v.entry.scrap (fun r => n8 r.code) :=
      optField_eq_opt8 1 _ _ _ fun _ => rfl
    simp only [entryRecord, optField, entryBytes, hreason, be16_eq_n16, be32_eq_n32, byte_eq_n8, ← flag_eq_flag8]
    simp [n8, byteOf, signedByte]

/-! ### A read's row -/

theorem takeRead_passes {p : PortId} {r : CommandRow} {body : ReadBody} {s : State} (hc : portCheck p r s = none) :
    takeRead p r body s = (sendReply p (body s).record ((body s).state.setFreeTick ((body s).state.freeTick + 1)), (body s).ending) := by
  unfold takeRead
  rw [hc]

theorem readRow_receiving {p : PortId} {r : CommandRow} {params : Bytes} {body : ReadBody} {s : State}
    (ht : (s.port p).transaction = .receiving) : readRow p r params body s =
      setTransaction p (.readTaken (takeRead p r body s).2) (r.code :: params) (takeRead p r body s).1 := by
  unfold readRow readCommand
  rw [ht]

/-- A read whose end leaves nothing to do (R178). -/
theorem readRow_told {p : PortId} {r : CommandRow} {params : Bytes} {body : ReadBody} {s u : State} {record : Bytes}
    (ht : Listening p s) (hc : portCheck p r s = none) (h : body s = { state := u, record := record, ending := .keep })
    (hport : (u.port p).transaction = (s.port p).transaction) :
    readRow p r params body s = u.told p (r.code :: params) record := by
  have htaken := takeRead_passes (body := body) hc
  rw [h] at htaken
  rcases ht with ht | ht
  · rw [readRow_whole p r params body s ht, htaken, State.told, hport, ht]
    cases p <;> rfl
  · rw [readRow_receiving ht, htaken, State.told, hport, ht]
    cases p <;> rfl

theorem portCheck_read {p : PortId} {r : CommandRow} {s : State} (hbusy : s.busy = none) (hp : r.permits p = true)
    (hall : r.lines = .all) : portCheck p r s = none :=
  portCheck_passes p r s hbusy hp (by rw [hall]; rfl)

theorem answer_resulted (p : PortId) (code : Byte) (v : Nat) (s : State) : answer p code (answerOk v) s = s.resulted p code .ok v :=
  answer_accepted p code (answerOk v) s rfl

theorem answer_refused_resulted {o : PortOutcome} (p : PortId) (code : Byte) (v : Nat) (s : State) (ho : o ≠ .ok) :
    answer p code (refuse o v) s = { s.resulted p code o v with notices := s.notices.took 22 } := by
  rw [answer_refused _ _ _ _ ho, raiseNotice_eq_took _ _ rfl]
  rfl

theorem resulted_transaction (p : PortId) (code : Byte) (o : PortOutcome) (v : Nat) (s : State) :
    ((s.resulted p code o v).port p).transaction = (s.port p).transaction := by
  cases p <;> rfl

/-! ### TAKE REPRINT and TAKE OUTCOME (O33) -/

/-- Settles O33: TAKE REPRINT and TAKE OUTCOME. -/
theorem takesRemoveTheOldestRecord : Obligations.TakesRemoveTheOldestRecord := by
  intro s
  refine ⟨fun hbusy ht hlist => ?_, fun r rest hbusy ht hlist => ?_, fun hbusy ht hlist => ?_, fun r rest hbusy ht hlist => ?_⟩
  · refine congrArg Host.Outcome.next (readRow_told ht (portCheck_read hbusy rfl rfl) ?_ ?_)
    · rw [takeReprint, hlist, answer_refused_resulted _ _ _ _ (by simp)]
      rfl
    · rfl
  · refine congrArg Host.Outcome.next (readRow_told ht (portCheck_read hbusy rfl rfl) ?_ ?_)
    · rw [takeReprint, hlist]
      dsimp only
      rw [answer_resulted]
      rfl
    · rfl
  · refine congrArg Host.Outcome.next (readRow_told ht (portCheck_read hbusy rfl rfl) ?_ ?_)
    · rw [takeOutcome, hlist, answer_refused_resulted _ _ _ _ (by simp)]
      rfl
    · rfl
  · refine ⟨_, resultField_bytes s r.regResult, congrArg Host.Outcome.next (readRow_told ht (portCheck_read hbusy rfl rfl) ?_ ?_)⟩
    · rw [takeOutcome, hlist]
      dsimp only
      rw [answer_resulted]
      have hrecord : outcomeRecord s (some r) = [1, BitVec.ofNat 8 (r.panel / 256), BitVec.ofNat 8 r.panel, BitVec.ofNat 8 r.plan] ++
          (match r.reason with | some x => [1, 1, BitVec.ofNat 8 x.code] | none => [0, 0, 0]) ++ resultField s r.regResult ++
            [BitVec.ofNat 8 r.cutsMade] := by
        have hfields : outcomeRecord s (some r) = 1 :: (be16 r.panel ++ byte r.plan ++ [flag r.reason.isSome] ++
            reasonField r.reason ++ resultField s r.regResult ++ byte r.cutsMade) := rfl
        rw [hfields, reasonField]
        cases r.reason <;> rfl
      exact congrArg (fun record => ({ state := _, record := record, ending := .keep } : ReadTaken)) hrecord
    · rfl

/-! ### READ ERROR COUNT (O49) -/

theorem errorRecord_eq (count : Nat) (overflow : Bool) :
    errorRecord count overflow = [BitVec.ofNat 8 count, if overflow then 1 else 0] := rfl

theorem readErrorCount_own (p : PortId) {source : Byte} (h : source.toNat = 0) (s : State) : readErrorCount p source.toNat s =
    { state := s, record := errorRecord (s.port p).errorCount (s.port p).overflow, ending := .clearPort } := if_pos h

theorem readErrorCount_link (p : PortId) {source : Byte} {l : LinkId} (h : source.toNat = linkNumber l) (s : State) :
    readErrorCount p source.toNat s =
      { state := s, record := errorRecord (s.link l).errorCount (s.link l).overflow, ending := .clearLink l 0 } := by
  have hl : linkOfNumber source.toNat = some l := by rw [h, linkOfNumber_linkNumber]
  have hne : source.toNat ≠ 0 := by rw [h]; cases l <;> decide
  rw [readErrorCount, if_neg hne, hl]

theorem readErrorCount_other (p : PortId) {source : Byte} (h : 4 < source.toNat) (s : State) : readErrorCount p source.toNat s =
    { state := s, record := errorRecord 0 false, ending := .keep } := by
  rw [readErrorCount, if_neg (by omega), linkOfNumber_none (.inr h)]

theorem errorCountsAreReadAndCleared : ErrorCountsAreReadAndCleared := by
  intro p source s hbusy
  have hc : portCheck p rowReadErrorCount s = none := portCheck_read hbusy rfl rfl
  have htaken := takeRead_passes (body := readErrorCount p source.toNat) hc
  refine ⟨fun ht hsource => ?_, fun ht hsource => ?_, fun l ht hsource => ?_, fun l ht hsource => ?_, fun ht hsource => ?_⟩
  · rw [readErrorCount_own p hsource] at htaken
    refine congrArg Host.Outcome.next ?_
    rw [readRow_whole _ _ _ _ _ ht, htaken]
    cases p <;> rfl
  · rw [readErrorCount_own p hsource] at htaken
    refine congrArg Host.Outcome.next ?_
    rw [readRow_receiving ht, htaken]
    cases p <;> rfl
  · rw [readErrorCount_link p hsource] at htaken
    refine congrArg Host.Outcome.next ?_
    rw [readRow_whole _ _ _ _ _ ht, htaken]
    cases p <;> rfl
  · rw [readErrorCount_link p hsource] at htaken
    refine congrArg Host.Outcome.next ?_
    rw [readRow_receiving ht, htaken]
    cases p <;> rfl
  · exact congrArg Host.Outcome.next (readRow_told ht hc (readErrorCount_other p hsource s) rfl)

/-! ### READ MAP ENTRY, settled (O49) -/

theorem selectEntry_eq_chosen (selector : Byte) (key : BitVec 16) (s : State) :
    selectEntry selector.toNat key.toNat s = s.chosen selector key := by
  unfold selectEntry State.chosen
  rw [State.views_eq_gapped]
  generalize selector.toNat = n
  match n with
  | 0 => by_cases hkey : key.toNat = 0 <;> simp [hkey]
  | 1 => rfl
  | n + 2 => simp

theorem keyBytes_eq_wire16 (key : BitVec 16) : keyBytes key = wire16 key := be16_toNat key

section
variable {p : PortId} {selector : Byte} {key : BitVec 16} {s : State}

theorem exec_readMapEntrySettled_told {u : State} {record : Bytes} (hbusy : s.busy = none) (ht : Listening p s)
    (h : readSettled p selector.toNat key.toNat s = { state := u, record := record, ending := .keep })
    (hport : (u.port p).transaction = (s.port p).transaction) :
    exec (.readMapEntrySettled p selector key) s = .next (u.told p (0x54 :: selector :: wire16 key) record) := by
  rw [← keyBytes_eq_wire16]
  exact congrArg Host.Outcome.next (readRow_told ht (portCheck_read hbusy rfl rfl) h hport)

theorem pendingRead_eq (p : PortId) (slot : Nat) (s : State) : pendingRead p slot s =
    { state := s.resulted p 0x54 .pending slot, record := 2#8 :: List.replicate 27 0#8, ending := .keep } := rfl

theorem windowOpened_iff (e : MapEntry) : e.windowIs .opened = true ↔ ∃ w ∈ e.window, w.status = .opened := by
  unfold MapEntry.windowIs
  cases e.window <;> simp

end

theorem settledReadsFollowTheirRecord : SettledReadsFollowTheirRecord := by
  intro p selector key s hbusy ht
  refine ⟨fun v hs => ⟨_, entryRecord_recordOf s (some v), ?_⟩, fun w hs => ?_, fun hs => ⟨fun hnone => ?_, fun v hv =>
    ⟨fun hopen => ⟨_, entryRecord_recordOf s (some v), ?_⟩, fun hopen => ?_⟩⟩⟩
  · refine exec_readMapEntrySettled_told (u := { s with ports := s.ports.set p { s.port p with settled := .empty } }) hbusy ht ?_
      (by cases p <;> rfl)
    rw [readSettled, hs]
    rfl
  · refine exec_readMapEntrySettled_told hbusy ht ?_ (resulted_transaction p _ _ _ s)
    rw [readSettled, hs]
    exact pendingRead_eq p w.slot s
  · refine exec_readMapEntrySettled_told hbusy ht ?_ rfl
    rw [readSettled, hs]
    dsimp only
    rw [selectEntry_eq_chosen, hnone]
    rfl
  · refine exec_readMapEntrySettled_told hbusy ht ?_ rfl
    rw [readSettled, hs]
    dsimp only
    rw [selectEntry_eq_chosen, hv]
    refine if_neg fun h => ?_
    obtain ⟨w, hw, hstatus⟩ := (windowOpened_iff v.entry).1 h
    exact hopen w hw hstatus
  · refine exec_readMapEntrySettled_told hbusy ht ?_
      ((resulted_transaction p _ _ _ _).trans (by cases p <;> rfl))
    rw [readSettled, hs]
    dsimp only
    rw [selectEntry_eq_chosen, hv]
    exact (if_pos ((windowOpened_iff v.entry).2 hopen)).trans (pendingRead_eq p v.entry.slot _)

/-- Settles O49: READ ERROR COUNT and the settled READ MAP ENTRY. -/
theorem readsThatChangeTheirPort : Obligations.ReadsThatChangeTheirPort :=
  ⟨errorCountsAreReadAndCleared, settledReadsFollowTheirRecord⟩

end Sys2Proof.Machine
end

section
/-! The reads that show the state (O48). -/

namespace Sys2Proof.Machine

/-! ### The fields of the statements as the model makes them -/

theorem n8_eq (n : Nat) : n8 n = [byteOf n] := rfl

theorem n16_eq : n16 = be16 := funext fun n => (be16_eq_n16 n).symm

theorem n32_eq : n32 = be32 := funext fun n => (be32_eq_n32 n).symm

theorem opt8_eq {α : Type} (n : Nat) (o : Option α) (f : α → Bytes) : opt8 n o f = optField n f o := by cases o <;> rfl

theorem flag8_eq (p : Prop) [Decidable p] : flag8 p = [flag (decide p)] := (flag_decide p).symm

theorem named24_eq (t : Option Target) : named24 t = optField 3 (fun t => byte t.slot ++ be16 t.panel) t := by
  rw [named24, opt8_eq]
  simp only [be16_eq_n16, byte_eq_n8]

theorem slot8_eq (t : Option Target) : slot8 t = targetField t := opt8_eq 1 t _

theorem optField_length {α : Type} {n : Nat} {f : α → Bytes} (h : ∀ x, (f x).length = n) (o : Option α) :
    (optField n f o).length = n + 1 := by
  cases o with
  | none => simp [optField]
  | some x => simp [optField, h]

theorem optField_map {α β : Type} (n : Nat) (f : β → Bytes) (g : α → β) (o : Option α) :
    optField n f (o.map g) = optField n (fun x => f (g x)) o := by
  cases o <;> rfl

/-! ### The status record (R184) -/

theorem statusToReg_eq (s : State) :
    statusTracker s.tracker ++ statusMap s ++ statusPlans s.plans ++ statusReg s = statusToReg s := by
  have hqueued : queuedCount s.map.entries = s.map.entries.countP (fun e => e.phase = .queued) := rfl
  have hopened : s.plans.plans.countP (fun q => q.state == .opened) = s.plans.plans.countP (fun q => q.state = .opened) := rfl
  have hlocked : s.regLocked = decide (s.reg.lock = .locked) := rfl
  unfold statusToReg statusTracker statusMap statusPlans statusReg
  dsimp only
  simp only [named24_eq, optField_map, n16_eq, n32_eq, byte_eq_n8, flag8_eq, ← words_eq_places, hlocked, hqueued,
    hopened, n8_eq, State.nearFull, State.queueLow, List.append_assoc, List.cons_append, List.nil_append]
  rfl

theorem statusLam_eq (s : State) : statusLam s = statusLamBytes s (spliceSlot s) := by
  have hnip : named24 s.nipEntry = optField 3 (fun e : MapEntry => byte e.slot ++ be16 e.panel) (entryAtNip s.map.entries) := by
    rw [← nipEntry_eq, named24_eq, optField_map]
    rfl
  have hslot (t : Option Target) : targetField t = slot8 t := (slot8_eq t).symm
  unfold statusLam statusLamBytes
  dsimp only
  simp only [hnip, hslot, n16_eq, n32_eq, byte_eq_n8, flag8_eq, n8_eq, opt8_eq, List.append_assoc,
    List.cons_append, List.nil_append]
  rfl

/-- The position and the deadline at the front of the queues, and any bytes where a queue is empty. -/
def positionSent (s : State) : Bytes := match s.cut.xcut.head? with
  | some c => positionField s c.position
  | none => be32 0
def deadlineSent (s : State) : Bytes := match s.cut.slit.head? with
  | some x => positionField s x.deadline
  | none => be32 0

theorem statusCut_eq (s : State) : statusCut s = statusCutBytes s.cut (positionSent s) (deadlineSent s) := by
  have hlanes : s.cut.current.lanes = (match s.cut.current with | .known lanes => lanes | .unknown => []) := by
    cases s.cut.current <;> rfl
  have hfront : optField 7 (fun c : CutEntry =>
      positionField s c.position ++ [byteOf c.owner.slot, byteOf c.step.code, byteOf c.kind.code]) s.cut.xcut.head? =
      optField 7 (fun c : CutEntry => positionSent s ++ n8 c.owner.slot ++ n8 c.step.code ++ n8 c.kind.code) s.cut.xcut.head? := by
    unfold positionSent
    cases s.cut.xcut.head? with
    | none => rfl
    | some c => simp [optField, n8, byteOf]
  have hslit : optField 6 (fun x : SlitEntry => byte x.owner.slot ++ positionField s x.deadline ++ [flag x.issued])
      s.cut.slit.head? = optField 6 (fun x : SlitEntry =>
        n8 x.owner.slot ++ deadlineSent s ++ flag8 (x.issued = true)) s.cut.slit.head? := by
    unfold deadlineSent
    cases s.cut.slit.head? with
    | none => rfl
    | some x => simp [optField, n8, byteOf, byte, ← flag_eq_flag8]
  have hslot (t : Option Target) : targetField t = slot8 t := (slot8_eq t).symm
  unfold statusCut statusCutBytes
  dsimp only
  rw [hfront, hslit]
  simp only [hslot, hlanes, byte_eq_n8, flag8_eq, n8_eq, opt8_eq, ← words_eq_places, List.append_assoc,
    List.cons_append, List.nil_append] <;> rfl

theorem statusFromHold_eq (s : State) : statusHold s ++ statusLine s.line ++ allLinks.flatMap (fun l => statusLink (s.link l)) ++
    statusPorts s = statusFromHold s := by
  have hholds : (!s.hold.stack.isEmpty) = decide (s.hold.stack ≠ []) := by cases s.hold.stack <;> rfl
  have hbusy : s.busy.isSome = decide (s.busy ≠ none) := by cases s.busy <;> rfl
  have hslot (t : Option Target) : targetField t = slot8 t := (slot8_eq t).symm
  unfold statusHold statusLine statusPorts statusLink errorRecord statusFromHold
  dsimp only
  simp only [hslot, n16_eq, byte_eq_n8, flag8_eq, n8_eq, opt8_eq, State.holdActive, allLinks, allPorts, List.flatMap_cons,
    List.flatMap_nil, Bool.decide_eq_true, hholds, hbusy, List.append_assoc, List.cons_append, List.nil_append]
  cases s.hold.stack <;> rfl

/-! ### Lengths -/

theorem be16_length (n : Nat) : (be16 n).length = 2 := rfl
theorem be32_length (n : Nat) : (be32 n).length = 4 := rfl
theorem byte_length (n : Nat) : (byte n).length = 1 := rfl

theorem targetField_length (t : Option Target) : (targetField t).length = 2 :=
  optField_length (n := 1) (f := fun t : Target => byte t.slot) (fun _ => rfl) t

theorem positionField_length (s : State) (n : Nat) : (positionField s n).length = 4 := by
  unfold positionField
  split_ifs <;> rfl

theorem statusReg_length (s : State) : (statusReg s).length = 9 := by
  have hwindow := optField_length (n := 3) (f := fun e : MapEntry => byte e.slot ++ be16 e.panel) (fun _ => rfl) s.openWindow
  rw [statusReg, List.length_append, hwindow]
  rfl

theorem statusLam_length (s : State) : (statusLam s).length = 33 := by
  have hop := optField_length (n := 4) (f := fun o : LamOp => [byteOf o.kind.code, byteOf o.final.code] ++ targetField o.target)
    (fun o => by rw [List.length_append, targetField_length]; rfl) s.lam.op
  have hstandby := optField_length (n := 4) (f := be32) (fun _ => rfl) s.lam.standby
  have hreservation := optField_length (n := 2) (f := be16) (fun _ => rfl) s.lam.reservation
  have hnip := optField_length (n := 3) (f := fun e : MapEntry => byte e.slot ++ be16 e.panel) (fun _ => rfl) (entryAtNip s.map.entries)
  simp only [statusLam, List.length_append, hop, hstandby, hreservation, hnip, be16_length, be32_length, byte_length,
    List.length_cons, List.length_nil]

theorem statusCut_length (s : State) : (statusCut s).length = 36 := by
  have hfront := optField_length (n := 7) (f := fun c : CutEntry =>
    positionField s c.position ++ [byteOf c.owner.slot, byteOf c.step.code, byteOf c.kind.code])
    (fun c => by rw [List.length_append, positionField_length]; rfl) s.cut.xcut.head?
  have hflight := optField_length (n := 3) (f := fun c : CutEntry => [byteOf c.owner.slot, byteOf c.step.code, byteOf c.kind.code])
    (fun _ => rfl) s.cut.cutFlight
  have hslit := optField_length (n := 6) (f := fun x : SlitEntry =>
    byte x.owner.slot ++ positionField s x.deadline ++ [flag x.issued])
    (fun x => by rw [List.length_append, List.length_append, positionField_length]; rfl) s.cut.slit.head?
  have hmove := optField_length (n := 2) (f := fun m : Move => targetField m.owner) (fun m => targetField_length m.owner) s.cut.moveFlight
  simp only [statusCut, List.length_append, hfront, hflight, hslit, hmove, byte_length, words_length, padTo_length,
    List.length_cons, List.length_nil]

theorem statusLink_length (k : Link) : (statusLink k).length = 16 := by
  have hop := optField_length (n := 4) (f := fun o : LinkOp => [byteOf o.kind.code, byteOf o.tag] ++ targetField o.target)
    (fun o => by rw [List.length_append, targetField_length]; rfl) k.op
  have hseen := optField_length (n := 2) (f := fun p : Indication × Nat => [byteOf p.1.code, byteOf p.2]) (fun _ => rfl) k.lastSeen
  simp only [statusLink, List.length_append, hop, hseen, be16_length, byte_length, List.length_cons, List.length_nil]

theorem statusHold_length (s : State) : (statusHold s).length = 7 := by
  unfold statusHold
  cases s.hold.stack <;> rfl

theorem statusRecord_length (s : State) : (statusRecord s).length = 208 := by
  have hlinks : (allLinks.flatMap (fun l => statusLink (s.link l))).length = 64 := by
    simp only [allLinks, List.flatMap_cons, List.flatMap_nil, List.length_append, statusLink_length, List.length_nil]
  have htracker : (statusTracker s.tracker).length = 19 := rfl
  have hmap : (statusMap s).length = 13 := rfl
  have hplans : (statusPlans s.plans).length = 4 := rfl
  have hline : (statusLine s.line).length = 16 := rfl
  have hports : (statusPorts s).length = 7 := rfl
  simp only [statusRecord, List.length_append, hlinks, htracker, hmap, hplans, statusReg_length, statusLam_length, statusCut_length,
    statusHold_length, hline, hports]

theorem statusRecord_statusOf (s : State) : StatusOf s (statusRecord s) := by
  refine ⟨statusRecord_length s, spliceSlot s, positionSent s, deadlineSent s, ?_, ?_, fun t ht => ?_, fun c hc htop => ?_,
    fun x hx htop => ?_, ?_⟩
  · unfold positionSent
    cases s.cut.xcut.head? with
    | none => rfl
    | some c => exact positionField_length s c.position
  · unfold deadlineSent
    cases s.cut.slit.head? with
    | none => rfl
    | some x => exact positionField_length s x.deadline
  · rw [spliceSlot, ht]
    rfl
  · rw [positionSent, Option.mem_def.1 hc, n32_eq]
    exact if_pos htop
  · rw [deadlineSent, Option.mem_def.1 hx, n32_eq]
    exact if_pos htop
  · rw [← statusToReg_eq, ← statusLam_eq, ← statusCut_eq, ← statusFromHold_eq, statusRecord]
    simp only [List.append_assoc]

/-! ### The other records -/

theorem planRecord_eq (q : Option Plan) : planRecord q = planBytes q := by
  unfold planRecord planBytes
  rw [opt8_eq]
  simp only [n8_eq, byte_eq_n8, ← words_eq_places, List.append_assoc, List.cons_append, List.nil_append]

theorem holdRecord_eq (r : Option HoldRecord) : holdRecord r = holdBytes r := by
  cases r with
  | none => rfl
  | some r =>
    unfold holdRecord holdBytes
    simp only [named24_eq, n16_eq, n32_eq, n8_eq, opt8_eq, byte_eq_n8, List.append_assoc, List.cons_append, List.nil_append]

theorem selectPlan_eq (selector key : Byte) (s : State) : selectPlan selector.toNat key.toNat s =
    (if selector.toNat = 0 then s.plans.plans.find? (fun q => q.number == key.toNat)
      else if selector.toNat = 1 then s.plans.plans[key.toNat]? else none) := by
  unfold selectPlan
  generalize selector.toNat = n
  match n with
  | 0 => rfl
  | 1 => rfl
  | n + 2 => simp

theorem resultRecord_eq (r : ResultRecord) : resultRecord r =
    [r.code, BitVec.ofNat 8 r.outcome.code] ++ wire32 r.value ++ opt8 1 r.slot n8 := by
  rw [opt8_eq, resultRecord, be32_toNat]
  rfl

theorem noticesRecord_eq (levels : BitVec 10) (c : NoticeCopy) : noticesRecord levels c =
    wire16 (levels.setWidth 16) ++ wire32 (c.latched.setWidth 32) ++ wire32 (c.mask.setWidth 32) ++ flag8 (c.latchMasked = true) := by
  have h16 (w : BitVec 10) : be16 w.toNat = wire16 (w.setWidth 16) := by
    rw [be16_eq_n16, n16, BitVec.ofNat_toNat]
  have h32 (w : BitVec 25) : be32 w.toNat = wire32 (w.setWidth 32) := by
    rw [be32_eq_n32, n32, BitVec.ofNat_toNat]
  rw [noticesRecord, h16, h32, h32, flag_eq_flag8]

/-! ### The plain reads -/

/-- READ STATUS and READ IDENT are taken in the busy period too (R187). -/
theorem portCheck_duringBusy {p : PortId} {r : CommandRow} {s : State} (hbusy : r.duringBusy = true) (hp : r.permits p = true)
    (hall : r.lines = .all) : portCheck p r s = none := by
  have hl : r.lines.accepts s.line.state = true := by rw [hall]; rfl
  simp [portCheck, hbusy, hp, hl]

theorem plainReadsShowTheState : PlainReadsShowTheState := by
  intro p s ht
  refine ⟨⟨_, statusRecord_statusOf s, ?_⟩, ?_, fun hbusy => ⟨fun selector key => ⟨_, entryRecord_recordOf s _, ?_⟩,
    fun selector key => ?_, fun depth => ?_, ?_, ?_⟩⟩
  · exact congrArg Host.Outcome.next (readRow_told ht (portCheck_duringBusy rfl rfl rfl) rfl rfl)
  · exact congrArg Host.Outcome.next (readRow_told ht (portCheck_duringBusy rfl rfl rfl) rfl rfl)
  · rw [← keyBytes_eq_wire16, ← selectEntry_eq_chosen]
    exact congrArg Host.Outcome.next (readRow_told ht (portCheck_read hbusy rfl rfl) rfl rfl)
  · rw [← selectPlan_eq, ← planRecord_eq]
    exact congrArg Host.Outcome.next (readRow_told ht (portCheck_read hbusy rfl rfl) rfl rfl)
  · rw [← holdRecord_eq]
    exact congrArg Host.Outcome.next (readRow_told ht (portCheck_read hbusy rfl rfl) rfl rfl)
  · rw [← resultRecord_eq]
    exact congrArg Host.Outcome.next (readRow_told ht (portCheck_read hbusy rfl rfl) rfl rfl)
  · rw [← noticesRecord_eq]
    exact congrArg Host.Outcome.next (readRow_told ht (portCheck_read hbusy rfl rfl) rfl rfl)

theorem fieldCodes : FieldCodes :=
  ⟨rfl, rfl, rfl, fun _ => rfl, rfl, rfl, fun _ => rfl, rfl, rfl, rfl, fun _ => rfl, rfl, rfl, rfl, rfl, rfl, rfl, rfl, rfl, rfl,
    rfl, rfl, rfl⟩

theorem repliesAreSentInOrder : RepliesAreSentInOrder := fun k _ =>
  ⟨fun h => (List.getD_eq_getElem k.reply 0#8 h), fun h => List.getD_eq_default k.reply 0#8 h⟩

/-- Settles O48: the field codes, the plain reads, and the sending of their records. -/
theorem readsShowTheState : Obligations.ReadsShowTheState := ⟨fieldCodes, plainReadsShowTheState, repliesAreSentInOrder⟩

end Sys2Proof.Machine
end

section
/-! LINE RESET (O46). -/

namespace Sys2Proof.Machine

theorem passLevels_carries (s : State) : s.Carries (passLevels s) := by
  have hlinks (ls : List LinkId) (u : State) : u.Carries (ls.foldl (fun s l => passLinkUp l s) u) := by
    induction ls generalizing u with
    | nil => exact .refl u
    | cons l ls ih => exact (passLevel_carries (.linkUp l) _ u).trans (ih _)
  unfold passLevels
  dsimp only
  refine State.Carries.trans ?_ (hlinks allLinks _)
  refine State.Carries.trans ?_ (evalMapLevels_carries _)
  refine State.Carries.trans ?_ (passLevel_carries .regLock _ _)
  exact (passLevel_carries .lineState _ s).trans (passLevel_carries .holdActive _ _)

theorem passLevels_eq_withNotices (s : State) : passLevels s = { s with notices := (passLevels s).notices } := by
  have hlinks (ls : List LinkId) (u : State) : ls.foldl (fun s l => passLinkUp l s) u =
      { u with notices := (ls.foldl (fun s l => passLinkUp l s) u).notices } := by
    induction ls generalizing u with
    | nil => rfl
    | cons l ls ih =>
      have hone : passLinkUp l u = { u with notices := (passLinkUp l u).notices } := passLevel_eq_withNotices (.linkUp l) _ u
      rw [List.foldl_cons, ih, hone]
  unfold passLevels
  dsimp only
  rw [hlinks, evalMapLevels_eq_withNotices, passLevel_eq_withNotices .regLock, passLevel_eq_withNotices .holdActive,
    passLevel_eq_withNotices .lineState]

/-- The film checked where no gap takes a splice (R84, R89). -/
theorem filmChecked_reserves {s : State} (h : s.map.entries = []) : ∃ notices, s.filmChecked = { s with
    lam := if s.lam.remaining ≤ s.lam.filmLow ∧ s.lam.standby ≠ none ∧ s.lam.request = .idle then
        { s.lam with request := .wanted, reservation := some (s.lam.reservation.getD s.lam.spliceGap) }
      else s.lam
    notices := notices } := by
  have hnone (n : NoticeUnit) : ({ s with notices := n } : State).fitting = none := by
    refine State.fitting_eq_none fun v hv => ?_
    have hempty : ({ s with notices := n } : State).gapped = [] := by
      show gapsAfter none s.map.entries = []
      rw [h]
      rfl
    rw [hempty] at hv
    cases hv
  unfold State.filmChecked
  dsimp only
  split_ifs with hc
  · have hwants := State.wanting_reserves (hnone (s.notices.passed 3 (decide (s.lam.remaining ≤ s.lam.filmLow))))
    exact ⟨_, hwants⟩
  · exact ⟨_, rfl⟩

/-- The blocks after LINE RESET's body. -/
theorem lineReset_eq_blocks (s : State) : ∃ notices, (lineReset s).1 = { resetBlocks s with
    lam := if s.lam.remaining ≤ 20000 ∧ s.lam.standby.isSome then
        { s.lam.lineReset with request := .wanted, reservation := some 500 }
      else s.lam.lineReset
    notices := notices } := by
  have hpassed := passLevels_eq_withNotices (resetBlocks s)
  obtain ⟨notices, hfilm⟩ := filmChecked_reserves (s := passLevels (resetBlocks s)) (by rw [hpassed]; rfl)
  have hlam : (passLevels (resetBlocks s)).lam = s.lam.lineReset := by rw [hpassed]; rfl
  have hsplices : (s.lam.lineReset.remaining ≤ s.lam.lineReset.filmLow ∧ s.lam.lineReset.standby ≠ none ∧
      s.lam.lineReset.request = .idle) ↔ (s.lam.remaining ≤ 20000 ∧ s.lam.standby.isSome) :=
    ⟨fun h => ⟨h.1, Option.isSome_iff_ne_none.2 h.2.1⟩, fun h => ⟨h.1, Option.isSome_iff_ne_none.1 h.2, rfl⟩⟩
  have hcleared (t : State) : clearLatched t = { t with notices := (clearLatched t).notices } := rfl
  refine ⟨(clearLatched (passLevels (resetBlocks s)).filmChecked).notices, ?_⟩
  show clearLatched (evalFilm (passLevels (resetBlocks s))) = _
  rw [evalFilm_eq_filmChecked, hcleared]
  generalize (clearLatched (passLevels (resetBlocks s)).filmChecked).notices = n
  rw [hfilm, hlam]
  simp only [hsplices]
  rw [hpassed]
  rfl

theorem lineReset_copies (s : State) (p : PortId) : (lineReset s).1.notices.copies.get p =
    { s.notices.copies.get p with latched := 0, attn := false } := by
  have hcarries : s.Carries (evalFilm (passLevels (resetBlocks s))) :=
    ((State.Carries.of_eq (s := s) (t := resetBlocks s) rfl).trans (passLevels_carries _)).trans (evalFilm_inner _).carries
  obtain ⟨hmask, hoption⟩ := hcarries.settings p
  have hcopy : (lineReset s).1.notices.copies.get p =
      ({ (evalFilm (passLevels (resetBlocks s))).notices.copies.get p with latched := 0 } : NoticeCopy).reckon := by
    show (PerPort.map _ _).get p = _
    rw [PerPort.get_map]
  rw [hcopy, NoticeCopy.reckon, hmask, hoption]
  simp

/-- LINE RESET's row at the CONSOLE port. -/
theorem exec_lineReset {s : State} (hready : Ready .console s) (hstopped : s.line.state = .stopped) :
    exec (.lineReset .console) s = .next (closeTransaction .console
      (replaceResult .console 0x40 (answerOk 0) (lineReset (sendNothing .console s)).1)) := by
  have haccepts : rowLineReset.lines.accepts s.line.state = true := by rw [hstopped]; rfl
  refine congrArg Host.Outcome.next ?_
  rw [writeRow_taken _ _ _ s hready.2 (portCheck_passes _ _ s hready.1 rfl haccepts), answer_accepted _ _ _ _ rfl]
  rfl

theorem Port.lineReset_eq (k : Port) : k.lineReset = { k with settled := .empty, result := k.lineReset.result } := by
  unfold Port.lineReset
  split <;> rfl

/-- Settles O46: LINE RESET. -/
theorem lineResetClearsTheBlocks : Obligations.LineResetClearsTheBlocks := by
  intro s hready hstopped
  obtain ⟨notices, hblocks⟩ := lineReset_eq_blocks (sendNothing .console s)
  have hagrees := lineReset_agrees (sendNothing .console s)
  have hcopies := lineReset_copies (sendNothing .console s)
  have hexec := exec_lineReset hready hstopped
  generalize (lineReset (sendNothing .console s)).1 = w at hblocks hagrees hcopies hexec
  have hlevel {n : Notice} {v : Bool} (h : w.raw n = some v) : w.level n = v := hagrees n v h
  have hline : w.line = s.line.lineReset := by rw [hblocks]; rfl
  have hlam : w.lam = if s.lam.remaining ≤ 20000 ∧ s.lam.standby.isSome then
      { s.lam.lineReset with request := .wanted, reservation := some 500 } else s.lam.lineReset := by rw [hblocks]; rfl
  have hports : w.ports = (sendNothing .console s).ports.map Port.lineReset := by rw [hblocks]; rfl
  have hmap : w.map = PanelMap.reset := by rw [hblocks]; rfl
  have hlinks (l : LinkId) : w.link l = (s.link l).lineReset := by
    rw [hblocks]
    exact PerLink.get_map _ _ _
  let t : State := closeTransaction .console (replaceResult .console 0x40 (answerOk 0) w)
  have hconsole : t.port .console = { w.port .console with
      result := { code := 0x40, outcome := .ok, value := 0, slot := none }, transaction := .inactive, assembly := [] } := rfl
  refine ⟨t, hexec, ?_, hmap, ?_, ?_, ?_, ?_, fun l => hlinks l, hline, ?_, ?_, fun p hp => ?_, ?_, ?_, ?_, ?_, ?_, ?_, ?_, fun l => ?_,
    hcopies, ?_⟩
  · show w.tracker = _
    rw [hblocks]
    rfl
  · show w.plans = _
    rw [hblocks]
    rfl
  · show w.reg = _
    rw [hblocks]
    rfl
  · show w.lam = _
    rw [hlam]
    split_ifs <;> rfl
  · show w.cut = _
    rw [hblocks]
    rfl
  · show w.hold = _
    rw [hblocks]
    rfl
  · have hport : w.port .console = ((sendNothing .console s).port .console).lineReset := by
      rw [State.port, hports]
      rfl
    rw [hconsole, hport, Port.lineReset_eq]
    rfl
  · have hport : t.port p = (s.port p).lineReset := by
      have hother : t.port p = w.port p := by
        cases p with
        | print => rfl
        | plan => rfl
        | console => exact absurd rfl hp
      rw [hother, State.port, hports]
      cases p with
      | print => rfl
      | plan => rfl
      | console => exact absurd rfl hp
    rw [hport]
    unfold Port.lineReset
    cases (s.port p).settled <;> rfl
  · show w.busy = _
    rw [hblocks]
    rfl
  · refine hlevel (n := .lineState) (congrArg some ?_)
    rw [State.lineUp, hline]
    show (s.line.state != .stopped) = false
    rw [hstopped]
    rfl
  · refine hlevel (n := .holdActive) (congrArg some ?_)
    rw [State.holdActive, hblocks]
    rfl
  · refine hlevel (n := .regLock) (congrArg some ?_)
    rw [State.regLocked, hblocks]
    rfl
  · refine hlevel (n := .filmLow) (congrArg some ?_)
    rw [State.filmLow, hlam]
    split_ifs <;> rfl
  · refine hlevel (n := .nearFull) (congrArg some ?_)
    rw [State.nearFull, hmap]
    rfl
  · refine hlevel (n := .queueLow) (congrArg some ?_)
    rw [State.queueLow, hmap]
    rfl
  · refine hlevel (n := .linkUp l) (congrArg some ?_)
    rw [State.linkUp, hlinks]
    rfl
  · show w.freeTick = _
    rw [hblocks]
    rfl

end Sys2Proof.Machine
end

section
/-! HOLD and RELEASE (O47): the report of a changed stack in the words of the statement, and the two commands. -/

namespace Sys2Proof.Machine

/-! ### The report of a changed stack (R135, R140, R152) -/

theorem stackReport_eq_blocks (s : State) : stackReport s =
    { s with hold := (stackReport s).hold, line := (stackReport s).line, notices := (stackReport s).notices } := by
  have hblocks := eq_of_blocks (s := s) (t := stackReport s) (by simp) (by simp) (by simp) (by simp) (by simp)
    (by simp) (by simp) (by simp) (by simp) (by simp)
  rwa [stackReport_links] at hblocks

theorem stackReport_holdActive (s : State) :
    (stackReport s).level .holdActive = decide ((stackReport s).hold.stack ≠ []) := by
  have hpassed (u : State) : (passLevel .holdActive u.holdActive u).level .holdActive =
      decide ((passLevel .holdActive u.holdActive u).hold.stack ≠ []) := by
    rw [passLevel_level _ _ _ (by decide), passLevel_eq_withNotices]
    exact Bool.eq_iff_iff.2 (by simp [State.holdActive])
  rcases stackReport_cases s with ⟨-, -, heq⟩ | ⟨-, heq⟩ | ⟨-, heq⟩ <;> rw [heq] <;> exact hpassed _

/-- Over a stack that is not empty only RUN is left. -/
theorem stackReport_held {s : State} (h : s.hold.stack ≠ []) :
    (stackReport s).hold = s.hold ∧ HaltTaken s (stackReport s) := by
  have hreport : stackReport s = passLevel .holdActive (haltReport s).holdActive (haltReport s) := by
    unfold stackReport
    rw [if_neg h]
  unfold HaltTaken
  rw [hreport, passLevel_eq_withNotices]
  exact ⟨by simp, haltReport_line s h⟩

/-- An empty stack resumes a line in HALTING or HELD alone. -/
theorem stackReport_empty {s : State} (h : s.hold.stack = []) (hstate : ¬ (s.line.state = .halting ∨ s.line.state = .held)) :
    (stackReport s).hold = s.hold ∧ (stackReport s).line = s.line := by
  have hreport : stackReport s = passLevel .holdActive s.holdActive s := by
    unfold stackReport
    rw [if_pos h]
    cases hs : s.line.state with
    | halting => exact absurd (.inl hs) hstate
    | held => exact absurd (.inr hs) hstate
    | stopped | arming | run | stopping => rfl
  rw [hreport, passLevel_eq_withNotices]
  exact ⟨rfl, rfl⟩

theorem stackReport_resumes {s : State} (h : s.hold.stack = []) (hstate : s.line.state = .halting ∨ s.line.state = .held) :
    stackReport s = passLevel .holdActive (runEntry s).holdActive (runEntry s) := by
  unfold stackReport
  rw [if_pos h]
  rcases hstate with hs | hs <;> rw [hs]

theorem stackReport_runs {s : State} (h : s.hold.stack = []) (hstate : s.line.state = .halting ∨ s.line.state = .held)
    (hestop : s.line.estop = false) : (stackReport s).hold = s.hold ∧ (stackReport s).line = s.lineIn .run := by
  have hentry : runEntry s = enterLine .run s := by
    unfold runEntry
    rw [if_neg (by simp [hestop])]
  rw [stackReport_resumes h hstate, passLevel_eq_withNotices, hentry]
  exact ⟨by simp, enterLine_line_eq _ _⟩

theorem stackReport_estop {s : State} (h : s.hold.stack = []) (hstate : s.line.state = .halting ∨ s.line.state = .held)
    (hestop : s.line.estop = true) :
    FaultTaken .estop noDetail s (stackReport s) ∧ (stackReport s).line = s.line ∧ s.Latched (stackReport s) 17 := by
  obtain ⟨-, hfault, hhalt, -, hlatched⟩ := faultHold_reported .estop noDetail s
  have hnotRun : s.line.state ≠ .run := by rcases hstate with hs | hs <;> rw [hs] <;> decide
  have hline : (faultHold .estop noDetail s).line = s.line := hhalt.trans (if_neg hnotRun)
  have hentry : runEntry s = faultHold .estop noDetail s := by
    unfold runEntry
    rw [if_pos hestop]
    dsimp only
    rw [if_neg (by rw [hline]; rcases hstate with hs | hs <;> rw [hs] <;> decide)]
  have hreport := stackReport_resumes h hstate
  rw [hentry] at hreport
  rw [hreport]
  refine ⟨hfault.congr rfl rfl rfl rfl ?_, ?_, hlatched.carries (by decide) (passLevel_carries _ _ _)⟩
  · rw [passLevel_eq_withNotices]
  · rw [passLevel_eq_withNotices]
    exact hline

/-! ### HOLD (R125) -/

theorem exec_hold {p : PortId} {s : State} (hready : Ready p s) (hline : s.line.state ≠ .stopped)
    (hroom : s.hold.stack.length < 4) : exec (.hold p) s =
      .next ((stackReport (pushHold (.port p) .operator noDetail s)).accepted p 0x50 s.hold.nextNumber) := by
  refine congrArg Host.Outcome.next ?_
  refine writeRow_does (holdCommand_portless p) hready rfl (bne_iff_ne.2 hline) ?_
  unfold holdCommand
  rw [if_neg (by simp only [Config.holdSize]; omega)]

theorem holdPushes : HoldPushes := by
  intro p s hready hline
  refine ⟨fun hfull => congrArg Host.Outcome.next ?_, fun hroom => ⟨_, exec_hold hready hline hroom, ?_⟩⟩
  · refine writeRow_refuses (holdCommand_portless p) hready rfl (bne_iff_ne.2 hline) ?_ (by decide)
    exact if_pos hfull
  · have htaken := pushHold_taken (.port p) .operator noDetail s (by omega)
    have hspec := skipHeld_spec s.hold.nextNumber (pushHold (.port p) .operator noDetail s).hold.stack
    have hframe : pushHold (.port p) .operator noDetail s =
        { s with hold := (pushHold (.port p) .operator noDetail s).hold } := rfl
    have hnext : (pushHold (.port p) .operator noDetail s).hold.nextNumber =
        skipHeld ((pushHold (.port p) .operator noDetail s).hold.stack.map (fun x => x.number))
          (pushHold (.port p) .operator noDetail s).hold.stack.length (numberAfter s.hold.nextNumber) := rfl
    have hstack : (pushHold (.port p) .operator noDetail s).hold.stack ≠ [] ∧
        (pushHold (.port p) .operator noDetail s).hold.stack.length < 255 := by
      rw [(pushHold_stack _ _ _ _).1]
      exact ⟨by simp, by simp; omega⟩
    generalize pushHold (.port p) .operator noDetail s = u at *
    obtain ⟨hne, hlength⟩ := hstack
    obtain ⟨hhold, hhalt⟩ := stackReport_held hne
    have hlevel := stackReport_holdActive u
    have hblocks := stackReport_eq_blocks u
    have hports : (stackReport u).ports = s.ports := by
      rw [hblocks, hframe]
    have hline : u.line = s.line := by rw [hframe]
    have hratio : u.ratioAtNip = s.ratioAtNip := by rw [hframe]; rfl
    refine ⟨?_, fun _ hhigh => ?_, hhalt.congr hline.symm hratio.symm rfl, ?_, ?_, ?_⟩
    · unfold PushTaken at htaken ⊢
      rw [← hhold] at htaken
      exact htaken
    · have hfree := hspec hhigh hlength
      rw [← hnext, ← hhold] at hfree
      obtain ⟨hmem, hlow, hhigh⟩ := hfree
      exact ⟨hlow, hhigh, fun r hr heq => hmem (List.mem_map.2 ⟨r, hr, heq⟩)⟩
    · exact hlevel.trans (by rw [hhold]; exact decide_eq_true hne)
    · show (stackReport u).ports.set p _ = _
      rw [State.port, State.port, hports]
    · unfold State.accepted
      rw [hblocks, hframe]

/-! ### RELEASE (R128 to R132) -/

theorem forbids_iff (o : HoldOwner) (p : PortId) : o.forbids p = true ↔ p ≠ .console ∧ o ≠ .port p := by
  cases o with
  | line => simp [HoldOwner.forbids]
  | port q => simp [HoldOwner.forbids, and_comm]

theorem releasable_iff (s : State) (reason : HoldReason) : s.releasable reason = true ↔ ConditionMet s reason := by
  cases reason with
  | operator | regLost | odometer => simp [State.releasable, ConditionMet]
  | filmOut | webReverse => exact decide_eq_true_iff
  | estop => simp [State.releasable, ConditionMet]
  | linkLost | linkFault | stationTimeout => simp [State.releasable, ConditionMet, allLinksIn_iff]

section
variable {α : Type}

theorem findIdx_of_split {p : α → Bool} {above below : List α} {r : α} (hr : p r = true) (habove : ∀ x ∈ above, p x = false) :
    (above ++ r :: below).findIdx p = above.length := by
  induction above with
  | nil =>
    rw [List.nil_append, List.findIdx_cons, hr]
    rfl
  | cons x xs ih =>
    have hx := habove x List.mem_cons_self
    rw [List.cons_append, List.findIdx_cons, hx, ih fun y hy => habove y (List.mem_cons_of_mem _ hy)]
    rfl

theorem modify_of_split (f : α → α) (above below : List α) (r : α) :
    (above ++ r :: below).modify above.length f = above ++ f r :: below := by
  induction above with
  | nil => rfl
  | cons x xs ih => simpa using ih

end

/-- The stack after an accepted release of the record under those above it (R130). -/
def releasedStack (above : List HoldRecord) (r : HoldRecord) (below : List HoldRecord) : List HoldRecord :=
  if above = [] then below.dropWhile (fun x => x.tag == .released) else above ++ { r with tag := .released } :: below

theorem releaseAt_split (above below : List HoldRecord) (r : HoldRecord) :
    releaseAt above.length (above ++ r :: below) = releasedStack above r below := by
  unfold releaseAt releasedStack
  by_cases htop : above = []
  · rw [if_pos htop, htop]
    rfl
  · rw [if_neg htop, if_neg (by simpa using htop), modify_of_split]

/-- The Hold Unit with the stack after a release. -/
def HoldUnit.released (k : HoldUnit) (stack : List HoldRecord) : HoldUnit :=
  { k with stack := stack, overflow := if stack = [] then false else k.overflow }

/-- The state as a release leaves it, before the report of its stack (R130, R131). -/
def State.popped (s : State) (r : HoldRecord) (stack : List HoldRecord) : State :=
  if r.reason = .regLost then seekLock (s.setHold (s.hold.released stack)) else s.setHold (s.hold.released stack)

theorem popped_eq_blocks (s : State) (r : HoldRecord) (stack : List HoldRecord) : s.popped r stack =
    { s with
      hold := s.hold.released stack
      reg := if r.reason = .regLost then { s.reg with lock := .seeking, unreadRun := 0 } else s.reg
      notices := (s.popped r stack).notices } := by
  unfold State.popped
  split_ifs with hlost
  · unfold seekLock setLock
    rw [passLevel_eq_withNotices]
    rfl
  · rfl

theorem popped_carries (s : State) (r : HoldRecord) (stack : List HoldRecord) : s.Carries (s.popped r stack) := by
  have hset : s.Carries (s.setHold (s.hold.released stack)) := .of_eq rfl
  unfold State.popped
  split_ifs with hlost
  · exact hset.trans (setLock_carries _ _ _)
  · exact hset

section
variable {p : PortId} {number : Byte} {s : State} {above below : List HoldRecord} {r : HoldRecord}

/-- RELEASE of a record on the stack: the checks left, and what an accepted one does. -/
theorem releaseCommand_split (hstack : s.hold.stack = above ++ r :: below) (hr : r.number = number.toNat)
    (habove : ∀ x ∈ above, x.number ≠ number.toNat) : releaseCommand p number.toNat s =
      if r.tag = .released then (s, refuse .state above.length)
      else if r.owner.forbids p then (s, refuse .owner above.length)
      else if s.releasable r.reason = false then (s, refuse .condition above.length)
      else (stackReport (s.popped r (releasedStack above r below)), answerOk (releasedStack above r below).length) := by
  have hdepth : s.hold.stack.findIdx (fun x => x.number == number.toNat) = above.length := by
    rw [hstack]
    exact findIdx_of_split (by simpa using hr) fun x hx => by simpa using habove x hx
  have hfound : s.hold.stack[above.length]? = some r := by rw [hstack]; simp
  have hreleased : releaseAt above.length s.hold.stack = releasedStack above r below := by rw [hstack, releaseAt_split]
  unfold releaseCommand
  rw [if_neg (by rw [hstack]; simp)]
  dsimp only
  rw [hdepth, hfound]
  dsimp only
  unfold acceptRelease
  rw [hreleased]
  rfl

/-- What an accepted RELEASE does, taken from the report of the popped stack. -/
theorem released_report {code : Byte} {stack : List HoldRecord} (hnotRun : s.line.state ≠ .run) :
    let t := (stackReport (s.popped r stack)).accepted p code stack.length
    let resumes := stack = [] ∧ (s.line.state = .halting ∨ s.line.state = .held)
    t.reg = (if r.reason = .regLost then { s.reg with lock := .seeking, unreadRun := 0 } else s.reg) ∧
      (¬ resumes → t.hold = s.hold.released stack ∧ t.line = s.line) ∧
      (resumes → s.line.estop = false → t.hold = s.hold.released stack ∧ t.line = s.lineIn .run) ∧
      (resumes → s.line.estop = true →
        FaultTaken .estop noDetail { s with hold := s.hold.released stack } t ∧ t.line = s.line ∧ s.Latched t 17) ∧
      t.level .holdActive = decide (t.hold.stack ≠ []) ∧
      t.ports = s.ports.set p ((s.port p).answered code .ok stack.length none) ∧
      t = { s with hold := t.hold, line := t.line, reg := t.reg, ports := t.ports, notices := t.notices } := by
  dsimp only
  have hpopped := popped_eq_blocks s r stack
  have hcarries := popped_carries s r stack
  generalize s.popped r stack = u at *
  have hblocks := stackReport_eq_blocks u
  have hhold : u.hold = s.hold.released stack := by rw [hpopped]
  have hline : u.line = s.line := by rw [hpopped]
  have hstack : u.hold.stack = stack := by rw [hhold]; rfl
  have hreg : (stackReport u).reg = if r.reason = .regLost then { s.reg with lock := .seeking, unreadRun := 0 } else s.reg := by
    rw [hblocks, hpopped]
  have hports : (stackReport u).ports = s.ports := by rw [hblocks, hpopped]
  refine ⟨hreg, fun hstays => ?_, fun hresumes hestop => ?_, fun hresumes hestop => ?_, stackReport_holdActive u, ?_, ?_⟩
  · by_cases hempty : stack = []
    · have hrest := stackReport_empty (s := u) (hstack.trans hempty) (by rw [hline]; exact fun h => hstays ⟨hempty, h⟩)
      rwa [hhold, hline] at hrest
    · obtain ⟨hkept, hhalt⟩ := stackReport_held (s := u) (by rw [hstack]; exact hempty)
      refine ⟨hkept.trans hhold, hhalt.trans ?_⟩
      rw [if_neg (by rw [hline]; exact hnotRun), hline]
  · have hrest := stackReport_runs (s := u) (hstack.trans hresumes.1) (by rw [hline]; exact hresumes.2) (by rw [hline]; exact hestop)
    refine ⟨hrest.1.trans hhold, hrest.2.trans ?_⟩
    rw [hpopped]
    rfl
  · obtain ⟨hfault, hkept, hlatched⟩ := stackReport_estop (s := u) (hstack.trans hresumes.1) (by rw [hline]; exact hresumes.2)
      (by rw [hline]; exact hestop)
    refine ⟨hfault.congr hhold.symm ?_ ?_ ?_ rfl, hkept.trans hline, hlatched.before hcarries⟩
    · rw [hpopped]
    · rw [hline]
    · rw [hline]
  · show (stackReport u).ports.set p _ = _
    rw [State.port, State.port, hports]
  · unfold State.accepted
    rw [hblocks, hpopped]

end

theorem releasePopsOrTags : ReleasePopsOrTags := by
  intro p number s hready hruns
  have hrefuses {o : PortOutcome} {v : Nat} (h : releaseCommand p number.toNat s = (s, refuse o v)) (ho : o ≠ .ok) :
      exec (.release p number) s = .next (s.refused p 0x51 o v) :=
    congrArg Host.Outcome.next (writeRow_refuses (releaseCommand_portless p _) hready rfl rfl h ho)
  refine ⟨fun hempty => ?_, fun hne hnone => ?_, fun above r below hstack hr habove => ?_⟩
  · refine hrefuses ?_ (by decide)
    unfold releaseCommand
    rw [if_pos hempty]
  · refine hrefuses ?_ (by decide)
    have hdepth : s.hold.stack[s.hold.stack.findIdx (fun r => r.number == number.toNat)]? = none := by
      rw [List.findIdx_eq_length.2 fun r hr => by simpa using hnone r hr]
      simp
    unfold releaseCommand
    rw [if_neg hne]
    dsimp only
    rw [hdepth]
  · have hsplit := releaseCommand_split (p := p) hstack hr habove
    have hforbids := forbids_iff r.owner p
    have hmet := releasable_iff s r.reason
    dsimp only
    refine ⟨fun htag => ?_, fun htag hforbidden => ?_, fun htag hallowed hunmet => ?_, fun htag hallowed hcond => ?_⟩
    · exact hrefuses (hsplit.trans (if_pos htag)) (by decide)
    · refine hrefuses (hsplit.trans ?_) (by decide)
      rw [if_neg (by simp [htag]), if_pos (hforbids.2 hforbidden)]
    · refine hrefuses (hsplit.trans ?_) (by decide)
      rw [if_neg (by simp [htag]), if_neg (fun h => hallowed (hforbids.1 h)),
        if_pos (Bool.eq_false_iff.2 fun h => hunmet (hmet.1 h))]
    · rw [if_neg (by simp [htag]), if_neg (fun h => hallowed (hforbids.1 h)), if_neg (by simp [hmet.2 hcond])] at hsplit
      have hnotRun : s.line.state ≠ .run := fun h => by
        have hempty := hruns h
        rw [hstack] at hempty
        simp at hempty
      obtain ⟨hreg, hstays, hresumes, hestop, hlevel, hports, hframe⟩ :=
        released_report (p := p) (r := r) (code := 0x51) (stack := releasedStack above r below) hnotRun
      refine ⟨_, congrArg Host.Outcome.next (writeRow_does (releaseCommand_portless p _) hready rfl rfl hsplit), hreg, hstays,
        fun h hoff => ?_, hestop, hlevel, hports, hframe⟩
      obtain ⟨hhold, hline⟩ := hresumes h hoff
      refine ⟨hhold, ?_⟩
      show (stackReport _).line.state = _ ∧ (stackReport _).line.commanded = _ ∧ (stackReport _).line.ratio = _ ∧
        (stackReport _).line.target = _
      rw [show (stackReport (s.popped r (releasedStack above r below))).line = s.lineIn .run from hline]
      exact ⟨rfl, rfl, rfl, rfl⟩

/-- Settles O47: HOLD by the push and the report of its stack, RELEASE by its checks in order and the report of the stack it
leaves. -/
theorem holdsArePushedAndReleased : Obligations.HoldsArePushedAndReleased := ⟨holdPushes, releasePopsOrTags⟩

end Sys2Proof.Machine
end

section
/-! SCRAP PANEL (O45): what the conversion of a scrapped panel keeps of the reprint list and the WASTE cuts. -/

namespace Sys2Proof.Machine

/-- Every cut entry of the panel is WASTE. -/
def State.AllWaste (s : State) (t : Target) : Prop := ∀ c ∈ s.cut.xcut, c.owner = t → c.kind = .waste

/-- Reprint records are only added, and no cut entry is turned back from WASTE (R33, R35, R111). -/
structure State.ScrapsOn (s u : State) : Prop where
  reprints : s.map.reprints <+: u.map.reprints
  waste : ∀ t, s.AllWaste t → u.AllWaste t

theorem State.ScrapsOn.refl (s : State) : s.ScrapsOn s := ⟨⟨[], List.append_nil _⟩, fun _ h => h⟩

theorem State.ScrapsOn.trans {s t u : State} (h : s.ScrapsOn t) (k : t.ScrapsOn u) : s.ScrapsOn u :=
  ⟨h.reprints.trans k.reprints, fun x hx => k.waste x (h.waste x hx)⟩

theorem State.ScrapsOn.of_eq {s u : State} (hmap : u.map = s.map) (hcut : u.cut.xcut = s.cut.xcut) : s.ScrapsOn u := by
  refine ⟨by rw [hmap], fun t h => ?_⟩
  unfold State.AllWaste
  rw [hcut]
  exact h

theorem reprintsWith_extends (s : State) (e : MapEntry) (reason : ScrapReason) : s.map.reprints <+: s.reprintsWith e reason := by
  unfold State.reprintsWith
  split_ifs
  · exact ⟨_, rfl⟩
  · exact ⟨[], List.append_nil _⟩

theorem markScrap_scrapsOn (t : Target) (reason : ScrapReason) (s : State) : s.ScrapsOn (markScrap t reason s) := by
  refine ⟨?_, fun x h => ?_⟩
  · cases he : s.entry t with
    | none =>
      unfold markScrap
      rw [he]
    | some e =>
      by_cases hnone : e.scrap = none
      · rw [markScrap_eq_spoiled he hnone]
        exact reprintsWith_extends s e reason
      · unfold markScrap
        rw [he]
        dsimp only
        rw [if_pos (Option.isSome_iff_ne_none.2 hnone)]
  · have hcut : (markScrap t reason s).cut = s.cut := by simp
    unfold State.AllWaste
    rw [hcut]
    exact h

theorem wasted_scrapsOn (s : State) (t : Target) : s.ScrapsOn (s.wasted t) := by
  refine ⟨⟨[], List.append_nil _⟩, fun x h c hc howner => ?_⟩
  obtain ⟨c', hmem, rfl⟩ := List.mem_map.1 hc
  split_ifs at howner ⊢
  · rfl
  · exact h c' hmem howner

theorem wasted_allWaste (s : State) (t : Target) : (s.wasted t).AllWaste t := by
  intro c hc howner
  obtain ⟨c', -, rfl⟩ := List.mem_map.1 hc
  split_ifs at howner ⊢ with hc'
  · rfl
  · exact absurd howner hc'

theorem slitAttempt_scrapsOn (s : State) : s.ScrapsOn (slitAttempt s) := .of_eq (by simp) (slitAttempt_xcut s)

theorem disposeOver_scrapsOn (i : Nat) (ts : List Target) (s : State) : s.ScrapsOn (disposeOver i ts s) := by
  induction ts generalizing s with
  | nil =>
    have hdrop : s.ScrapsOn (s.setCut { s.cut with slit := s.cut.slit.eraseIdx i }) := .of_eq rfl rfl
    exact hdrop.trans (slitAttempt_scrapsOn _)
  | cons t ts ih =>
    have hclaim (u : State) : u.ScrapsOn (convertCuts t (markScrap t .slitLate u)) := by
      rw [convertCuts_eq_wasted]
      exact (markScrap_scrapsOn t .slitLate u).trans (wasted_scrapsOn _ t)
    have hhand (d : Nat) : s.ScrapsOn (handOn i t d s) := .of_eq rfl rfl
    unfold disposeOver
    dsimp only
    split
    · exact ih s
    · split_ifs
      · exact ih s
      · exact (hhand _).trans ((hclaim _).trans (ih _))
      · exact (hhand _).trans (slitAttempt_scrapsOn _)
      · exact (hclaim s).trans ((slitAttempt_scrapsOn _).trans (ih _))

theorem disposeSlit_scrapsOn (t : Target) (s : State) : s.ScrapsOn (disposeSlit t s) := by
  unfold disposeSlit
  split
  · exact .refl s
  · exact disposeOver_scrapsOn _ _ s

/-- A conversion leaves no cut entry of its panel but WASTE (R111). -/
theorem converted_scraps (s : State) (t : Target) : s.ScrapsOn (s.converted t) ∧ (s.converted t).AllWaste t := by
  have hafter : (s.wasted t).ScrapsOn (s.converted t) := by
    rw [State.converted, ← slitAttempt_eq_slitIssued, ← disposeSlit_eq_disposedOf]
    exact (disposeSlit_scrapsOn t _).trans (slitAttempt_scrapsOn _)
  exact ⟨(wasted_scrapsOn s t).trans hafter, hafter.waste t (wasted_allWaste s t)⟩

theorem converted_carries (s : State) (t : Target) : s.Carries (s.converted t) := by
  rw [← convertPanel_eq_converted]
  exact (convertPanel_moves t s).carries

section
variable {s : State} {e : MapEntry} {reason : ScrapReason}

/-- A claim of a panel short of its commit point converts nothing (R33). -/
theorem claimed_early (he : s.entry e.target = some e) (hnone : e.scrap = none) (hphase : e.phase = .queued ∨ e.phase = .onWeb) :
    s.claimed e.target reason = s.spoiled e reason := by
  rw [State.claimed, he]
  dsimp only
  rw [if_neg (by simp [hnone]), if_neg (by rcases hphase with h | h <;> simp [h])]

theorem claimed_late (he : s.entry e.target = some e) (hnone : e.scrap = none)
    (hphase : e.phase = .committed ∨ e.phase = .atKnife) :
    s.claimed e.target reason = (s.spoiled e reason).converted e.target := by
  rw [State.claimed, he]
  dsimp only
  rw [if_neg (by simp [hnone]), if_pos hphase]

theorem phase_early_or_late (p : Phase) : (p = .queued ∨ p = .onWeb) ∨ (p = .committed ∨ p = .atKnife) := by
  cases p <;> simp

/-- After the claim's own marks the reprint list grows and the notices stay (R33, R35). -/
theorem claimed_follows (he : s.entry e.target = some e) (hnone : e.scrap = none) :
    (s.spoiled e reason).ScrapsOn (s.claimed e.target reason) ∧ (s.spoiled e reason).Carries (s.claimed e.target reason) := by
  rcases phase_early_or_late e.phase with hphase | hphase
  · rw [claimed_early he hnone hphase]
    exact ⟨.refl _, .refl _⟩
  · rw [claimed_late he hnone hphase]
    exact ⟨(converted_scraps _ _).1, converted_carries _ _⟩

theorem claimed_reprints (he : s.entry e.target = some e) (hnone : e.scrap = none) :
    (s.claimed e.target reason).map.reprints.take (s.reprintsWith e reason).length = s.reprintsWith e reason := by
  obtain ⟨later, hlater⟩ := (claimed_follows (reason := reason) he hnone).1.reprints
  rw [← hlater]
  exact List.take_left

theorem claimed_latched (he : s.entry e.target = some e) (hnone : e.scrap = none) :
    s.Latched (s.claimed e.target reason) 11 ∧
      s.Latched (s.claimed e.target reason) (if s.map.reprints.length < 16 then 12 else 13) := by
  obtain ⟨hscrapped, hreprint⟩ := spoiled_latched s e reason
  have hcarries := (claimed_follows (reason := reason) he hnone).2
  exact ⟨hscrapped.carries (by decide) hcarries, hreprint.carries (by split_ifs <;> decide) hcarries⟩

end

/-- SCRAP PANEL of a panel on the map. -/
theorem exec_scrapPanel {s : State} {e : MapEntry} {panel : BitVec 16} (hready : Ready .console s)
    (he : s.byPanel panel.toNat = some e) : exec (.scrapPanel .console panel) s =
      .next ((s.claimed e.target .operator).accepted .console 0x3F (if e.scrap.isNone then 1 else 0)) := by
  refine congrArg Host.Outcome.next (writeRow_does (scrapPanel_portless _) hready rfl rfl ?_)
  unfold scrapPanel
  rw [he, ← scrapClaim_eq_claimed]

/-- Settles O45: SCRAP PANEL by the scrap claim, whose conversion comes after its marks and keeps them. -/
theorem scrapPanelClaimsThePanel : Obligations.ScrapPanelClaimsThePanel := by
  intro panel s hnames hready
  obtain ⟨hpanels, -⟩ := hnames
  refine ⟨fun hnone => ?_, fun e hmem hpanel => ?_⟩
  · refine congrArg Host.Outcome.next (writeRow_refuses (scrapPanel_portless _) hready rfl rfl ?_ (by decide))
    unfold scrapPanel
    rw [byPanel_none hnone]
  · have hby : s.byPanel panel.toNat = some e := by
      rw [← hpanel]
      exact byPanel_of_mem hpanels hmem
    have he := entry_of_byPanel hby
    have hexec := exec_scrapPanel hready hby
    refine ⟨fun hsome => ?_, fun hnone => ?_, fun hnone => ⟨_, hexec, ?_⟩⟩
    · have hkept : s.claimed e.target .operator = s := by
        rw [State.claimed, he]
        dsimp only
        rw [if_pos (Option.isSome_iff_ne_none.1 hsome)]
      obtain ⟨reason, hreason⟩ := Option.isSome_iff_exists.1 hsome
      rw [hexec, hkept, hreason]
      rfl
    · rw [hexec, hnone]
      rfl
    · have hspares := scrapClaim_spares e.target .operator s
      have hblocks := scrapClaim_eq_blocks e.target .operator s
      have hentry := scrapClaim_entry he .operator
      rw [scrapClaim_eq_claimed] at hspares hblocks hentry
      obtain ⟨hscrapped, hreprint⟩ := claimed_latched (reason := .operator) he hnone
      refine ⟨fun hphase => ?_, ?_, claimed_reprints he hnone, fun hphase => ?_, hspares.cuts, hscrapped, hreprint, ?_, ?_⟩
      · rw [claimed_early he hnone hphase]
        exact ⟨rfl, rfl, rfl⟩
      · rw [hnone] at hentry
        exact hentry
      · rw [claimed_late he hnone hphase]
        exact (converted_scraps _ _).2
      · rw [hnone]
        show (s.claimed e.target .operator).ports.set .console _ = _
        rw [State.port, hblocks]
        rfl
      · unfold State.accepted
        rw [hblocks]

end Sys2Proof.Machine
end

section
/-! An accepted ANNOUNCE PANEL (O31). Where the new panel's head stands at the print line, the model passes QUEUE_LOW before the
splice search and again after it; the statement passes it after the search alone, which comes to the same. -/

namespace Sys2Proof.Machine

/-! ### Raises and levels of different notices in either order (R189 to R191) -/

/-- No raise of notice n reaches the copy. -/
abbrev NoticeCopy.Shut (c : NoticeCopy) (n : Nat) : Prop := c.mask.getLsbD n = true ∧ c.latchMasked = false

/-- The copy with notice n latched. -/
def NoticeCopy.marked (n : Nat) (c : NoticeCopy) : NoticeCopy :=
  { c with
    latched := c.latched ||| BitVec.twoPow 25 n
    attn := (c.latched ||| BitVec.twoPow 25 n) &&& ~~~ c.mask != 0 }

theorem NoticeCopy.took_of_shut {c : NoticeCopy} {n : Nat} (h : c.Shut n) : c.took n = c := if_pos h

theorem NoticeCopy.took_of_reached {c : NoticeCopy} {n : Nat} (h : ¬ c.Shut n) : c.took n = c.marked n := if_neg h

theorem NoticeCopy.marked_comm (a b : Nat) (c : NoticeCopy) : (c.marked a).marked b = (c.marked b).marked a := by
  have hsets : c.latched ||| BitVec.twoPow 25 a ||| BitVec.twoPow 25 b = c.latched ||| BitVec.twoPow 25 b ||| BitVec.twoPow 25 a := by
    rw [BitVec.or_assoc, BitVec.or_comm (BitVec.twoPow 25 a), ← BitVec.or_assoc]
  unfold NoticeCopy.marked
  dsimp only
  rw [hsets]

theorem NoticeCopy.took_comm (a b : Nat) (c : NoticeCopy) : (c.took a).took b = (c.took b).took a := by
  by_cases ha : c.Shut a
  · by_cases hb : c.Shut b
    · rw [took_of_shut ha, took_of_shut hb, took_of_shut ha]
    · rw [took_of_shut ha, took_of_reached hb, took_of_shut (c := c.marked b) ha]
  · by_cases hb : c.Shut b
    · rw [took_of_reached ha, took_of_shut hb, took_of_shut (c := c.marked a) hb, took_of_reached ha]
    · rw [took_of_reached ha, took_of_reached hb, took_of_reached (c := c.marked a) hb, took_of_reached (c := c.marked b) ha,
        marked_comm]

theorem NoticeUnit.took_comm (a b : Nat) (u : NoticeUnit) : (u.took a).took b = (u.took b).took a := by
  unfold NoticeUnit.took
  dsimp only
  rw [NoticeCopy.took_comm a b, NoticeCopy.took_comm a b, NoticeCopy.took_comm a b]

/-- The raw level of notice n held as v. -/
def NoticeUnit.holding (n : Nat) (v : Bool) (u : NoticeUnit) : NoticeUnit :=
  { u with levels := if v then u.levels ||| BitVec.twoPow 10 n else u.levels &&& ~~~ BitVec.twoPow 10 n }

theorem NoticeUnit.passed_eq (n : Nat) (v : Bool) (u : NoticeUnit) :
    u.passed n v = if u.levels.getLsbD n = v then u else (u.holding n v).took n := rfl

theorem NoticeUnit.holding_took (n m : Nat) (v : Bool) (u : NoticeUnit) : (u.took m).holding n v = (u.holding n v).took m := rfl

theorem NoticeUnit.holding_level {n m : Nat} (hm : m < 10) (v : Bool) (u : NoticeUnit) :
    (u.holding n v).levels.getLsbD m = if m = n then v else u.levels.getLsbD m := by
  unfold NoticeUnit.holding
  by_cases hmn : m = n
  · subst hmn
    cases v <;> simp [hm]
  · cases v <;> simp [hmn, hm]

theorem NoticeUnit.holding_comm {n m : Nat} (h : n ≠ m) (v w : Bool) (u : NoticeUnit) :
    (u.holding n v).holding m w = (u.holding m w).holding n v := by
  have hlevels : ((u.holding n v).holding m w).levels = ((u.holding m w).holding n v).levels := by
    refine BitVec.eq_of_getLsbD_eq fun k hk => ?_
    rw [NoticeUnit.holding_level hk, NoticeUnit.holding_level hk, NoticeUnit.holding_level hk, NoticeUnit.holding_level hk]
    by_cases hn : k = n
    · rw [if_neg (by omega), if_pos hn, if_pos hn]
    · rw [if_neg hn, if_neg hn]
  show NoticeUnit.mk ((u.holding n v).holding m w).levels _ = NoticeUnit.mk ((u.holding m w).holding n v).levels _
  rw [hlevels]
  rfl

theorem NoticeUnit.passed_took (n m : Nat) (v : Bool) (u : NoticeUnit) : (u.took m).passed n v = (u.passed n v).took m := by
  rw [passed_eq, passed_eq, holding_took, took_comm m n, apply_ite (NoticeUnit.took m)]
  rfl

theorem NoticeUnit.passed_again {n : Nat} (hn : n < 10) (v : Bool) (u : NoticeUnit) :
    (u.passed n v).passed n v = u.passed n v := by
  have hheld : (u.passed n v).levels.getLsbD n = v := by
    rw [passed_eq]
    split_ifs with h
    · exact h
    · exact (holding_level hn v u).trans (if_pos rfl)
  rw [passed_eq n v (u.passed n v), if_pos hheld]

theorem NoticeUnit.passed_comm {n m : Nat} (hn : n < 10) (hm : m < 10) (h : n ≠ m) (v w : Bool) (u : NoticeUnit) :
    (u.passed n v).passed m w = (u.passed m w).passed n v := by
  have hheld : (u.holding n v).passed m w = (u.passed m w).holding n v := by
    rw [passed_eq, passed_eq, holding_level hm, if_neg (Ne.symm h), holding_comm h, apply_ite (NoticeUnit.holding n v)]
    rfl
  have hlevel : (u.passed m w).levels.getLsbD n = u.levels.getLsbD n := by
    rw [passed_eq]
    split_ifs
    · rfl
    · exact (holding_level hn w u).trans (if_neg h)
  rw [passed_eq n v u, passed_eq n v (u.passed m w), hlevel]
  split_ifs
  · rfl
  · rw [passed_took, hheld]

/-! ### The new entry told to Laminator Control (R22 step 6) -/

/-- The splice search, and the decision where the entry's gap is open at the nip (R89, R90). -/
def State.lamTold (s : State) (t : Target) : State :=
  if s.searched.atGap.map MapEntry.target = some t then s.searched.decided else s.searched

theorem lamAnnounced_eq_lamTold (t : Target) (s : State) : lamAnnounced t s = s.lamTold t := by
  unfold lamAnnounced State.lamTold
  dsimp only
  rw [spliceSearch_eq_searched, transitionDecision_eq_decided, State.openTarget, State.gapOpen_eq_atGap]

theorem decided_setNotices (s : State) (n : NoticeUnit) : (s.setNotices n).decided = s.decided.setNotices n := by
  have hasked (o : LamOp) : (s.setNotices n).askedNip o.kind o.final o.target =
      (s.askedNip o.kind o.final o.target).setNotices n := by
    unfold State.askedNip
    dsimp only
    rw [apply_ite (fun t : State => t.setNotices n)]
    rfl
  rw [← transitionDecision_eq_decided, ← transitionDecision_eq_decided]
  cases hop : s.lam.op with
  | some o => rw [transitionDecision_in_flight hop, transitionDecision_in_flight (s := s.setNotices n) hop]
  | none =>
    have hchoice : transitionChoice (s.setNotices n) = transitionChoice s := rfl
    rw [transitionDecision_free hop, transitionDecision_free (s := s.setNotices n) hop, hchoice]
    cases transitionChoice s with
    | none => rfl
    | some o =>
      show issueNip o (s.setNotices n) = (issueNip o s).setNotices n
      rw [issueNip_eq_askedNip, issueNip_eq_askedNip, hasked]

/-- What the search does to the notices: nothing, or GAP_WANTED (R89). -/
def SearchRaises (f : NoticeUnit → NoticeUnit) : Prop := f = id ∨ f = NoticeUnit.took 15

theorem splicePlaced_setNotices (s : State) (t : Target) (n : NoticeUnit) :
    (s.setNotices n).splicePlaced t = (s.splicePlaced t).setNotices n := by
  have hdecided := decided_setNotices (s.placing t) n
  rw [State.splicePlaced, State.splicePlaced, apply_ite (fun t : State => t.setNotices n), ← hdecided]
  rfl

theorem reserved_pending {s : State} (h : s.lam.reservation ≠ none) : s.reserved = s := if_pos h

theorem reserved_posts {s : State} (h : s.lam.reservation = none) : s.reserved =
    (s.setLam { s.lam with reservation := some s.lam.spliceGap }).noticed 15 := if_neg (not_not.2 h)

theorem searched_setNotices (s : State) :
    ∃ f, SearchRaises f ∧ ∀ n, (s.setNotices n).searched = s.searched.setNotices (f n) := by
  by_cases hw : s.lam.request = .wanted
  · cases hv : s.fitting with
    | none =>
      by_cases hnone : s.lam.reservation = none
      · refine ⟨_, .inr rfl, fun n => ?_⟩
        rw [State.searched_of_none hw hv, State.searched_of_none (s := s.setNotices n) hw hv, reserved_posts hnone,
          reserved_posts (s := s.setNotices n) hnone]
        rfl
      · refine ⟨_, .inl rfl, fun n => ?_⟩
        rw [State.searched_of_none hw hv, State.searched_of_none (s := s.setNotices n) hw hv, reserved_pending hnone,
          reserved_pending (s := s.setNotices n) hnone]
        rfl
    | some v =>
      refine ⟨_, .inl rfl, fun n => ?_⟩
      rw [State.searched_of_some hw hv, State.searched_of_some (s := s.setNotices n) hw hv, splicePlaced_setNotices]
      rfl
  · refine ⟨_, .inl rfl, fun n => ?_⟩
    rw [State.searched_of_not_wanted hw, State.searched_of_not_wanted (s := s.setNotices n) hw]
    rfl

theorem lamTold_setNotices (s : State) (t : Target) :
    ∃ f, SearchRaises f ∧ ∀ n, (s.setNotices n).lamTold t = (s.lamTold t).setNotices (f n) := by
  obtain ⟨f, hf, hsearched⟩ := searched_setNotices s
  refine ⟨f, hf, fun n => ?_⟩
  rw [State.lamTold, State.lamTold, hsearched, decided_setNotices, apply_ite (fun t : State => t.setNotices (f n))]
  rfl

/-- What QUEUE_LOW is evaluated from (R42). -/
def PanelMap.queueLow (m : PanelMap) : Bool := decide (m.entries.countP (fun e => e.phase = .queued) ≤ m.low)

theorem placing_queueLow (s : State) (t : Target) : (s.placing t).map.queueLow = s.map.queueLow := by
  have hcount : (s.entriesWith t (fun e => { e with spliceGap := true })).countP (fun e => e.phase = .queued) =
      s.map.entries.countP (fun e => e.phase = .queued) := by
    unfold State.entriesWith
    rw [List.countP_map]
    refine List.countP_congr fun e _ => ?_
    rw [Function.comp_apply]
    split_ifs <;> rfl
  unfold PanelMap.queueLow
  show decide ((s.entriesWith t _).countP _ ≤ _) = _
  rw [hcount]
  rfl

theorem decided_map (s : State) : s.decided.map = s.map := by
  obtain ⟨links, op, h⟩ := s.decided_changes
  rw [h]

theorem searched_queueLow (s : State) : s.searched.map.queueLow = s.map.queueLow := by
  by_cases hw : s.lam.request = .wanted
  · cases hv : s.fitting with
    | none =>
      rw [State.searched_of_none hw hv, State.reserved]
      split_ifs <;> rfl
    | some v =>
      rw [State.searched_of_some hw hv, State.splicePlaced]
      split_ifs
      · rw [decided_map, placing_queueLow]
      · exact placing_queueLow s _
  · rw [State.searched_of_not_wanted hw]

theorem lamTold_queueLow (s : State) (t : Target) : (s.lamTold t).map.queueLow = s.map.queueLow := by
  rw [State.lamTold, apply_ite State.map, decided_map, ite_self, searched_queueLow]

theorem mapLevels_setNotices (s : State) (n : NoticeUnit) : (s.setNotices n).mapLevels =
    s.setNotices ((n.passed 4 (decide (s.map.high ≤ s.map.entries.length))).passed 5 s.map.queueLow) := rfl

/-- QUEUE_LOW passed before the search and after it, and after it alone. -/
theorem lamTold_after_queueLow (s : State) (t : Target) :
    ((s.passed 5 s.map.queueLow).lamTold t).mapLevels = (s.lamTold t).mapLevels := by
  obtain ⟨f, hf, htold⟩ := lamTold_setNotices s t
  have hbefore : (s.passed 5 s.map.queueLow).lamTold t = (s.lamTold t).setNotices (f (s.notices.passed 5 s.map.queueLow)) :=
    htold _
  have hplain : s.lamTold t = (s.lamTold t).setNotices (f s.notices) := htold s.notices
  have hraised : f (s.notices.passed 5 s.map.queueLow) = (f s.notices).passed 5 s.map.queueLow := by
    rcases hf with rfl | rfl
    · rfl
    · exact (NoticeUnit.passed_took _ _ _ _).symm
  calc ((s.passed 5 s.map.queueLow).lamTold t).mapLevels
      = ((s.lamTold t).setNotices ((f s.notices).passed 5 s.map.queueLow)).mapLevels := by rw [hbefore, hraised]
    _ = ((s.lamTold t).setNotices (f s.notices)).mapLevels := by
        rw [mapLevels_setNotices, mapLevels_setNotices, lamTold_queueLow,
          NoticeUnit.passed_comm (n := 5) (m := 4) (by decide) (by decide) (by decide),
          NoticeUnit.passed_again (by decide)]
    _ = (s.lamTold t).mapLevels := by rw [← hplain]

/-! ### The new entry (R17, R18, R22 steps 1 to 5) -/

theorem freeSlot_lowest (es : List MapEntry) : ∀ n < freeSlot es, ∃ e ∈ es, e.slot = n := by
  intro n hn
  have hheld : ¬ es.all (fun e => e.slot != n) = true := by
    unfold freeSlot at hn
    cases hfind : (List.range Config.mapSize).find? (fun n => es.all (fun e => e.slot != n)) with
    | some slot =>
      rw [hfind, Option.getD_some] at hn
      obtain ⟨-, -, hbefore⟩ := List.find?_range_eq_some.1 hfind
      simpa using hbefore n hn
    | none =>
      rw [hfind, Option.getD_none] at hn
      exact List.find?_eq_none.1 hfind n (List.mem_range.2 hn)
  simpa using hheld

/-- The SYNC points of an entry that stand at the odometer value (R13). -/
abbrev Tracker.Syncs (k : Tracker) (head tail : Nat) : Prop :=
  (k.syncMode ≠ .off ∧ head = k.odometer + k.syncLead) ∨ (k.syncMode = .headTail ∧ tail = k.odometer + k.syncLead)

theorem syncCrossings_single (e : MapEntry) (s : State) : syncCrossings [e] s = s.setTracker { s.tracker with
    syncPulse := if s.tracker.Syncs e.head e.tail then some 1 else s.tracker.syncPulse } := by
  have hpoint : [e].any s.tracker.syncPoint = true ↔ s.tracker.Syncs e.head e.tail := by
    unfold Tracker.syncPoint Tracker.Syncs
    cases s.tracker.syncMode <;> simp
  unfold syncCrossings
  by_cases h : s.tracker.Syncs e.head e.tail
  · rw [if_pos (hpoint.2 h), if_pos h]
    rfl
  · rw [if_neg (fun hany => h (hpoint.1 hany)), if_neg h]
    rfl

/-- The state as a new entry has joined the map, its plan, the reservation and SYNC, before the splice search. -/
def State.joined (s : State) (e : MapEntry) : State :=
  { s with
    tracker := { s.tracker with syncPulse := if s.tracker.Syncs e.head e.tail then some 1 else s.tracker.syncPulse }
    map := { s.map with entries := s.map.entries ++ [e], lastTail := e.tail, lastClass := e.cls }
    plans := { s.plans with plans := s.plans.plans.map (fun q => if q.number = e.plan then { q with refs := q.refs + 1 } else q) }
    lam := if s.lam.reservation.isSome then { s.lam with reservation := none, request := .placed e.target } else s.lam }

theorem takeReservation_eq (t : Target) (s : State) : takeReservation t s =
    s.setLam (if s.lam.reservation.isSome then { s.lam with reservation := none, request := .placed t } else s.lam) := by
  unfold takeReservation
  split_ifs <;> rfl

theorem addRef_eq (s : State) (n : Nat) : s.addRef n =
    s.setPlans { s.plans with plans := s.plans.plans.map (fun q => if q.number = n then { q with refs := q.refs + 1 } else q) } := by
  unfold State.addRef State.modifyPlan
  rw [updatePlan_eq_map]

theorem joined_synced (s : State) (e : MapEntry) :
    syncCrossings [e] (takeReservation e.target
      ((s.setMap { s.map with entries := s.map.entries ++ [e], lastTail := e.tail, lastClass := e.cls }).addRef e.plan)) =
      s.joined e := by
  rw [syncCrossings_single, takeReservation_eq, addRef_eq]
  rfl

/-- A new entry, found by its slot at the end of the map, goes on the web. -/
theorem joined_changed {s : State} {e : MapEntry} (hfresh : ∀ x ∈ s.map.entries, x.slot ≠ e.slot) :
    (s.joined e).changed e.target (fun x => { x with phase := .onWeb }) = s.joined { e with phase := .onWeb } := by
  have hentries : (s.joined e).entriesWith e.target (fun x => { x with phase := .onWeb }) =
      s.map.entries ++ [{ e with phase := .onWeb }] := by
    have hold : s.map.entries.map (fun x => if x.slot = e.slot ∧ x.panel = e.panel then { x with phase := .onWeb } else x) =
        s.map.entries :=
      (List.map_congr_left fun x hx => if_neg fun h => hfresh x hx h.1).trans (List.map_id' _)
    show (s.map.entries ++ [e]).map (fun x => if x.slot = e.slot ∧ x.panel = e.panel then { x with phase := .onWeb } else x) = _
    rw [List.map_append, hold, List.map_singleton, if_pos ⟨rfl, rfl⟩]
  show ({ s.joined e with map := { (s.joined e).map with entries := (s.joined e).entriesWith e.target _ } } : State) = _
  rw [hentries]
  rfl

theorem startTracking_joined {s : State} {e : MapEntry} (hfresh : ∀ x ∈ s.map.entries, x.slot ≠ e.slot)
    (hphase : e.phase = .queued) :
    let w := s.joined { e with phase := if e.head = s.tracker.odometer then .onWeb else .queued }
    startTracking e (takeReservation e.target
      ((s.setMap { s.map with entries := s.map.entries ++ [e], lastTail := e.tail, lastClass := e.cls }).addRef e.plan)) =
      if e.head = s.tracker.odometer then w.passed 5 w.map.queueLow else w := by
  have hodometer : (takeReservation e.target ((s.setMap
      { s.map with entries := s.map.entries ++ [e], lastTail := e.tail, lastClass := e.cls }).addRef e.plan)).tracker = s.tracker := by
    rw [takeReservation_eq, addRef_eq]
    rfl
  unfold startTracking
  dsimp only
  rw [joined_synced, hodometer]
  by_cases hhead : e.head = s.tracker.odometer
  · rw [if_pos hhead, if_pos hhead, if_pos hhead, printLineCrossing_eq, joined_changed hfresh]
    rfl
  · rw [if_neg hhead, if_neg hhead, if_neg hhead, ← hphase]

/-- An accepted announcement (R22), in the words of the statement. -/
theorem acceptPanel_eq {a : Announcement} {cls : LamClass} {policy : MarkPolicy} {s : State} (hroom : s.map.entries.length < 48) :
    let e := newEntry a cls policy s
    acceptPanel a cls policy s =
      (((s.joined { e with phase := if e.head = s.tracker.odometer then .onWeb else .queued }).lamTold e.target).mapLevels,
        { outcome := .ok, value := e.head, slot := some e.slot }) := by
  dsimp only
  have htracked := startTracking_joined (s := s) (e := newEntry a cls policy s) (freeSlot_free s.map.entries hroom).2 rfl
  dsimp only at htracked
  have hstate : (acceptPanel a cls policy s).1 = (lamAnnounced (newEntry a cls policy s).target
      (startTracking (newEntry a cls policy s) (takeReservation (newEntry a cls policy s).target ((s.setMap
        { s.map with
          entries := s.map.entries ++ [newEntry a cls policy s], lastTail := (newEntry a cls policy s).tail
          lastClass := (newEntry a cls policy s).cls }).addRef (newEntry a cls policy s).plan)))).mapLevels := by
    rw [← evalMapLevels_eq_mapLevels]
    rfl
  refine Prod.ext (hstate.trans ?_) rfl
  rw [htracked, lamAnnounced_eq_lamTold]
  by_cases hhead : (newEntry a cls policy s).head = s.tracker.odometer
  · rw [if_pos hhead]
    exact lamTold_after_queueLow _ _
  · rw [if_neg hhead]

/-! ### The checks passed (R21) -/

/-- The class and the policy that the codes stand for, those in range. -/
def classNamed (n : Nat) : LamClass := if n = 1 then .film else .bare
def policyNamed (n : Nat) : MarkPolicy := if n = 0 then .unmarked else if n = 1 then .optional else .required

theorem lamClassOf_some {n : Nat} {cls : LamClass} (h : lamClassOf n = some cls) : cls = classNamed n := by
  match n with
  | 0 | 1 =>
    cases h
    rfl
  | n + 2 => cases h

theorem markPolicyOf_some {n : Nat} {policy : MarkPolicy} (h : markPolicyOf n = some policy) : policy = policyNamed n := by
  match n with
  | 0 | 1 | 2 =>
    cases h
    rfl
  | n + 3 => cases h

theorem newWindow_named (n expected halfWidth : Nat) : newWindow (policyNamed n) expected halfWidth =
    if n = 0 then none else some { expected := expected, halfWidth := halfWidth, status := .notOpen } := by
  have hunmarked : policyNamed n = .unmarked ↔ n = 0 := by
    unfold policyNamed
    split_ifs <;> simp_all
  unfold newWindow
  exact if_congr hunmarked rfl rfl

/-- The new entry of an announcement whose codes are in range (R17). -/
def State.announced (s : State) (a : Announcement) : MapEntry :=
  { slot := freeSlot s.map.entries, panel := a.panel, head := s.proposedHead a.gap, length := a.length
    cls := classNamed a.cls, policy := policyNamed a.policy, plan := a.plan, tailBefore := s.map.lastTail, phase := .queued
    tailCleared := false, regResult := none, offset := 0, spliceGap := s.lam.reservation.isSome, scrap := none
    cutsMade := 0, cutsPending := 0
    window := if a.policy = 0 then none else
      some { expected := s.proposedHead a.gap + s.tracker.zones.mark, halfWidth := s.reg.halfWidth, status := .notOpen }
    nip := .ahead, slitter := .ahead }

theorem newEntry_eq_announced (a : Announcement) (s : State) :
    newEntry a (classNamed a.cls) (policyNamed a.policy) s = s.announced a := by
  have hwindow := newWindow_named a.policy (s.proposedHead a.gap + s.tracker.zones.mark) s.reg.halfWidth
  unfold newEntry State.announced
  dsimp only
  rw [hwindow]

/-- An announcement no check of R21's table fails is accepted, and finds room. -/
theorem announcePanel_accepted {a : Announcement} {s : State}
    (h : firstFailure (announceChecks a.panel a.length a.cls a.policy a.plan a.gap s) = none) :
    s.map.entries.length < 48 ∧ announcePanel a s = acceptPanel a (classNamed a.cls) (policyNamed a.policy) s := by
  rw [announceChecks_eq_parts, firstFailure_cons, firstFailure_append, firstFailure_append,
    ← announceRange_eq_firstFailure, ← announceNames_eq_firstFailure] at h
  have hroom : ¬ Config.mapSize ≤ s.map.entries.length := fun hfull => by
    rw [if_pos (decide_eq_true hfull)] at h
    cases h
  rw [if_neg (mt of_decide_eq_true hroom), Option.or_eq_none_iff, Option.or_eq_none_iff, Option.map_eq_none_iff] at h
  obtain ⟨hrange, hnames, hgaps⟩ := h
  obtain ⟨⟨cls, hcls⟩, policy, hpolicy⟩ := announceRange_passes a s hrange
  rw [← announceGaps_eq_firstFailure a cls s hcls] at hgaps
  refine ⟨Nat.lt_of_not_le hroom, ?_⟩
  unfold announcePanel
  rw [if_neg hroom]
  simp only [hrange, hnames, hcls, hpolicy, hgaps]
  rw [lamClassOf_some hcls, markPolicyOf_some hpolicy]

/-- Settles O31: ANNOUNCE PANEL by its row, the checks passed, and the steps of an accepted announcement. -/
theorem announcementsAppendTheEntry : Obligations.AnnouncementsAppendTheEntry := by
  intro panel length cls policy plan gap s hready hall
  let a : Announcement := { panel := panel.toNat, length := length.toNat, cls := cls.toNat, policy := policy.toNat,
                            plan := plan.toNat, gap := gap.toNat }
  have hpasses : firstFailure (announceChecks a.panel a.length a.cls a.policy a.plan a.gap s) = none := by
    refine Option.map_eq_none_iff.2 (List.find?_eq_none.2 fun x hx => ?_)
    have hfails := List.all_eq_true.1 hall x hx
    simpa using hfails
  obtain ⟨hroom, hbody⟩ := announcePanel_accepted hpasses
  obtain ⟨hslot, hfree⟩ := freeSlot_free s.map.entries hroom
  refine ⟨freeSlot s.map.entries, hslot, hfree, freeSlot_lowest s.map.entries, ?_⟩
  have haccepted := hbody.trans (acceptPanel_eq hroom)
  have hrow := writeRow_portless (p := .print) (r := rowAnnouncePanel) (announcePanel_portless a) hready.2
    (portCheck_passes .print rowAnnouncePanel s hready.1 rfl rfl) (by rw [haccepted])
  rw [haccepted] at hrow
  rw [exec_announcePanel]
  refine congrArg Host.Outcome.next (hrow.trans ?_)
  rw [newEntry_eq_announced]
  rfl

end Sys2Proof.Machine
end
